-- ==== Sys2Proof/Word.lean ====
section
/-!
DEFINITION. The byte and word types of the ports, and the one update of a fixed-size table.
-/

namespace Sys2Proof

/-- A byte as a port partner sees it (R197). -/
abbrev Byte := BitVec 8

/-- A two-byte parameter or answer field, most significant byte first (R209). -/
abbrev Word16 := BitVec 16

/-- A three-byte parameter or answer field, most significant byte first (R209). -/
abbrev Word24 := BitVec 24

/-- The entry `i` of a fixed table replaced by `f` of itself, every other entry kept. -/
def upd {α : Type} {n : Nat} (v : Vector α n) (i : Fin n) (f : α → α) : Vector α n :=
  v.set i (f v[i])

theorem upd_getElem {α : Type} {n : Nat} (v : Vector α n) (i : Fin n) (f : α → α) (j : Nat)
    (hj : j < n) : (upd v i f)[j] = if (i : Nat) = j then f v[i] else v[j] := by
  simp [upd, Vector.getElem_set]

@[simp] theorem upd_get_same {α : Type} {n : Nat} (v : Vector α n) (i : Fin n) (f : α → α) :
    (upd v i f)[(i : Nat)] = f v[i] := by
  simp [upd_getElem]

theorem upd_get {α : Type} {n : Nat} (v : Vector α n) (i j : Fin n) (f : α → α) :
    (upd v i f)[j] = if i = j then f v[i] else v[j] := by
  simp [upd_getElem, Fin.ext_iff]

theorem upd_get_other {α : Type} {n : Nat} (v : Vector α n) (i j : Fin n) (f : α → α)
    (h : i ≠ j) : (upd v i f)[j] = v[j] := by
  rw [upd_get, if_neg h]

end Sys2Proof
end

