-- ==== Sys2Proof/Syntax.lean ====
section
/-!
DEFINITION. The commands and events of the part: one constructor of `Instr` for each row of
spec/opcode_table.json, with the row's operands.

Port commands carry the port they are sent on and their parameters as the port sees them
(bytes, two-byte and three-byte fields, R209), so that every BAD_PARAM of the manual can be reached.
Field events carry the lane, screen, channel, row line, runner or domain they happen at, as an index
from 0: lane `n`, screen `n`, channel `n`, runner `n`, domain `n` and row line `n` of the manual are
the indexes `n - 1`.
-/

namespace Sys2Proof

/-- The two command ports (R196). -/
inductive PortId where
  | booth
  | counter
  deriving DecidableEq, Repr

/-- The two detector loops of a lane (R41). -/
inductive Loop where
  | a
  | b
  deriving DecidableEq, Repr

/-- The three projector inputs of a screen (R68). -/
inductive ProjectorInput where
  | running
  | fault
  | mark
  deriving DecidableEq, Repr

/-- The two projector inputs that are qualified as levels (R68). -/
inductive ProjectorLevel where
  | running
  | fault
  deriving DecidableEq, Repr

/-- The two status inputs of a domain (R169). -/
inductive DomainInput where
  | ready
  | stopAck
  deriving DecidableEq, Repr

/-- The twelve keys of a post (R107). -/
inductive Key where
  | digit (d : Fin 10)
  | star
  | hash
  deriving DecidableEq, Repr

/-- The tones on a row line, one bit for each tone of the low group of four and of the high group of three; tone `n` is
bit `n - 1` of its group (R107). -/
structure Tones where
  low : BitVec 4
  high : BitVec 3
  deriving DecidableEq, Repr

/-- What the tone detector of a row line finds (R107). -/
inductive Finding where
  | noPair
  | pair (k : Key)
  | clash
  deriving DecidableEq, Repr

/-- One order line as a PLACE command carries it: an item byte, then a quantity byte (R209). -/
structure RawLine where
  item : Byte
  quantity : Byte
  deriving DecidableEq, Repr

/-- The steps of the part, one constructor for each row of the table. -/
inductive Instr where
  -- resets and frames
  | powerOnReset
  | resetRelease
  | startUpCheckEnd
  | frameBegin (p : PortId)
  | frameEnd (p : PortId)
  | frameTimerExpiry (p : PortId)
  | portClockRisingEdge (p : PortId) (din : Bool)
  -- port commands of the ports and of the record memory
  | nop (p : PortId)
  | readPort (p : PortId)
  | readAttention (p : PortId)
  | setAttentionMask (p : PortId) (mask : Word24)
  | readReport (p : PortId)
  | partReset (p : PortId)
  | readIntegrity (p : PortId)
  | clearIntegrity (p : PortId)
  | patrolRead
  -- gate lanes and admissions
  | loopInputChange (lane : Fin 4) (loop : Loop) (occupied : Bool)
  | presenceTimerExpiry (lane : Fin 4) (loop : Loop)
  | upChange (lane : Fin 4) (high : Bool)
  | barrierTimerExpiry (lane : Fin 4)
  | stuckTimerExpiry (lane : Fin 4)
  | voidTimerExpiry (lane : Fin 4)
  | returnTimerExpiry (lane : Fin 4)
  | tabClear (lane : Fin 4)
  | admitCar (p : PortId) (lane screen cls : Byte) (stall : Word16)
  | void (p : PortId) (handle : Word16)
  | exit (p : PortId) (lane : Byte) (handle : Word16)
  | clearLane (p : PortId) (lane : Byte)
  | readLane (p : PortId) (lane : Byte)
  | move (p : PortId) (handle : Word16) (screen : Byte) (stall : Word16)
  | lookupAdmission (p : PortId) (handle : Word16)
  | repair (p : PortId) (handle : Word16) (cls lane : Byte) (entryTime : Word24)
  | forceRetireAdmission (p : PortId) (handle : Word16)
  -- the lot
  | closeStall (p : PortId) (screen : Byte) (stall : Word16)
  | openStall (p : PortId) (screen : Byte) (stall : Word16)
  | lookupStall (p : PortId) (screen : Byte) (stall : Word16)
  | readField (p : PortId) (screen : Byte)
  -- screens and shows
  | loadShow (p : PortId) (screen count : Byte) (segments : List (BitVec 32)) (start : Word24)
  | setStart (p : PortId) (screen : Byte) (start : Word24)
  | startNow (p : PortId) (screen : Byte)
  | holdShow (p : PortId) (screen : Byte)
  | resumeShow (p : PortId) (screen : Byte)
  | endShow (p : PortId) (screen : Byte)
  | readScreen (p : PortId) (screen : Byte)
  | projectorInputChange (screen : Fin 6) (input : ProjectorInput) (high : Bool)
  | projectorLevelChange (screen : Fin 6) (which : ProjectorLevel)
  | markTaken (screen : Fin 6)
  | startTimerExpiry (screen : Fin 6)
  | segmentOverrun (screen : Fin 6)
  | nightClockSecond
  -- carrier channels and row displays
  | retune (p : PortId) (screen : Byte)
  | quarantineChannel (p : PortId) (channel : Byte)
  | readChannels (p : PortId)
  | carrierOkChange (screen : Fin 6) (high : Bool)
  | carrierFault (screen : Fin 6)
  | announceTimerExpiry (screen : Fin 6)
  | channelSecond
  | quarantineExpiry (channel : Fin 12)
  | displayWordStart
  | displayWordSent
  -- call posts
  | toneFindingChange (row : Fin 48) (tones : Tones)
  | onTimerExpiry (row : Fin 48)
  | dropoutTimerExpiry (row : Fin 48)
  | maxHoldTimerExpiry (row : Fin 48)
  | offTimerExpiry (row : Fin 48)
  | cycleTimerExpiry (row : Fin 48)
  | interKeyTimeout (row : Fin 48)
  | answerToneEnd (row : Fin 48)
  | requestAnswer (row : Fin 48)
  | abortRow (p : PortId) (line : Byte)
  | readRow (p : PortId) (line : Byte)
  -- orders, the kitchen and the runners
  | place (p : PortId) (screen : Byte) (stall : Word16) (count : Byte) (lines : List RawLine)
  | placeRequest (row : Fin 48)
  | cancelNewest (row : Fin 48)
  | confirm (row : Fin 48)
  | take (p : PortId) (handle : Option Word16)
  | ready (p : PortId) (handle : Word16)
  | dispatch (p : PortId) (runner count : Byte) (handles : List Word16)
  | tripTimerExpiry (runner : Fin 12)
  | delivered (p : PortId) (handle : Word16)
  | runnerBack (p : PortId) (runner : Byte)
  | cancel (p : PortId) (handle : Word16)
  | handover (p : PortId) (handle : Word16)
  | runnerOn (p : PortId) (runner : Byte)
  | runnerOff (p : PortId) (runner : Byte)
  | readRunner (p : PortId) (runner : Byte)
  | queuePeek (p : PortId)
  | lookupOrder (p : PortId) (handle : Word16)
  | forceRetireOrder (p : PortId) (handle : Word16)
  | settle (p : PortId) (handle : Word16) (amount : Word24)
  -- the night
  | openNight (p : PortId)
  | closeNight (p : PortId)
  | forceClose (p : PortId)
  | readTotals (p : PortId)
  -- equipment domains
  | setRestPlan (p : PortId) (plan : Byte)
  | rest (p : PortId)
  | wake (p : PortId) (domain : Byte)
  | readDomains (p : PortId)
  | domainInputChange (domain : Fin 8) (input : DomainInput) (high : Bool)
  | domainLevelChange (domain : Fin 8) (input : DomainInput)
  | acknowledgeTimerExpiry (domain : Fin 8)
  | wakeTimerExpiry (domain : Fin 8)
  -- the standing store
  | storeRead (p : PortId) (area unit : Byte)
  | storeProgram (p : PortId) (area unit : Byte) (content : List Byte)
  | storeProgramComplete
  | storeErase (p : PortId) (area : Byte)
  | storeEraseComplete
  | storeStatus (p : PortId)
  deriving DecidableEq, Repr

end Sys2Proof
end

