-- ==== Sys2Proof/WellFormed.lean ====
section
/-!
DEFINITION. Which commands a frame can carry whole. A frame's parameters are at most 44 bytes, a command that
carries a count carries as many entries (R199 check 5), and STORE_PROGRAM carries 16 content bytes (R190). Every
other operand is in range by its type.
-/

namespace Sys2Proof

/-- The parameter length of a command whose length depends on what it carries (the command summary of
chapter 11); 0 for every other step, whose operands are in range by their types. -/
def Instr.variableLength : Instr → Nat
  | .loadShow _ _ _ segments _ => 5 + 4 * segments.length
  | .place _ _ _ _ lines => 4 + 2 * lines.length
  | .dispatch _ _ _ handles => 2 + 2 * handles.length
  | .storeProgram _ _ _ content => 2 + content.length
  | _ => 0

/-- The count byte that a command carries agrees with its entries, and a STORE_PROGRAM has its 16 bytes. -/
def Instr.countGood : Instr → Bool
  | .loadShow _ _ count segments _ => count.toNat == segments.length
  | .place _ _ _ count lines => count.toNat == lines.length
  | .dispatch _ _ count handles => count.toNat == handles.length
  | .storeProgram _ _ _ content => content.length == 16
  | _ => true

/-- The command fits a frame: at most 44 parameter bytes, and the entries that its count states. -/
def Instr.wf (i : Instr) : Bool := i.variableLength ≤ 44 && i.countGood

end Sys2Proof
end

