-- ==== Sys2Proof/Decode.lean ====
section
/-!
DEFINITION. The commands as frames carry them (the command summary of chapter 11): the reading of a command code
and its parameter bytes, and the code and bytes that carry a command. The table gives no bits to its rows, so no
table word spells a command.
-/

namespace Sys2Proof

/-- The command that a table word spells: the table gives none of its rows any bits. -/
def decodeTableWord (_nbits _w : Nat) : Option Instr := none

/-- Two bytes as one field, most significant first (R209). -/
def word16 (a b : Byte) : Word16 := a ++ b

/-- Three bytes as one field (R209). -/
def word24 (a b c : Byte) : Word24 := a ++ b ++ c

/-- Four bytes as one segment (R209). -/
def word32 (a b c d : Byte) : BitVec 32 := a ++ b ++ c ++ d

/-- The codes of the command summary (chapter 11). -/
def commandCodes : List Byte :=
  [0x00, 0x01, 0x02, 0x03, 0x04, 0x05, 0x08, 0x09, 0x10, 0x11, 0x12, 0x13, 0x14, 0x15, 0x16, 0x17, 0x18,
    0x20, 0x21, 0x22, 0x23] ++
  [0x28, 0x29, 0x2A, 0x2B, 0x2C, 0x2D, 0x2E, 0x30, 0x31, 0x32, 0x38, 0x39, 0x40, 0x41, 0x42, 0x43, 0x44,
    0x45, 0x46, 0x47, 0x48, 0x49, 0x4A, 0x4B, 0x4C, 0x4D, 0x50] ++
  [0x58, 0x59, 0x5A, 0x5B, 0x60, 0x61, 0x62, 0x63, 0x68, 0x69, 0x6A, 0x6B]

/-- The first `k` segments of a parameter list, and what follows them. -/
def takeSegments : Nat → List Byte → Option (List (BitVec 32) × List Byte)
  | 0, l => some ([], l)
  | k + 1, a :: b :: c :: d :: l =>
    (takeSegments k l).map fun x => (word32 a b c d :: x.1, x.2)
  | _ + 1, _ => none

/-- A parameter list of exactly `k` order lines (R129). -/
def takeLines : Nat → List Byte → Option (List RawLine)
  | 0, [] => some []
  | k + 1, a :: b :: l => (takeLines k l).map fun x => { item := a, quantity := b } :: x
  | _, _ => none

/-- A parameter list of exactly `k` handles (R135). -/
def takeHandles : Nat → List Byte → Option (List Word16)
  | 0, [] => some []
  | k + 1, a :: b :: l => (takeHandles k l).map fun x => word16 a b :: x
  | _, _ => none

/-- The parameters of LOAD_SHOW after its count (R69). -/
def decodeShow (p : PortId) (screen count : Byte) (l : List Byte) : Option Instr :=
  match takeSegments count.toNat l with
  | some (segments, [a, b, c]) => some (.loadShow p screen count segments (word24 a b c))
  | _ => none

/-- The commands of codes 0x00 to 0x23: ports, record memory, lanes, admissions and stalls. -/
def decodeSite (p : PortId) (code : Byte) (l : List Byte) : Option Instr :=
  match code.toNat, l with
  | 0x00, [] => some (.nop p)
  | 0x01, [] => some (.readPort p)
  | 0x02, [] => some (.readAttention p)
  | 0x03, [a, b, c] => some (.setAttentionMask p (word24 a b c))
  | 0x04, [] => some (.readReport p)
  | 0x05, [] => some (.partReset p)
  | 0x08, [] => some (.readIntegrity p)
  | 0x09, [] => some (.clearIntegrity p)
  | 0x10, [a, b, c, d, e] => some (.admitCar p a b c (word16 d e))
  | 0x11, [a, b] => some (.void p (word16 a b))
  | 0x12, [a, b, c] => some (.exit p a (word16 b c))
  | 0x13, [a] => some (.clearLane p a)
  | 0x14, [a] => some (.readLane p a)
  | 0x15, [a, b, c, d, e] => some (.move p (word16 a b) c (word16 d e))
  | 0x16, [a, b] => some (.lookupAdmission p (word16 a b))
  | 0x17, [a, b, c, d, e, f, g] => some (.repair p (word16 a b) c d (word24 e f g))
  | 0x18, [a, b] => some (.forceRetireAdmission p (word16 a b))
  | 0x20, [a, b, c] => some (.closeStall p a (word16 b c))
  | 0x21, [a, b, c] => some (.openStall p a (word16 b c))
  | 0x22, [a, b, c] => some (.lookupStall p a (word16 b c))
  | 0x23, [a] => some (.readField p a)
  | _, _ => none

/-- The commands of codes 0x28 to 0x39: shows, channels and rows. -/
def decodeShows (p : PortId) (code : Byte) (l : List Byte) : Option Instr :=
  match code.toNat, l with
  | 0x28, a :: b :: rest => decodeShow p a b rest
  | 0x29, [a, b, c, d] => some (.setStart p a (word24 b c d))
  | 0x2A, [a] => some (.startNow p a)
  | 0x2B, [a] => some (.holdShow p a)
  | 0x2C, [a] => some (.resumeShow p a)
  | 0x2D, [a] => some (.endShow p a)
  | 0x2E, [a] => some (.readScreen p a)
  | 0x30, [a] => some (.retune p a)
  | 0x31, [a] => some (.quarantineChannel p a)
  | 0x32, [] => some (.readChannels p)
  | 0x38, [a] => some (.abortRow p a)
  | 0x39, [a] => some (.readRow p a)
  | _, _ => none

/-- The commands of codes 0x40 to 0x50: orders, kitchen, runners and settlement. -/
def decodeOrders (p : PortId) (code : Byte) (l : List Byte) : Option Instr :=
  match code.toNat, l with
  | 0x40, a :: b :: c :: d :: rest => (takeLines d.toNat rest).map (.place p a (word16 b c) d)
  | 0x41, [] => some (.take p none)
  | 0x41, [a, b] => some (.take p (some (word16 a b)))
  | 0x42, [a, b] => some (.ready p (word16 a b))
  | 0x43, a :: b :: rest => (takeHandles b.toNat rest).map (.dispatch p a b)
  | 0x44, [a, b] => some (.delivered p (word16 a b))
  | 0x45, [a] => some (.runnerBack p a)
  | 0x46, [a, b] => some (.cancel p (word16 a b))
  | 0x47, [a, b] => some (.handover p (word16 a b))
  | 0x48, [a] => some (.runnerOn p a)
  | 0x49, [a] => some (.runnerOff p a)
  | 0x4A, [a] => some (.readRunner p a)
  | 0x4B, [] => some (.queuePeek p)
  | 0x4C, [a, b] => some (.lookupOrder p (word16 a b))
  | 0x4D, [a, b] => some (.forceRetireOrder p (word16 a b))
  | 0x50, [a, b, c, d, e] => some (.settle p (word16 a b) (word24 c d e))
  | _, _ => none

/-- The commands of codes 0x58 to 0x6B: the night, the domains and the store. -/
def decodeNight (p : PortId) (code : Byte) (l : List Byte) : Option Instr :=
  match code.toNat, l with
  | 0x58, [] => some (.openNight p)
  | 0x59, [] => some (.closeNight p)
  | 0x5A, [] => some (.forceClose p)
  | 0x5B, [] => some (.readTotals p)
  | 0x60, [a] => some (.setRestPlan p a)
  | 0x61, [] => some (.rest p)
  | 0x62, [a] => some (.wake p a)
  | 0x63, [] => some (.readDomains p)
  | 0x68, [a, b] => some (.storeRead p a b)
  | 0x69, a :: b :: rest => if rest.length = 16 then some (.storeProgram p a b rest) else none
  | 0x6A, [a] => some (.storeErase p a)
  | 0x6B, [] => some (.storeStatus p)
  | _, _ => none

/-- The command that a code and its parameter bytes spell on a port; none when the code is unknown or the bytes are
not of the command's length (Command summary). -/
def decodeCommand (p : PortId) (code : Byte) (l : List Byte) : Option Instr :=
  if code.toNat < 0x28 then decodeSite p code l
  else if code.toNat < 0x40 then decodeShows p code l
  else if code.toNat < 0x58 then decodeOrders p code l
  else decodeNight p code l

/-- The byte `k` of a field, counted from the least significant. -/
def byteAt {n : Nat} (w : BitVec n) (k : Nat) : Byte := w.extractLsb' (8 * k) 8

/-- A two-byte field, most significant first (R209). -/
def wordBytes (w : Word16) : List Byte := [byteAt w 1, byteAt w 0]

/-- A three-byte field (R209). -/
def wordBytes3 (w : Word24) : List Byte := [byteAt w 2, byteAt w 1, byteAt w 0]

/-- A segment (R209). -/
def segmentBytes (w : BitVec 32) : List Byte := [byteAt w 3, byteAt w 2, byteAt w 1, byteAt w 0]

/-- The code and parameter bytes that carry a port command on its port; none for a step that is no port command
(Command summary). -/
def encodeCommand : Instr → Option (PortId × Byte × List Byte)
  | .nop p => some (p, 0x00, [])
  | .readPort p => some (p, 0x01, [])
  | .readAttention p => some (p, 0x02, [])
  | .setAttentionMask p m => some (p, 0x03, wordBytes3 m)
  | .readReport p => some (p, 0x04, [])
  | .partReset p => some (p, 0x05, [])
  | .readIntegrity p => some (p, 0x08, [])
  | .clearIntegrity p => some (p, 0x09, [])
  | .admitCar p lane screen cls stall => some (p, 0x10, [lane, screen, cls] ++ wordBytes stall)
  | .void p h => some (p, 0x11, wordBytes h)
  | .exit p lane h => some (p, 0x12, lane :: wordBytes h)
  | .clearLane p lane => some (p, 0x13, [lane])
  | .readLane p lane => some (p, 0x14, [lane])
  | .move p h screen stall => some (p, 0x15, wordBytes h ++ screen :: wordBytes stall)
  | .lookupAdmission p h => some (p, 0x16, wordBytes h)
  | .repair p h cls lane t => some (p, 0x17, wordBytes h ++ cls :: lane :: wordBytes3 t)
  | .forceRetireAdmission p h => some (p, 0x18, wordBytes h)
  | .closeStall p screen stall => some (p, 0x20, screen :: wordBytes stall)
  | .openStall p screen stall => some (p, 0x21, screen :: wordBytes stall)
  | .lookupStall p screen stall => some (p, 0x22, screen :: wordBytes stall)
  | .readField p screen => some (p, 0x23, [screen])
  | .loadShow p screen count segments start =>
    some (p, 0x28, screen :: count :: (segments.flatMap segmentBytes ++ wordBytes3 start))
  | .setStart p screen start => some (p, 0x29, screen :: wordBytes3 start)
  | .startNow p screen => some (p, 0x2A, [screen])
  | .holdShow p screen => some (p, 0x2B, [screen])
  | .resumeShow p screen => some (p, 0x2C, [screen])
  | .endShow p screen => some (p, 0x2D, [screen])
  | .readScreen p screen => some (p, 0x2E, [screen])
  | .retune p screen => some (p, 0x30, [screen])
  | .quarantineChannel p channel => some (p, 0x31, [channel])
  | .readChannels p => some (p, 0x32, [])
  | .abortRow p line => some (p, 0x38, [line])
  | .readRow p line => some (p, 0x39, [line])
  | .place p screen stall count lines =>
    some (p, 0x40, screen :: (wordBytes stall ++ count :: lines.flatMap fun l => [l.item, l.quantity]))
  | .take p none => some (p, 0x41, [])
  | .take p (some h) => some (p, 0x41, wordBytes h)
  | .ready p h => some (p, 0x42, wordBytes h)
  | .dispatch p runner count handles => some (p, 0x43, runner :: count :: handles.flatMap wordBytes)
  | .delivered p h => some (p, 0x44, wordBytes h)
  | .runnerBack p runner => some (p, 0x45, [runner])
  | .cancel p h => some (p, 0x46, wordBytes h)
  | .handover p h => some (p, 0x47, wordBytes h)
  | .runnerOn p runner => some (p, 0x48, [runner])
  | .runnerOff p runner => some (p, 0x49, [runner])
  | .readRunner p runner => some (p, 0x4A, [runner])
  | .queuePeek p => some (p, 0x4B, [])
  | .lookupOrder p h => some (p, 0x4C, wordBytes h)
  | .forceRetireOrder p h => some (p, 0x4D, wordBytes h)
  | .settle p h amount => some (p, 0x50, wordBytes h ++ wordBytes3 amount)
  | .openNight p => some (p, 0x58, [])
  | .closeNight p => some (p, 0x59, [])
  | .forceClose p => some (p, 0x5A, [])
  | .readTotals p => some (p, 0x5B, [])
  | .setRestPlan p plan => some (p, 0x60, [plan])
  | .rest p => some (p, 0x61, [])
  | .wake p domain => some (p, 0x62, [domain])
  | .readDomains p => some (p, 0x63, [])
  | .storeRead p area unit => some (p, 0x68, [area, unit])
  | .storeProgram p area unit content => some (p, 0x69, area :: unit :: content)
  | .storeErase p area => some (p, 0x6A, [area])
  | .storeStatus p => some (p, 0x6B, [])
  | _ => none

end Sys2Proof
end

