-- ==== Sys2Proof/Config.lean ====
section
/-!
DEFINITION. What the part fixes: the fixed times, the settable times with their defaults and ranges,
the capacities, and the free values the manual leaves open.
-/

namespace Sys2Proof.Config

/-- A site setting: the least and the greatest value it may be given, and its default (R186). -/
structure Setting where
  least : Nat
  greatest : Nat
  default : Nat
  deriving DecidableEq, Repr

/-- The value lies in the setting's range (R159 step 4). -/
def Setting.admits (c : Setting) (v : Nat) : Bool := c.least ≤ v && v ≤ c.greatest

/-! The site settings, each in the unit its rule states (R186). -/

/-- Minimum presence time, ms (R41). -/
def presenceTime : Setting := ⟨50, 1000, 150⟩
/-- Barrier time, s (R42). -/
def barrierTime : Setting := ⟨1, 10, 4⟩
/-- Void time, also the return time, s (R49, R55). -/
def voidTime : Setting := ⟨10, 300, 60⟩
/-- Stuck time, s (R43). -/
def stuckTime : Setting := ⟨30, 600, 90⟩
/-- Start timeout, s (R71). -/
def startTimeout : Setting := ⟨5, 120, 30⟩
/-- Grace time, s (R73). -/
def graceTime : Setting := ⟨0, 900, 120⟩
/-- Carrier-fault time, ms (R90). -/
def carrierFaultTime : Setting := ⟨500, 10000, 2000⟩
/-- Announce time, s (R91). -/
def announceTime : Setting := ⟨5, 60, 20⟩
/-- Quarantine time, s (R97). -/
def quarantineTime : Setting := ⟨60, 7200, 1800⟩
/-- On-time, ms (R108). -/
def onTime : Setting := ⟨20, 200, 40⟩
/-- Dropout time, ms (R108). -/
def dropoutTime : Setting := ⟨0, 40, 12⟩
/-- Maximum hold, ms (R108). -/
def maximumHold : Setting := ⟨500, 10000, 3000⟩
/-- Off-time, ms (R108). -/
def offTime : Setting := ⟨20, 200, 40⟩
/-- Cycle time, ms (R108). -/
def cycleTime : Setting := ⟨60, 500, 100⟩
/-- Inter-key timeout, ms (R108). -/
def interKeyTime : Setting := ⟨2000, 30000, 8000⟩
/-- Order limit (R127). -/
def orderLimit : Setting := ⟨1, 6, 4⟩
/-- Tab limit, cents (R127). -/
def tabLimit : Setting := ⟨500, 99999, 6000⟩
/-- Trip time, s (R127). -/
def tripTime : Setting := ⟨120, 3600, 900⟩
/-- Patrol period, ms (R16). -/
def patrolPeriod : Setting := ⟨5, 1000, 20⟩
/-- Acknowledge time, s (R168). -/
def acknowledgeTime : Setting := ⟨1, 30, 5⟩
/-- Wake time, s (R168). -/
def wakeTime : Setting := ⟨5, 120, 30⟩

/-! The fixed times, in ms. -/

/-- The frame timer (R197). -/
def frameTime : Nat := 100
/-- The longest time of the start-up check (R207). -/
def startUpTime : Nat := 250
/-- How long a RUNNING or FAULT level must hold (R68). -/
def projectorLevelTime : Nat := 50
/-- How long MARK must be high to be taken, and low before the next (R68). -/
def markTime : Nat := 20
/-- How long a READY or STOP_ACK level must hold (R169). -/
def domainLevelTime : Nat := 20
/-- The sending of one row word (R103, R210). -/
def displayWordTime : Nat := 2
/-- The ACCEPT tone (R112). -/
def acceptToneTime : Nat := 150
/-- The REFUSE tone (R112). -/
def refuseToneTime : Nat := 600
/-- A store program (R190). -/
def programTime : Nat := 2
/-- A store erase (R191). -/
def eraseTime : Nat := 300
/-- One second. -/
def second : Nat := 1000

/-! The limits of counts. -/

/-- The last value of the night clock (R158). -/
def lastSecond : Nat := 86399
/-- The greatest lane, screen and integrity count (R18, R40, R59). -/
def countLimit : Nat := 65535
/-- The greatest takings, write-offs and orders-delivered total (R157). -/
def totalLimit : Nat := 4294967295
/-- The greatest price (R159 step 5). -/
def priceLimit : Nat := 9999
/-- The greatest settlement amount (R151). -/
def amountLimit : Nat := 99999

/-- FREE VALUE (assumption log 32). The check code of a unit's content. The manual says that the code has 9 bits (R183)
and gives no rule that computes it. -/
opaque freeCheck : Vector Byte 16 → BitVec 9

/-- The check code of a unit's content. That of the erased pattern is every bit one, since the erased pattern is a
valid content with its check code (R183). -/
def storeCheck (bytes : Vector Byte 16) : BitVec 9 :=
  if bytes = Vector.replicate 16 0xFF then 0x1FF else freeCheck bytes

/-- FREE VALUE (assumption log 5). The bytes that a program or an erase ended by a power-on reset leaves in a
unit. The manual says that such a unit reads UNCORRECTABLE (R194) and does not say which bytes it then
holds. The arguments are the count of interrupted operations so far, the unit and the byte within it. -/
opaque interruptedByte : Nat → Nat → Nat → Byte

/-- FREE VALUE (assumption log 5). The check code that such a unit then holds, from the count of interrupted operations
and the unit. -/
opaque interruptedCheck : Nat → Nat → BitVec 9

end Sys2Proof.Config
end

