-- ==== Sys2Proof/Machine/State.lean ====
section
/-!
DEFINITION. The state of the part as plain data: every record, list, counter, timer, mode and line that
chapters 1 to 11 give it, the queue of waiting commands, and the state after a power-on reset.

Indexes run from 0: screen, lane, channel, runner, domain and row line `n` of the manual are index `n - 1`.
A timer is `none` when stopped and `some t` when running with `t` ms left.
-/

namespace Sys2Proof.Machine

open Sys2Proof

/-- A timer: stopped, or running with its time remaining in ms. -/
abbrev Timer := Option Nat

/-! ## Answers and attention (chapter 11) -/

/-- The status codes of an answer, and the three reasons that only a post sequence is given (00_scope,
Status codes). -/
inductive Status where
  | ok | accepted | busy | starting | stale | damaged | full | noVehicle | noCar | limit | tooMany
  | window | domainDown | closed | privilege | length | badParam | badState | locked | programAgain
  | tabOpen | nochan | planInvalid | unknown | mismatch | empty | storeFault
  | notCarried | gone | nonePlaced
  deriving DecidableEq, Repr

/-- The attention kinds of the booth port, in the order of R203. -/
inductive BoothKind where
  | lanePresent | laneFault | tailgate | voided | seatedFromQueue | exitCleared | showState
  | segmentOverrun | projectorFault | retuneDone | nochan | domainDone | domainTimeout | storeDone
  | storeFault | recordDamaged | rowStuck | nightClosed
  deriving DecidableEq, Repr

/-- The attention kinds of the counter port, in the order of R203. -/
inductive CounterKind where
  | orderPlaced | orderCancelled | delivered | runnerLate | tabOpen | recordDamaged
  deriving DecidableEq, Repr

/-- A pending answer: the command code answered, the status and the answer data (R196). -/
structure Answer where
  code : Byte
  status : Status
  data : List Byte
  deriving DecidableEq, Repr

/-- A frame in progress (R196, R197): the pending answer as it stood at the fall of select, the complete
inbound bytes in order (at most 48), the bits of the byte being gathered (first bit first), the count of
clock edges and the frame timer. -/
structure Frame where
  image : Option Answer
  bytes : List Byte
  bits : List Bool
  edges : Nat
  timer : Timer
  deriving DecidableEq, Repr

/-- The select line of a port: high, low with a frame in progress, or low after the frame was abandoned
(R198, R205). -/
inductive Link where
  | idle
  | inFrame (f : Frame)
  | abandoned
  deriving DecidableEq, Repr

/-- A port record (R196). The attention set and mask hold the port's kind `k` of R203 in bit `k`. `attn` is
the attention line. -/
structure Port where
  answer : Option Answer
  frameFault : Bool
  shortRead : Bool
  attention : Word24
  mask : Word24
  attn : Bool
  link : Link
  deriving DecidableEq, Repr

/-! ## The record memory and the integrity monitor (chapter 1) -/

/-- What the stored word of a slot or unit holds against its check word: agreement, one wrong bit, or two
(R8, R184). -/
inductive Health where
  | clean
  | single
  | double
  deriving DecidableEq, Repr

/-- A slot of a checked table: the content that was written, the health of what is now stored, and the damage mark
(R1, R8). `flaws` holds the health that the next writes of the slot leave, next first. A write that it does not name
leaves the slot clean (assumption log 6). -/
structure Slot (α : Type) where
  content : α
  health : Health
  flaws : List Health
  marked : Bool
  deriving DecidableEq, Repr

/-- The vehicle class of an admission (R45). -/
inductive VehicleClass where
  | car
  | tall
  deriving DecidableEq, Repr

/-- The state of an admission (R45). -/
inductive AdmState where
  | issued | seated | waiting | paying | leaving
  deriving DecidableEq, Repr

/-- An admission handle: slot and generation (R3). -/
structure AdmHandle where
  slot : Fin 1024
  gen : BitVec 6
  deriving DecidableEq, Repr

/-- An order handle: slot and generation (R3). -/
structure OrderHandle where
  slot : Fin 256
  gen : BitVec 8
  deriving DecidableEq, Repr

/-- The checked content of an admission: every field of R45 but the handle. `stall` is the field stall
number within `screen`; `owed` is in cents. -/
structure Admission where
  state : AdmState
  cls : VehicleClass
  screen : Fin 6
  stall : Option Nat
  entryLane : Fin 4
  entryTime : Nat
  exitLane : Option (Fin 4)
  owed : Nat
  orders : List OrderHandle
  deriving DecidableEq, Repr

/-- Where an order was keyed (R126). -/
inductive Origin where
  | post
  | counter
  deriving DecidableEq, Repr

/-- The state of an order (R126). -/
inductive OrderState where
  | placed | preparing | ready | running | delivered
  deriving DecidableEq, Repr

/-- An order line or keyed entry: an item 00 to 99 and a quantity 1 to 9 (R126). -/
structure Line where
  item : Nat
  quantity : Nat
  deriving DecidableEq, Repr

/-- The checked content of an order: every field of R126 but the handle. -/
structure Order where
  admission : AdmHandle
  screen : Fin 6
  stall : Nat
  origin : Origin
  placed : Nat
  lines : List Line
  amount : Nat
  state : OrderState
  runner : Option (Fin 12)
  collect : Bool
  paid : Bool
  deriving DecidableEq, Repr

/-- The kind of a stall, given by its row (R21). -/
inductive StallKind where
  | front | standard | high
  deriving DecidableEq, Repr

/-- The state of a stall, in the order of the table of R24. -/
inductive StallState where
  | closed | free | reserved | occupied
  deriving DecidableEq, Repr

/-- Why a stall is closed (R24). -/
inductive CloseCause where
  | operator
  | damage
  deriving DecidableEq, Repr

/-- The checked content of a stall: the fixed fields and the close fields (R1, R24). -/
structure Stall where
  number : Nat
  screen : Fin 6
  row : Nat
  position : Nat
  kind : StallKind
  closed : Bool
  closePending : Bool
  cause : Option CloseCause
  deriving DecidableEq, Repr

/-- The free pattern of an admission slot: every checked field at its zero value (R1; which value is the zero value of a
named or numbered field is assumption log 39). -/
def Admission.freePattern : Admission :=
  { state := .issued, cls := .car, screen := 0, stall := none, entryLane := 0, entryTime := 0,
    exitLane := none, owed := 0, orders := [] }

/-- The free pattern of an order slot (R1, assumption log 39). -/
def Order.freePattern : Order :=
  { admission := ⟨0, 0⟩, screen := 0, stall := 0, origin := .post, placed := 0, lines := [],
    amount := 0, state := .placed, runner := none, collect := false, paid := false }

/-- The unused pattern of a stall slot (R1, assumption log 39). -/
def Stall.unusedPattern : Stall :=
  { number := 0, screen := 0, row := 0, position := 0, kind := .front, closed := false,
    closePending := false, cause := none }

/-- The record memory (R1): the three checked tables, the generations and free lists of the index store, the
counts of damage marks (R15), and the patrol (R16). The patrol position runs through the 1,024 admission
slots, then the 1,024 stall slots, then the 256 order slots. -/
structure RecordMemory where
  admissions : Vector (Slot Admission) 1024
  orders : Vector (Slot Order) 256
  stalls : Vector (Slot Stall) 1024
  admGen : Vector (BitVec 6) 1024
  orderGen : Vector (BitVec 8) 256
  admFree : List (Fin 1024)
  orderFree : List (Fin 256)
  admMarks : Nat
  orderMarks : Nat
  stallMarks : Nat
  patrolPosition : Fin 2304
  patrolPeriod : Nat
  patrolTimer : Timer
  deriving DecidableEq, Repr

/-- Where an integrity event was found: its source and its location (R18). -/
inductive EventPlace where
  | admission (slot : Fin 1024)
  | order (slot : Fin 256)
  | stall (slot : Fin 1024)
  | store (area : Fin 6) (unit : Fin 64)
  deriving DecidableEq, Repr

/-- The kind of an integrity event (R18). -/
inductive EventKind where
  | single
  | double
  deriving DecidableEq, Repr

/-- The integrity monitor: the event count and the first-event trap (R18). -/
structure Monitor where
  count : Nat
  trap : Option (EventPlace × EventKind)
  deriving DecidableEq, Repr

/-! ## The lot map (chapter 2) -/

/-- The row pattern of a field (R21). -/
inductive Pattern where
  | u | f | b | fb
  deriving DecidableEq, Repr

/-- A field record (R20). -/
structure Field where
  rowCount : Nat
  pattern : Pattern
  home : Fin 12
  capacity : Nat
  ordersDuringFeature : Bool
  stallCount : Nat
  firstIndex : Nat
  deriving DecidableEq, Repr

/-- How an admission holds a stall (R24). -/
inductive Hold where
  | reservation
  | occupation
  deriving DecidableEq, Repr

/-- An occupant entry that is not empty (R24). -/
structure Occupant where
  slot : Fin 1024
  hold : Hold
  deriving DecidableEq, Repr

/-- The lot map: the field records (none for a screen without a field; all none with no layout loaded), the
occupant entries, the state under which each stall is counted, the twelve tallies of each screen (kind by
kind in the order of R21, within a kind in the order of R24), and the holding queues (R20, R24, R25, R29). -/
structure LotMap where
  fields : Vector (Option Field) 6
  occupants : Vector (Option Occupant) 1024
  counted : Vector StallState 1024
  tallies : Vector (Vector Nat 12) 6
  queues : Vector (List (Fin 1024)) 6
  deriving DecidableEq, Repr

/-! ## The gate lanes (chapter 3) -/

/-- The role of a lane (R40). -/
inductive LaneRole where
  | entry | exit | unused
  deriving DecidableEq, Repr

/-- The state of a lane (R40). -/
inductive LaneState where
  | idle | present | issued | passing | faulted | paying | leaving
  deriving DecidableEq, Repr

/-- The fault cause of a lane (R40). -/
inductive LaneFault where
  | barrier | stuck | record
  deriving DecidableEq, Repr

/-- An input that is qualified as a level: the present level on the pin, the qualified level, and the timer
of a change (R41, R68, R169). -/
structure Input where
  raw : Bool
  level : Bool
  timer : Timer
  deriving DecidableEq, Repr

/-- A lane record (R40), with its barrier line RAISE, its UP sensor and its timers (R41 to R43, R49, R55). -/
structure Lane where
  role : LaneRole
  state : LaneState
  bound : Option (Fin 1024)
  cause : Option LaneFault
  faultedFrom : Option LaneState
  loopA : Input
  loopB : Input
  raise : Bool
  up : Bool
  passes : Nat
  tailgates : Nat
  voids : Nat
  barrierTimer : Timer
  stuckTimer : Timer
  voidTimer : Timer
  returnTimer : Timer
  deriving DecidableEq, Repr

/-- The gate lane controller: the lanes, the live admission count and the admitted count of each screen
(R46, R59), and its settings, in the units of R186. -/
structure Gate where
  lanes : Vector Lane 4
  live : Vector Nat 6
  admitted : Vector Nat 6
  presenceTime : Nat
  barrierTime : Nat
  voidTime : Nat
  stuckTime : Nat
  deriving DecidableEq, Repr

/-! ## Screens (chapter 4) -/

/-- The show state of a screen (R66). -/
inductive ShowState where
  | dark | preshow | starting | running | intermission | held | ended
  deriving DecidableEq, Repr

/-- The kind of a segment (R66). -/
inductive SegmentKind where
  | trailer | short | feature | interval
  deriving DecidableEq, Repr

/-- One segment of a show list (R66). -/
structure Segment where
  kind : SegmentKind
  length : Nat
  title : Nat
  deriving DecidableEq, Repr

/-- The set of hold reasons of a screen (R66). -/
structure HoldReasons where
  sound : Bool
  projector : Bool
  operator : Bool
  deriving DecidableEq, Repr

/-- The MARK input of a projector: its level on the pin, whether the next mark can be taken, and the timer of
the level it must hold (R68). -/
structure MarkInput where
  raw : Bool
  armed : Bool
  timer : Timer
  deriving DecidableEq, Repr

/-- A screen record (R66) with the lines RUN_REQ and PAUSE_REQ, the projector inputs and the start timer. An
empty show list stands for no list. `current` counts segments from 1. -/
structure Screen where
  state : ShowState
  list : List Segment
  current : Option Nat
  start : Option Nat
  reasons : HoldReasons
  remaining : Option Nat
  overrun : Bool
  runReq : Bool
  pauseReq : Bool
  running : Input
  fault : Input
  mark : MarkInput
  startTimer : Timer
  deriving DecidableEq, Repr

/-- The show controller: the six screen records and its settings in seconds (R66, R71, R73). -/
structure ShowControl where
  screens : Vector Screen 6
  startTimeout : Nat
  graceTime : Nat
  deriving DecidableEq, Repr

/-! ## Carrier channels and row displays (chapter 5) -/

/-- How a channel is held (R86). -/
inductive HeldAs where
  | live
  | announced
  deriving DecidableEq, Repr

/-- The state of a channel with the fields present in it (R86). -/
inductive ChannelState where
  | free
  | held (screen : Fin 6) (heldAs : HeldAs)
  | quarantined (remaining : Nat)
  deriving DecidableEq, Repr

/-- A channel record (R86). -/
structure Channel where
  permitted : Bool
  state : ChannelState
  deriving DecidableEq, Repr

/-- Why a screen is being retuned (R87). -/
inductive RetuneCause where
  | operator
  | carrier
  deriving DecidableEq, Repr

/-- The sound state of a screen with the live channel, announced channel and retune cause present in it
(R87). -/
inductive Sound where
  | off
  | live (channel : Fin 12)
  | announce (channel next : Fin 12) (cause : RetuneCause)
  | failed
  deriving DecidableEq, Repr

/-- The sound record of a screen (R87) with its CHSEL code, the CARRIER_OK pin, the qualified carrier level,
the carrier-fault timer, whether it is spent (R90), and the announce timer (R91). -/
structure SoundRecord where
  sound : Sound
  wanting : Bool
  chsel : Nat
  carrierOk : Bool
  carrierLevel : Bool
  faultTimer : Timer
  spent : Bool
  announceTimer : Timer
  deriving DecidableEq, Repr

/-- The carrier channel manager: the channels, the sound records, its settings in the units of R186, and the
time to its next second (R97). -/
structure ChannelManager where
  channels : Vector Channel 12
  sounds : Vector SoundRecord 6
  faultTime : Nat
  announceTime : Nat
  quarantineTime : Nat
  secondTimer : Timer
  deriving DecidableEq, Repr

/-- A row display word: the channel shown (0 for none), blink and the order lamp (R101). -/
structure DisplayWord where
  channel : Nat
  blink : Bool
  lamp : Bool
  deriving DecidableEq, Repr

/-- A word on the row display bus: its row line, the 16 bits of R210 and the time left of its sending, from which the
levels of RD_CLK and RD_DAT follow. -/
structure Sending where
  row : Fin 48
  word : BitVec 16
  timer : Timer
  deriving DecidableEq, Repr

/-- The row display driver: the words, the pending set, the row line last sent, the bus (none when idle) and the level
that RD_DAT holds while the bus is idle (R101 to R103, R206). -/
structure Display where
  words : Vector DisplayWord 48
  queued : Vector Bool 48
  lastSent : Fin 48
  bus : Option Sending
  dat : Bool
  deriving DecidableEq, Repr

/-! ## Call posts (chapter 6) -/

/-- The qualifier state of a row with its candidate key (R106). -/
inductive Qualifier where
  | quiet
  | pair (k : Key)
  | held (k : Key)
  | released (k : Key)
  | clash
  | stuck
  | blanked
  deriving DecidableEq, Repr

/-- The sequence of a row: its kind, its state and the fields present in that state (R106, R113 to R118). A
SENT sequence carries the tag of the request it sent. -/
inductive Sequence where
  | none
  | orderPosition (digits : List (Fin 10))
  | orderEntry (position : Nat) (digits : List (Fin 10)) (entries : List Line)
  | orderSent (position : Nat) (entries : List Line) (tag : Nat)
  | deliveryRunner (digits : List (Fin 10))
  | deliveryPosition (runner : Fin 12) (digits : List (Fin 10))
  | deliveryClose (runner : Fin 12) (position : Nat)
  | deliverySent (runner : Fin 12) (position : Nat) (tag : Nat)
  deriving DecidableEq, Repr

/-- The answer tone of a row (R112). -/
inductive Tone where
  | none | accept | refuse
  deriving DecidableEq, Repr

/-- A row record (R106) with the present finding of its tone detector (R107). -/
structure Row where
  positions : Nat
  finding : Finding
  qualifier : Qualifier
  onTimer : Timer
  cycleTimer : Timer
  dropoutTimer : Timer
  maxHoldTimer : Timer
  offTimer : Timer
  sequence : Sequence
  interKey : Timer
  tone : Tone
  toneTimer : Timer
  lastRefusal : Option Status
  deriving DecidableEq, Repr

/-- What a row asks of the order table (R118). -/
inductive RequestBody where
  | place (screen : Fin 6) (stall : Nat) (lines : List Line)
  | cancelNewest (screen : Fin 6) (stall : Nat)
  | confirm (runner : Fin 12) (screen : Fin 6) (stall : Nat)
  deriving DecidableEq, Repr

/-- A request handed over by a row and not yet taken by the order table (R118). -/
structure PostRequest where
  row : Fin 48
  tag : Nat
  body : RequestBody
  deriving DecidableEq, Repr

/-- An answer of the order table on its way to its row (R118, R119). -/
structure PostAnswer where
  row : Fin 48
  tag : Nat
  status : Status
  deriving DecidableEq, Repr

/-- The post line unit: the rows, the timings of R108 in ms, the requests and answers under way, oldest
first, and the tag of the next request. -/
structure Posts where
  rows : Vector Row 48
  onTime : Nat
  dropoutTime : Nat
  maximumHold : Nat
  offTime : Nat
  cycleTime : Nat
  interKeyTime : Nat
  requests : List PostRequest
  answers : List PostAnswer
  nextTag : Nat
  deriving DecidableEq, Repr

/-! ## Orders and runners (chapter 7) -/

/-- The state of a runner (R134). -/
inductive RunnerState where
  | off | available | out
  deriving DecidableEq, Repr

/-- A runner record (R134). -/
structure Runner where
  state : RunnerState
  carried : List (Fin 256)
  tripStart : Option Nat
  late : Bool
  tripTimer : Timer
  deriving DecidableEq, Repr

/-- The order table's own state: the kitchen queue, the order windows, the runners, the settings of R127, the
live price table in cents, and the tab clears under way to the exit lanes, oldest first (R127 to R134,
R150). -/
structure OrderTable where
  kitchen : List (Fin 256)
  windows : Vector Bool 6
  runners : Vector Runner 12
  orderLimit : Nat
  tabLimit : Nat
  tripTime : Nat
  prices : Vector Nat 100
  tabClears : List (Fin 4 × AdmHandle)
  deriving DecidableEq, Repr

/-! ## The night (chapter 8) -/

/-- The night state CLOSED, OPEN, CLOSING (R157). -/
inductive NightState where
  | closed | opened | closing
  deriving DecidableEq, Repr

/-- The night record (R157) and the time to the next second of the night clock. -/
structure Night where
  state : NightState
  clock : Nat
  takings : Nat
  writeOffs : Nat
  forced : Nat
  delivered : Nat
  secondTimer : Timer
  deriving DecidableEq, Repr

/-! ## Equipment domains (chapter 9) -/

/-- The state of a domain (R168). -/
inductive DomainState where
  | active | stopping | resting | waking | faulted
  deriving DecidableEq, Repr

/-- A domain record (R168) with its STOP_REQ line. The timer is the acknowledge timer in STOPPING and the wake
timer in WAKING. -/
structure Domain where
  state : DomainState
  plan : Bool
  status : Bool
  stopReq : Bool
  ready : Input
  stopAck : Input
  timer : Timer
  deriving DecidableEq, Repr

/-- The domain controller: the eight domains and its settings in seconds (R168). -/
structure DomainControl where
  domains : Vector Domain 8
  acknowledgeTime : Nat
  wakeTime : Nat
  deriving DecidableEq, Repr

/-! ## The standing store (chapter 10) -/

/-- A unit of the standing store: its 16 content bytes and its 9-bit check code as stored, and which of these bits are
wrong (R183, R184). Bit `8 * i + j` of `wrong` stands for bit `j` of byte `i`, and bits 128 to 136 for the check code.
`flaws` holds the bits that the next programs and erases of the unit leave wrong, next first. A write that it does not
name leaves none (assumption log 6). -/
structure StoreUnit where
  stored : Vector Byte 16
  check : BitVec 9
  wrong : BitVec 137
  flaws : List (BitVec 137)
  deriving DecidableEq, Repr

/-- The status of a unit as a read finds it, in the order of the table of R184. -/
inductive UnitStatus where
  | erased | programmed | corrected | uncorrectable
  deriving DecidableEq, Repr

/-- The store operation in flight with its time remaining (R192). -/
inductive StoreOp where
  | program (area : Fin 6) (unit : Fin 64) (content : Vector Byte 16) (timer : Timer)
  | erase (area : Fin 6) (timer : Timer)
  deriving DecidableEq, Repr

/-- The last result of the store (R192). -/
inductive StoreResult where
  | program (area : Fin 6) (unit : Fin 64) (status : UnitStatus)
  | erase (area : Fin 6) (count : Nat) (first : Option (Fin 64))
  deriving DecidableEq, Repr

/-- The standing store: unit `u` of area `a` is entry `64 * a + u` (R183), and the operation record (R192). -/
structure Store where
  units : Vector StoreUnit 384
  op : Option StoreOp
  last : Option StoreResult
  locked : Bool
  deriving DecidableEq, Repr

/-- What the store scan of the start-up check finds (R194): the count of corrected units, the first
UNCORRECTABLE unit, and the 11 identity bytes (none when their unit is UNCORRECTABLE). -/
structure ScanResult where
  corrected : Nat
  firstBad : Option (Fin 6 × Fin 64)
  identity : Option (List Byte)
  deriving DecidableEq, Repr

/-- The start-up report (R207, R208): the count of failing record slots and the results of the scan. -/
structure Report where
  failing : Nat
  scan : ScanResult
  deriving DecidableEq, Repr

/-! ## The whole part -/

/-- Where the part stands with its resets: held in reset by RESET_N, in the start-up check, or running
(R206, R207). -/
inductive Phase where
  | held
  | checking
  | running
  deriving DecidableEq, Repr

/-- The part as a whole: whether a PART_RESET waits (R205), the time left of the start-up check, the count of
failing slots its record memory check found, the results of its store scan, the start-up report, and the count of store operations that a power-on reset ended (the
model's own field, the argument of a free value). -/
structure System where
  phase : Phase
  resetWaiting : Bool
  checkTimer : Timer
  failing : Nat
  scan : ScanResult
  report : Report
  interrupted : Nat
  deriving DecidableEq, Repr

/-- No behaviour of the part stops it: every command and every event leaves the part in a next state, so
there is no fault. Safe: no run is cut short. -/
inductive Fault where
  deriving DecidableEq, Repr

/-- Why a step has no meaning. -/
inductive Refusal where
  /-- Raised by an arm of `exec` whose row has no meaning yet, with its mnemonic. Safe: the run stops. -/
  | notModelled (mnemonic : String)
  deriving DecidableEq, Repr

/-- The state of the RL-260. -/
structure State where
  pending : List Instr
  sys : System
  booth : Port
  counter : Port
  mem : RecordMemory
  mon : Monitor
  lot : LotMap
  gate : Gate
  shows : ShowControl
  chans : ChannelManager
  disp : Display
  posts : Posts
  ords : OrderTable
  night : Night
  doms : DomainControl
  store : Store
  deriving DecidableEq, Repr

/-! ## The state after a power-on reset -/

/-- All kinds of the booth port (bits 0 to 17, R203). -/
def boothKinds : Word24 := 0x03FFFF

/-- All kinds of the counter port (bits 0 to 5, R203). -/
def counterKinds : Word24 := 0x00003F

/-- A port after reset, with the kinds its mask then holds (R196). -/
def Port.reset (kinds : Word24) (link : Link) : Port :=
  { answer := none, frameFault := false, shortRead := false, attention := 0, mask := kinds,
    attn := false, link := link }

/-- A slot that holds `x` with a matching check word and no mark, the flaws of its cells as given (R1). -/
def Slot.fresh {α : Type} (x : α) (flaws : List Health) : Slot α :=
  { content := x, health := .clean, flaws := flaws, marked := false }

/-- The record memory after reset, given the flaws of the cells of its slots (R1, R5, R15, R16). -/
def RecordMemory.reset (adm : Vector (List Health) 1024) (ord : Vector (List Health) 256)
    (stalls : Vector (List Health) 1024) : RecordMemory :=
  { admissions := adm.map (Slot.fresh Admission.freePattern)
    orders := ord.map (Slot.fresh Order.freePattern)
    stalls := stalls.map (Slot.fresh Stall.unusedPattern)
    admGen := Vector.replicate 1024 0
    orderGen := Vector.replicate 256 0
    admFree := List.finRange 1024
    orderFree := List.finRange 256
    admMarks := 0
    orderMarks := 0
    stallMarks := 0
    patrolPosition := 0
    patrolPeriod := Config.patrolPeriod.default
    patrolTimer := none }

/-- The integrity monitor after reset (R18). -/
def Monitor.reset : Monitor := { count := 0, trap := none }

/-- The lot map after reset: no layout loaded, every tally 0 (R20, R25). The empty occupant entries and holding queues and
the states under which the stalls are counted are the model's choice (assumption log 3). -/
def LotMap.reset : LotMap :=
  { fields := Vector.replicate 6 none
    occupants := Vector.replicate 1024 none
    counted := Vector.replicate 1024 .free
    tallies := Vector.replicate 6 (Vector.replicate 12 0)
    queues := Vector.replicate 6 [] }

/-- A qualified input after reset: the qualified level low or CLEAR, no timer; the pin keeps its level. -/
def Input.reset (raw : Bool) : Input := { raw := raw, level := false, timer := none }

/-- A lane after reset, given the levels on its pins (R40, R41). -/
def Lane.reset (a b up : Bool) : Lane :=
  { role := .unused, state := .idle, bound := none, cause := none, faultedFrom := none,
    loopA := Input.reset a, loopB := Input.reset b, raise := false, up := up,
    passes := 0, tailgates := 0, voids := 0,
    barrierTimer := none, stuckTimer := none, voidTimer := none, returnTimer := none }

/-- The gate lane controller after reset (R40, R46, R59, R186). -/
def Gate.reset (lanes : Vector Lane 4) : Gate :=
  { lanes := lanes
    live := Vector.replicate 6 0
    admitted := Vector.replicate 6 0
    presenceTime := Config.presenceTime.default
    barrierTime := Config.barrierTime.default
    voidTime := Config.voidTime.default
    stuckTime := Config.stuckTime.default }

/-- No hold reason. -/
def HoldReasons.none : HoldReasons := { sound := false, projector := false, operator := false }

/-- A screen after reset, given the levels on its pins (R66, R68). -/
def Screen.reset (running fault mark : Bool) : Screen :=
  { state := .dark, list := [], current := none, start := none, reasons := HoldReasons.none,
    remaining := none, overrun := false, runReq := false, pauseReq := false,
    running := Input.reset running, fault := Input.reset fault,
    mark := { raw := mark, armed := true, timer := none }, startTimer := none }

/-- The show controller after reset (R66, R186). -/
def ShowControl.reset (screens : Vector Screen 6) : ShowControl :=
  { screens := screens
    startTimeout := Config.startTimeout.default
    graceTime := Config.graceTime.default }

/-- A sound record after reset, given the level of CARRIER_OK (R87). -/
def SoundRecord.reset (carrierOk : Bool) : SoundRecord :=
  { sound := .off, wanting := false, chsel := 0, carrierOk := carrierOk, carrierLevel := false,
    faultTimer := none, spent := false, announceTimer := none }

/-- The carrier channel manager after reset (R86, R87, R97, R186). -/
def ChannelManager.reset (sounds : Vector SoundRecord 6) : ChannelManager :=
  { channels := Vector.replicate 12 { permitted := false, state := .free }
    sounds := sounds
    faultTime := Config.carrierFaultTime.default
    announceTime := Config.announceTime.default
    quarantineTime := Config.quarantineTime.default
    secondTimer := none }

/-- A row display word with nothing shown (R101). -/
def DisplayWord.blank : DisplayWord := { channel := 0, blink := false, lamp := false }

/-- The row display driver after reset: every word blank, all 48 lines pending, line 48 last sent, the bus idle with
RD_DAT low (R101, R102, R206). -/
def Display.reset : Display :=
  { words := Vector.replicate 48 DisplayWord.blank
    queued := Vector.replicate 48 true
    lastSent := 47
    bus := none
    dat := false }

/-- A row record after reset, given the present finding of its detector (R106). -/
def Row.reset (finding : Finding) : Row :=
  { positions := 0, finding := finding, qualifier := .quiet, onTimer := none, cycleTimer := none,
    dropoutTimer := none, maxHoldTimer := none, offTimer := none, sequence := .none,
    interKey := none, tone := .none, toneTimer := none, lastRefusal := none }

/-- The post line unit after reset (R106, R108, R186). -/
def Posts.reset (rows : Vector Row 48) : Posts :=
  { rows := rows
    onTime := Config.onTime.default
    dropoutTime := Config.dropoutTime.default
    maximumHold := Config.maximumHold.default
    offTime := Config.offTime.default
    cycleTime := Config.cycleTime.default
    interKeyTime := Config.interKeyTime.default
    requests := []
    answers := []
    nextTag := 0 }

/-- A runner after reset (R134). -/
def Runner.reset : Runner :=
  { state := .off, carried := [], tripStart := none, late := false, tripTimer := none }

/-- The order table after reset (R126 to R128, R134). The live price table holds 0 for every item. -/
def OrderTable.reset : OrderTable :=
  { kitchen := []
    windows := Vector.replicate 6 false
    runners := Vector.replicate 12 Runner.reset
    orderLimit := Config.orderLimit.default
    tabLimit := Config.tabLimit.default
    tripTime := Config.tripTime.default
    prices := Vector.replicate 100 0
    tabClears := [] }

/-- The night record after reset (R157). -/
def Night.reset : Night :=
  { state := .closed, clock := 0, takings := 0, writeOffs := 0, forced := 0, delivered := 0,
    secondTimer := none }

/-- A domain after reset and before the start-up check ends, given the levels on its pins (R168). -/
def Domain.reset (ready stopAck : Bool) : Domain :=
  { state := .waking, plan := false, status := false, stopReq := false,
    ready := Input.reset ready, stopAck := Input.reset stopAck, timer := none }

/-- The domain controller after reset (R168). -/
def DomainControl.reset (domains : Vector Domain 8) : DomainControl :=
  { domains := domains
    acknowledgeTime := Config.acknowledgeTime.default
    wakeTime := Config.wakeTime.default }

/-- An erased unit in good cells: every content byte 0xFF and every check bit one (R183). -/
def StoreUnit.erased : StoreUnit :=
  { stored := Vector.replicate 16 0xFF, check := 0x1FF, wrong := 0, flaws := [] }

/-- Unit 0 of IDENTITY as the model supposes it was made (assumption log 4): part code 0x0260, revision A,
serial number 0. -/
def StoreUnit.identity : StoreUnit :=
  let bytes : Vector Byte 16 := #v[0x02, 0x60, 0x41, 0, 0, 0, 0, 0, 0, 0, 0, 0xFF, 0xFF, 0xFF, 0xFF, 0xFF]
  { stored := bytes, check := Config.storeCheck bytes, wrong := 0, flaws := [] }

/-- The operation record after reset, over the given content (R192, R193). -/
def Store.reset (units : Vector StoreUnit 384) : Store :=
  { units := units, op := none, last := none, locked := false }

/-- No result of a scan yet. -/
def ScanResult.none : ScanResult := { corrected := 0, firstBad := Option.none, identity := Option.none }

/-- The part held in reset. -/
def System.reset (interrupted : Nat) : System :=
  { phase := .held, resetWaiting := false, checkTimer := none, failing := 0, scan := ScanResult.none,
    report := { failing := 0, scan := ScanResult.none }, interrupted := interrupted }

/-- The part right after a power-on reset, RESET_N still low, with every input pin low, no tone on any row
line, every memory cell good, and the standing store as the part leaves the factory (R206 and the after-reset
values of each chapter). No command waits. -/
def State.reset : State :=
  { pending := []
    sys := System.reset 0
    booth := Port.reset boothKinds .idle
    counter := Port.reset counterKinds .idle
    mem := RecordMemory.reset (Vector.replicate 1024 []) (Vector.replicate 256 []) (Vector.replicate 1024 [])
    mon := Monitor.reset
    lot := LotMap.reset
    gate := Gate.reset (Vector.replicate 4 (Lane.reset false false false))
    shows := ShowControl.reset (Vector.replicate 6 (Screen.reset false false false))
    chans := ChannelManager.reset (Vector.replicate 6 (SoundRecord.reset false))
    disp := Display.reset
    posts := Posts.reset (Vector.replicate 48 (Row.reset .noPair))
    ords := OrderTable.reset
    night := Night.reset
    doms := DomainControl.reset (Vector.replicate 8 (Domain.reset false false))
    store := Store.reset (upd (Vector.replicate 384 StoreUnit.erased) 0 fun _ => StoreUnit.identity) }

end Sys2Proof.Machine
end

