-- ==== Sys2Proof/Machine/Flags.lean ====
section
/-!
DEFINITION. The attention sets, masks and lines, the port flags, and the status values of an answer
(chapter 11).
-/

namespace Sys2Proof.Machine

open Sys2Proof

/-- The bit of a booth kind: the kinds in the order of R203, LANE_PRESENT in bit 0. -/
def BoothKind.bit : BoothKind → Nat
  | .lanePresent => 0
  | .laneFault => 1
  | .tailgate => 2
  | .voided => 3
  | .seatedFromQueue => 4
  | .exitCleared => 5
  | .showState => 6
  | .segmentOverrun => 7
  | .projectorFault => 8
  | .retuneDone => 9
  | .nochan => 10
  | .domainDone => 11
  | .domainTimeout => 12
  | .storeDone => 13
  | .storeFault => 14
  | .recordDamaged => 15
  | .rowStuck => 16
  | .nightClosed => 17

/-- The bit of a counter kind, ORDER_PLACED in bit 0 (R203). -/
def CounterKind.bit : CounterKind → Nat
  | .orderPlaced => 0
  | .orderCancelled => 1
  | .delivered => 2
  | .runnerLate => 3
  | .tabOpen => 4
  | .recordDamaged => 5

/-- The set of one kind. -/
def kindSet (k : Nat) : Word24 := 1#24 <<< k

/-- The kinds a port has (R203). -/
def PortId.kinds : PortId → Word24
  | .booth => boothKinds
  | .counter => counterKinds

/-- The attention line follows the set and the mask (R203). -/
def Port.withLine (p : Port) : Port :=
  { p with attn := p.attention &&& p.mask != 0 }

/-- The kinds of `set` raised (R203). -/
def Port.raise (set : Word24) (p : Port) : Port :=
  { p with attention := p.attention ||| set }.withLine

/-- The attention set taken (R204). -/
def Port.takeAttention (p : Port) : Port :=
  { p with attention := 0 }.withLine

/-- A new mask (R204). -/
def Port.setMask (mask : Word24) (p : Port) : Port :=
  { p with mask := mask }.withLine

/-- The flags of a port in one byte: FRAME_FAULT in bit 0, SHORT_READ in bit 1 (R200). -/
def Port.flagByte (p : Port) : Byte :=
  (if p.frameFault then 1 else 0) + (if p.shortRead then 2 else 0)

/-- Both flags cleared (R200). -/
def Port.clearFlags (p : Port) : Port :=
  { p with frameFault := false, shortRead := false }

/-- The identity of a port (R200). -/
def PortId.identity : PortId → Byte
  | .booth => 1
  | .counter => 2

/-- The value of a status code (Formats, Status codes). -/
def Status.value : Status → Byte
  | .ok => 0x01
  | .accepted => 0x02
  | .busy => 0x03
  | .starting => 0x04
  | .stale => 0x05
  | .damaged => 0x06
  | .full => 0x07
  | .noVehicle => 0x08
  | .noCar => 0x09
  | .limit => 0x0A
  | .tooMany => 0x0B
  | .window => 0x0C
  | .domainDown => 0x0D
  | .closed => 0x0E
  | .privilege => 0x0F
  | .length => 0x10
  | .badParam => 0x11
  | .badState => 0x12
  | .locked => 0x13
  | .programAgain => 0x14
  | .tabOpen => 0x15
  | .nochan => 0x16
  | .planInvalid => 0x17
  | .unknown => 0x18
  | .mismatch => 0x19
  | .empty => 0x1A
  | .storeFault => 0x1B
  | .notCarried => 0x20
  | .gone => 0x21
  | .nonePlaced => 0x22

end Sys2Proof.Machine
end

