-- ==== Sys2Proof/Machine/Operands.lean ====
section
/-!
DEFINITION. The parameters of commands as the blocks read them, and the fields of answers as a port partner
sees them (R209 and the layouts of the formats section of chapter 11).
-/

namespace Sys2Proof.Machine

open Sys2Proof

/-! ## Parameters -/

/-- A number 1 to `n` as an index; nothing outside that range. -/
def numbered (n : Nat) (b : Byte) : Option (Fin n) :=
  if h : 1 ≤ b.toNat ∧ b.toNat ≤ n then some ⟨b.toNat - 1, by omega⟩ else none

/-- An index counted from 0, such as a store area or unit; nothing out of range. -/
def indexed (n : Nat) (b : Byte) : Option (Fin n) :=
  if h : b.toNat < n then some ⟨b.toNat, h⟩ else none

/-- An admission handle: bits 15 to 10 generation, bits 9 to 0 slot (R209). -/
def AdmHandle.ofWord (w : Word16) : AdmHandle :=
  { slot := (w.extractLsb' 0 10).toFin, gen := w.extractLsb' 10 6 }

/-- The 16 bits of an admission handle (R209). -/
def AdmHandle.toWord (h : AdmHandle) : Word16 :=
  h.gen ++ BitVec.ofNat 10 h.slot.val

/-- An order handle: first byte generation, second byte slot (R209). -/
def OrderHandle.ofWord (w : Word16) : OrderHandle :=
  { slot := (w.extractLsb' 0 8).toFin, gen := w.extractLsb' 8 8 }

/-- The 16 bits of an order handle (R209). -/
def OrderHandle.toWord (h : OrderHandle) : Word16 :=
  h.gen ++ BitVec.ofNat 8 h.slot.val

/-- A vehicle class: CAR 1, TALL 2 (R209, Formats). -/
def VehicleClass.ofByte (b : Byte) : Option VehicleClass :=
  if b = 1 then some .car else if b = 2 then some .tall else none

/-- An order line with item 00 to 99 and quantity 1 to 9 (R126). -/
def RawLine.line (r : RawLine) : Option Line :=
  if r.item.toNat ≤ 99 ∧ 1 ≤ r.quantity.toNat ∧ r.quantity.toNat ≤ 9 then
    some { item := r.item.toNat, quantity := r.quantity.toNat }
  else none

/-- The kind of a segment from its two bits (R209). -/
def SegmentKind.ofBits (b : BitVec 2) : SegmentKind :=
  if b = 0 then .trailer else if b = 1 then .short else if b = 2 then .feature else .interval

/-- The two bits of a segment kind (R209). -/
def SegmentKind.bits : SegmentKind → BitVec 2
  | .trailer => 0
  | .short => 1
  | .feature => 2
  | .interval => 3

/-- A segment from its four bytes: kind, nominal length in seconds, title code (R209). -/
def Segment.ofWord (w : BitVec 32) : Segment :=
  { kind := SegmentKind.ofBits (w.extractLsb' 30 2)
    length := (w.extractLsb' 16 14).toNat
    title := (w.extractLsb' 0 16).toNat }

/-- The four bytes of a segment (R209). -/
def Segment.toWord (g : Segment) : BitVec 32 :=
  g.kind.bits ++ BitVec.ofNat 14 g.length ++ BitVec.ofNat 16 g.title

/-- No start time given (R209). -/
def noSeconds : Word24 := 0xFFFFFF

/-! ## Answer fields -/

/-- One byte. -/
def byte1 (n : Nat) : Byte := BitVec.ofNat 8 n

/-- Two bytes, most significant first. -/
def bytes2 (n : Nat) : List Byte := [byte1 (n / 256), byte1 n]

/-- Three bytes, most significant first. -/
def bytes3 (n : Nat) : List Byte := [byte1 (n / 65536), byte1 (n / 256), byte1 n]

/-- Four bytes, most significant first. -/
def bytes4 (n : Nat) : List Byte :=
  [byte1 (n / 16777216), byte1 (n / 65536), byte1 (n / 256), byte1 n]

/-- Yes 1, no 0; high 1, low 0 (R209). -/
def flagByte (b : Bool) : Byte := if b then 1 else 0

/-- The number of an index from 0 (R209). -/
def numberByte {n : Nat} (i : Fin n) : Byte := byte1 (i.val + 1)

/-- A number that may be absent: 0 where absent (R209). -/
def optNumber {n : Nat} (i : Option (Fin n)) : Byte := (i.map numberByte).getD 0

/-- Night seconds that may be absent: 0xFFFFFF where absent (R209). -/
def optSeconds (t : Option Nat) : List Byte := bytes3 (t.getD 0xFFFFFF)

/-- A byte as a sum of bits, the first in bit 0 (R209). -/
def bitsByte (bits : List Bool) : Byte :=
  bits.foldr (fun b acc => (acc <<< 1) ||| (if b then 1 else 0)) 0

/-- An admission handle as two bytes. -/
def AdmHandle.bytes (h : AdmHandle) : List Byte := bytes2 h.toWord.toNat

/-- An order handle as two bytes. -/
def OrderHandle.bytes (h : OrderHandle) : List Byte := bytes2 h.toWord.toNat

/-- A handle that may be absent: its presence byte, then the handle, zero where absent (R209). -/
def optAdmHandle : Option AdmHandle → List Byte
  | none => [0, 0, 0]
  | some h => 1 :: h.bytes

/-- A list of stated capacity: its count, then every place, those beyond the count zero (R209). -/
def listBytes {α : Type} (capacity width : Nat) (enc : α → List Byte) (l : List α) : List Byte :=
  byte1 l.length ::
    (l.take capacity).flatMap enc ++ List.replicate (width * (capacity - l.length)) 0

/-- An order line or entry: item, then quantity (R209). -/
def Line.bytes (l : Line) : List Byte := [byte1 l.item, byte1 l.quantity]

/-- A time remaining in ms as seconds, a part of a second counted whole (assumption log 21). -/
def secondsUp (ms : Nat) : Nat := (ms + 999) / 1000

/-- A key: digits as 0 to 9, star 10, hash 11 (R209). -/
def Key.byte : Key → Byte
  | .digit d => byte1 d.val
  | .star => 10
  | .hash => 11

/-- A key that may be absent: 0xFF where absent (R209). -/
def optKey (k : Option Key) : Byte := (k.map Key.byte).getD 0xFF

/-! The numbers of states, kinds, classes, origins and causes: from 1 in the order of the owning table. -/

/-- Vehicle class (R45). -/
def VehicleClass.number : VehicleClass → Nat
  | .car => 1
  | .tall => 2

/-- Admission state (Formats: LOOKUP_ADMISSION). -/
def AdmState.number : AdmState → Nat
  | .issued => 1
  | .seated => 2
  | .waiting => 3
  | .paying => 4
  | .leaving => 5

/-- Order origin (R126). -/
def Origin.number : Origin → Nat
  | .post => 1
  | .counter => 2

/-- Order state (R126). -/
def OrderState.number : OrderState → Nat
  | .placed => 1
  | .preparing => 2
  | .ready => 3
  | .running => 4
  | .delivered => 5

/-- Stall kind (R21). -/
def StallKind.number : StallKind → Nat
  | .front => 1
  | .standard => 2
  | .high => 3

/-- Stall state, in the order of the table of R24. -/
def StallState.number : StallState → Nat
  | .closed => 1
  | .free => 2
  | .reserved => 3
  | .occupied => 4

/-- Close cause (R24). -/
def CloseCause.number : CloseCause → Nat
  | .operator => 1
  | .damage => 2

/-- Row pattern: U 1, F 2, B 3, FB 4 (Formats). -/
def Pattern.number : Pattern → Nat
  | .u => 1
  | .f => 2
  | .b => 3
  | .fb => 4

/-- A row pattern byte; nothing outside 1 to 4 (Formats). -/
def Pattern.ofByte (b : Byte) : Option Pattern :=
  if b = 1 then some .u else if b = 2 then some .f else if b = 3 then some .b
  else if b = 4 then some .fb else none

/-- Lane role: ENTRY 1, EXIT 2, UNUSED 3 (Formats). -/
def LaneRole.number : LaneRole → Nat
  | .entry => 1
  | .exit => 2
  | .unused => 3

/-- A lane role byte; nothing outside 1 to 3 (Formats). -/
def LaneRole.ofByte (b : Byte) : Option LaneRole :=
  if b = 1 then some .entry else if b = 2 then some .exit else if b = 3 then some .unused else none

/-- Lane state, in the order of the table of R40 (assumption log 12). -/
def LaneState.number : LaneState → Nat
  | .idle => 1
  | .present => 2
  | .issued => 3
  | .passing => 4
  | .faulted => 5
  | .paying => 6
  | .leaving => 7

/-- Lane fault cause (R40). -/
def LaneFault.number : LaneFault → Nat
  | .barrier => 1
  | .stuck => 2
  | .record => 3

/-- Show state (R66). -/
def ShowState.number : ShowState → Nat
  | .dark => 1
  | .preshow => 2
  | .starting => 3
  | .running => 4
  | .intermission => 5
  | .held => 6
  | .ended => 7

/-- Runner state (R134). -/
def RunnerState.number : RunnerState → Nat
  | .off => 1
  | .available => 2
  | .out => 3

/-- Night state (R157). -/
def NightState.number : NightState → Nat
  | .closed => 1
  | .opened => 2
  | .closing => 3

/-- Domain state (Formats: READ_DOMAINS). -/
def DomainState.number : DomainState → Nat
  | .active => 1
  | .stopping => 2
  | .resting => 3
  | .waking => 4
  | .faulted => 5

/-- Unit status, in the order of the table of R184. -/
def UnitStatus.number : UnitStatus → Nat
  | .erased => 1
  | .programmed => 2
  | .corrected => 3
  | .uncorrectable => 4

/-- Answer tone (R106). -/
def Tone.number : Tone → Nat
  | .none => 1
  | .accept => 2
  | .refuse => 3

end Sys2Proof.Machine
end

