-- ==== Sys2Proof/Machine/Ops.lean ====
section
/-!
DEFINITION. The named operations every block uses: changes of one component of the state, attention, the
integrity monitor, the reads and writes of the checked tables, creation and retirement (chapter 1), and the
handing over of a port command (chapter 11).
-/

namespace Sys2Proof.Machine

open Sys2Proof

/-! ## Changes of one component -/

/-- The system record changed by `f`. -/
def State.modSys (f : System → System) (s : State) : State := { s with sys := f s.sys }

/-- The record memory changed by `f`. -/
def State.modMem (f : RecordMemory → RecordMemory) (s : State) : State := { s with mem := f s.mem }

/-- The integrity monitor changed by `f`. -/
def State.modMon (f : Monitor → Monitor) (s : State) : State := { s with mon := f s.mon }

/-- The lot map changed by `f`. -/
def State.modLot (f : LotMap → LotMap) (s : State) : State := { s with lot := f s.lot }

/-- The gate lane controller changed by `f`. -/
def State.modGate (f : Gate → Gate) (s : State) : State := { s with gate := f s.gate }

/-- The show controller changed by `f`. -/
def State.modShows (f : ShowControl → ShowControl) (s : State) : State := { s with shows := f s.shows }

/-- The carrier channel manager changed by `f`. -/
def State.modChans (f : ChannelManager → ChannelManager) (s : State) : State :=
  { s with chans := f s.chans }

/-- The row display driver changed by `f`. -/
def State.modDisp (f : Display → Display) (s : State) : State := { s with disp := f s.disp }

/-- The post line unit changed by `f`. -/
def State.modPosts (f : Posts → Posts) (s : State) : State := { s with posts := f s.posts }

/-- The order table changed by `f`. -/
def State.modOrds (f : OrderTable → OrderTable) (s : State) : State := { s with ords := f s.ords }

/-- The night record changed by `f`. -/
def State.modNight (f : Night → Night) (s : State) : State := { s with night := f s.night }

/-- The domain controller changed by `f`. -/
def State.modDoms (f : DomainControl → DomainControl) (s : State) : State := { s with doms := f s.doms }

/-- The standing store changed by `f`. -/
def State.modStore (f : Store → Store) (s : State) : State := { s with store := f s.store }

/-- The record of port `p`. -/
def State.port (s : State) : PortId → Port
  | .booth => s.booth
  | .counter => s.counter

/-- The record of port `p` changed by `f`. -/
def State.modPort (p : PortId) (f : Port → Port) (s : State) : State :=
  match p with
  | .booth => { s with booth := f s.booth }
  | .counter => { s with counter := f s.counter }

/-- The record of lane `n` changed by `f`. -/
def State.modLane (n : Fin 4) (f : Lane → Lane) (s : State) : State :=
  s.modGate fun g => { g with lanes := upd g.lanes n f }

/-- The record of screen `n` changed by `f`. -/
def State.modScreen (n : Fin 6) (f : Screen → Screen) (s : State) : State :=
  s.modShows fun c => { c with screens := upd c.screens n f }

/-- The sound record of screen `n` changed by `f`. -/
def State.modSound (n : Fin 6) (f : SoundRecord → SoundRecord) (s : State) : State :=
  s.modChans fun c => { c with sounds := upd c.sounds n f }

/-- The record of channel `c` changed by `f`. -/
def State.modChannel (c : Fin 12) (f : Channel → Channel) (s : State) : State :=
  s.modChans fun m => { m with channels := upd m.channels c f }

/-- The record of row line `r` changed by `f`. -/
def State.modRow (r : Fin 48) (f : Row → Row) (s : State) : State :=
  s.modPosts fun p => { p with rows := upd p.rows r f }

/-- The record of runner `r` changed by `f`. -/
def State.modRunner (r : Fin 12) (f : Runner → Runner) (s : State) : State :=
  s.modOrds fun o => { o with runners := upd o.runners r f }

/-- The record of domain `d` changed by `f`. -/
def State.modDomain (d : Fin 8) (f : Domain → Domain) (s : State) : State :=
  s.modDoms fun c => { c with domains := upd c.domains d f }

/-- `f` done to the state for each entry of a list, in its order. -/
def State.each {α : Type} (l : List α) (f : α → State → State) (s : State) : State :=
  l.foldl (fun s a => f a s) s

/-- A timer running with `s` seconds. -/
def seconds (s : Nat) : Timer := some (s * Config.second)

/-- A new level on a pin that is qualified as a level: the timer of the change runs while the pin differs from the
qualified level (R41, R68, R169). -/
def Input.change (high : Bool) (time : Nat) (i : Input) : Input :=
  if i.raw = high then i
  else { i with raw := high, timer := if high = i.level then none else some time }

/-- A change on a pin while the part does not qualify it: only the present level. -/
def Input.setRaw (high : Bool) (i : Input) : Input := { i with raw := high }

/-- The change has lasted: the qualified level is that of the pin (R41, R68, R169). -/
def Input.qualify (i : Input) : Input := { i with level := i.raw, timer := none }

/-- The end of the start-up check at an input: a pin that differs from the qualified level starts its timer (R41,
R68). -/
def Input.start (time : Nat) (i : Input) : Input :=
  { i with timer := if i.raw = i.level then none else some time }

/-! ## Attention and the integrity monitor -/

/-- Raises a kind in the booth port's attention set (R203). -/
def State.raiseBooth (k : BoothKind) (s : State) : State :=
  s.modPort .booth (Port.raise (kindSet k.bit))

/-- Raises a kind in the counter port's attention set (R203). -/
def State.raiseCounter (k : CounterKind) (s : State) : State :=
  s.modPort .counter (Port.raise (kindSet k.bit))

/-- RECORD_DAMAGED raised in the attention sets of both ports (R9). -/
def State.raiseDamaged (s : State) : State :=
  (s.raiseBooth .recordDamaged).raiseCounter .recordDamaged

/-- The monitor takes an event: the count rises to its limit and an empty trap is filled (R18). -/
def Monitor.take (place : EventPlace) (kind : EventKind) (m : Monitor) : Monitor :=
  { count := if m.count < Config.countLimit then m.count + 1 else m.count
    trap := m.trap <|> some (place, kind) }

/-- An event of the record memory at the monitor (R8, R9, R11). -/
def State.event (place : EventPlace) (kind : EventKind) (s : State) : State :=
  s.modMon (Monitor.take place kind)

/-- An event of the standing store at the monitor; a DOUBLE event raises STORE_FAULT on the booth port (R18). -/
def State.storeEvent (area : Fin 6) (unit : Fin 64) (kind : EventKind) (s : State) : State :=
  let s := s.event (.store area unit) kind
  match kind with
  | .single => s
  | .double => s.raiseBooth .storeFault

/-! ## Slots -/

/-- A slot written with `x` and a new check word: the write leaves the health of the slot's next flaw, clean when it has
no more (R8, assumption log 6). A write of the content that the slot holds is a write as any other (assumption log
42). -/
def Slot.write {α : Type} (x : α) (slot : Slot α) : Slot α :=
  { slot with content := x, health := slot.flaws.headD .clean, flaws := slot.flaws.tail }

/-- A slot with its damage mark set. -/
def Slot.mark {α : Type} (slot : Slot α) : Slot α := { slot with marked := true }

/-- A slot with its damage mark cleared. -/
def Slot.unmark {α : Type} (slot : Slot α) : Slot α := { slot with marked := false }

/-! ## The admission table -/

/-- Admission slot `a` changed by `f`. -/
def State.modAdmSlot (a : Fin 1024) (f : Slot Admission → Slot Admission) (s : State) : State :=
  s.modMem fun m => { m with admissions := upd m.admissions a f }

/-- Admission slot `a` is live: its number is not on the free list (R2). -/
def State.admLive (s : State) (a : Fin 1024) : Bool := !s.mem.admFree.contains a

/-- The handle of admission slot `a`: the slot and its present generation (R3). -/
def State.admHandle (s : State) (a : Fin 1024) : AdmHandle := { slot := a, gen := s.mem.admGen[a] }

/-- The handle names a live admission of the slot's present generation (R4). -/
def State.admCurrent (s : State) (h : AdmHandle) : Bool :=
  s.admLive h.slot && s.mem.admGen[h.slot] == h.gen

/-- The damage mark of admission slot `a`. -/
def State.admMarked (s : State) (a : Fin 1024) : Bool := s.mem.admissions[a].marked

/-- The content of admission slot `a`, not checked: for a slot that this taking has read. -/
def State.adm (s : State) (a : Fin 1024) : Admission := s.mem.admissions[a].content

/-- The damage mark of a live admission slot set, with its event and attention (R9). -/
def State.markAdm (a : Fin 1024) (s : State) : State :=
  ((s.modMem fun m =>
      { m with admissions := upd m.admissions a Slot.mark, admMarks := m.admMarks + 1 }).event
    (.admission a) .double).raiseDamaged

/-- A read of a live admission (R8 to R10): its content, or nothing when it is marked or found damaged. -/
def State.readAdm (a : Fin 1024) (s : State) : Option Admission × State :=
  let slot := s.mem.admissions[a]
  if slot.marked then (none, s)
  else match slot.health with
    | .clean => (some slot.content, s)
    | .single =>
      (some slot.content, (s.modAdmSlot a (Slot.write slot.content)).event (.admission a) .single)
    | .double => (none, s.markAdm a)

/-- Admission slot `a` written by `f` of its content, when it is not marked (R10, R14): for a slot that this
taking has read. -/
def State.writeAdm (a : Fin 1024) (f : Admission → Admission) (s : State) : State :=
  s.modAdmSlot a fun slot => if slot.marked then slot else Slot.write (f slot.content) slot

/-- Admission slot `a` read, and written by `f` of its content when it is not damaged (R14). -/
def State.updateAdm (a : Fin 1024) (f : Admission → Admission) (s : State) : State :=
  (s.readAdm a).2.writeAdm a f

/-- The mark of an admission slot cleared, with the count of marks (R15). -/
def State.unmarkAdm (a : Fin 1024) (s : State) : State :=
  if s.admMarked a then
    s.modMem fun m =>
      { m with admissions := upd m.admissions a Slot.unmark, admMarks := m.admMarks - 1 }
  else s

/-- Retirement of an admission slot (R7): the free pattern written, the mark cleared, the generation advanced, and
the slot number put at the tail of the free list. -/
def State.retireAdmSlot (a : Fin 1024) (s : State) : State :=
  ((s.modAdmSlot a (Slot.write Admission.freePattern)).unmarkAdm a).modMem fun m =>
    { m with admGen := upd m.admGen a (· + 1), admFree := m.admFree ++ [a] }

/-- Creation of an admission in slot `a`, the head of the free list: its content written without a read (R6). -/
def State.createAdm (a : Fin 1024) (x : Admission) (s : State) : State :=
  (s.modAdmSlot a (Slot.write x)).modMem fun m => { m with admFree := m.admFree.tail }

/-! ## The order table -/

/-- Order slot `o` changed by `f`. -/
def State.modOrderSlot (o : Fin 256) (f : Slot Order → Slot Order) (s : State) : State :=
  s.modMem fun m => { m with orders := upd m.orders o f }

/-- Order slot `o` is live: its number is not on the free list (R2). -/
def State.orderLive (s : State) (o : Fin 256) : Bool := !s.mem.orderFree.contains o

/-- The handle of order slot `o` (R3). -/
def State.orderHandle (s : State) (o : Fin 256) : OrderHandle := { slot := o, gen := s.mem.orderGen[o] }

/-- The handle names a live order of the slot's present generation (R4). -/
def State.orderCurrent (s : State) (h : OrderHandle) : Bool :=
  s.orderLive h.slot && s.mem.orderGen[h.slot] == h.gen

/-- The damage mark of order slot `o`. -/
def State.orderMarked (s : State) (o : Fin 256) : Bool := s.mem.orders[o].marked

/-- The content of order slot `o`, not checked: for a slot that this taking has read. -/
def State.order (s : State) (o : Fin 256) : Order := s.mem.orders[o].content

/-- The damage mark of a live order slot set, with its event and attention (R9). -/
def State.markOrder (o : Fin 256) (s : State) : State :=
  ((s.modMem fun m =>
      { m with orders := upd m.orders o Slot.mark, orderMarks := m.orderMarks + 1 }).event
    (.order o) .double).raiseDamaged

/-- A read of a live order (R8 to R10): its content, or nothing when it is marked or found damaged. -/
def State.readOrder (o : Fin 256) (s : State) : Option Order × State :=
  let slot := s.mem.orders[o]
  if slot.marked then (none, s)
  else match slot.health with
    | .clean => (some slot.content, s)
    | .single =>
      (some slot.content, (s.modOrderSlot o (Slot.write slot.content)).event (.order o) .single)
    | .double => (none, s.markOrder o)

/-- Order slot `o` written by `f` of its content, when it is not marked (R10, R14). -/
def State.writeOrder (o : Fin 256) (f : Order → Order) (s : State) : State :=
  s.modOrderSlot o fun slot => if slot.marked then slot else Slot.write (f slot.content) slot

/-- Order slot `o` read, and written by `f` of its content when it is not damaged (R14). -/
def State.updateOrder (o : Fin 256) (f : Order → Order) (s : State) : State :=
  (s.readOrder o).2.writeOrder o f

/-- The mark of an order slot cleared, with the count of marks (R15). -/
def State.unmarkOrder (o : Fin 256) (s : State) : State :=
  if s.orderMarked o then
    s.modMem fun m =>
      { m with orders := upd m.orders o Slot.unmark, orderMarks := m.orderMarks - 1 }
  else s

/-- Retirement of an order slot (R7). -/
def State.retireOrderSlot (o : Fin 256) (s : State) : State :=
  ((s.modOrderSlot o (Slot.write Order.freePattern)).unmarkOrder o).modMem fun m =>
    { m with orderGen := upd m.orderGen o (· + 1), orderFree := m.orderFree ++ [o] }

/-- Creation of an order in slot `o`, the head of the free list (R6). -/
def State.createOrder (o : Fin 256) (x : Order) (s : State) : State :=
  (s.modOrderSlot o (Slot.write x)).modMem fun m => { m with orderFree := m.orderFree.tail }

/-- The live order slots in ascending order. -/
def State.liveOrders (s : State) : List (Fin 256) :=
  (List.finRange 256).filter (s.orderLive ·)

/-- The live admission slots in ascending order. -/
def State.liveAdms (s : State) : List (Fin 1024) :=
  (List.finRange 1024).filter (s.admLive ·)

/-- Orders read one by one in list order (assumption log 11): the content of each, and whether every one was
readable. Each one is read, also after one that is damaged. -/
def State.readOrders : List (Fin 256) → State → List (Fin 256 × Order) × Bool × State
  | [], s => ([], true, s)
  | o :: rest, s =>
    let (x, s) := s.readOrder o
    let (xs, good, s) := s.readOrders rest
    match x with
    | some x => ((o, x) :: xs, good, s)
    | none => (xs, false, s)

/-- An admission and every order on its list read (R12): its content and its orders, or nothing when one of them is
marked or found damaged. -/
def State.readTab (a : Fin 1024) (s : State) : Option (Admission × List (Fin 256 × Order)) × State :=
  match s.readAdm a with
  | (none, s) => (none, s)
  | (some x, s) =>
    let (xs, good, s) := s.readOrders (x.orders.map OrderHandle.slot)
    (if good then some (x, xs) else none, s)

/-! ## Answers -/

/-- What a block hands back for a command: the state after it, the status and the answer data (R199). -/
structure Reply where
  state : State
  status : Status
  data : List Byte

/-- The answer OK with its data. -/
def State.ok (s : State) (data : List Byte) : Reply := { state := s, status := .ok, data := data }

/-- An answer without data. -/
def State.refuse (s : State) (status : Status) : Reply := { state := s, status := status, data := [] }

/-- The new answer of port `p` (R196, R199). -/
def State.answer (p : PortId) (code : Byte) (status : Status) (data : List Byte) (s : State) : State :=
  s.modPort p fun r => { r with answer := some { code := code, status := status, data := data } }

/-- The commands taken on the counter port only (R201). -/
def counterOnly : List Byte := [0x41, 0x42, 0x43, 0x44, 0x45, 0x47, 0x48, 0x49]

/-- The commands taken on both ports (Command summary). -/
def onBoth : List Byte :=
  [0x00, 0x01, 0x02, 0x03, 0x16, 0x22, 0x40, 0x46, 0x4A, 0x4B, 0x4C, 0x4D, 0x50]

/-- Whether a command is taken on a port (R201). -/
def takenOn (code : Byte) : PortId → Bool
  | .booth => !counterOnly.contains code
  | .counter => counterOnly.contains code || onBoth.contains code

/-- The checks of a port before a command reaches its block, for a known command (R199, R205): the status of the
first that fails. -/
def State.portCheck (s : State) (p : PortId) (code : Byte) (lengthOk : Bool) : Option Status :=
  if s.sys.phase = .checking then some .starting
  else if s.sys.resetWaiting then some .busy
  else if !takenOn code p then some .privilege
  else if !lengthOk then some .length
  else none

/-- A command handed over by port `p` (R199, R202): refused by the port's checks, or taken whole by its block; its
answer becomes the pending answer. Nothing is taken while the part is held in reset (R206). A frame in progress on the
port goes on, and the pending answer is replaced at once, with no SHORT_READ check (assumption log 7). -/
def State.command (p : PortId) (code : Byte) (lengthOk : Bool) (block : State → Reply) (s : State) : State :=
  if s.sys.phase = .held then s
  else match s.portCheck p code lengthOk with
    | some status => s.answer p code status []
    | none =>
      let r := block s
      r.state.answer p code r.status r.data

/-- A field event or an event of the part itself, taken while the part runs (R206, R207). -/
def State.whileRunning (f : State → State) (s : State) : State :=
  if s.sys.phase = .running then f s else s

end Sys2Proof.Machine
end

