-- ==== Sys2Proof/Machine/Displays.lean ====
section
/-!
DEFINITION. The row display driver: the display words, the pending set, the bus and the levels on its pins (R101 to
R103, R210).
-/

namespace Sys2Proof.Machine

open Sys2Proof

/-- Row line (screen − 1) × 8 + row, for a row counted from 0 (Numbering). -/
def rowLine (n : Fin 6) (row : Nat) : Fin 48 := Fin.ofNat 48 (n.val * 8 + row)

/-- The screen whose field would hold row line `r` (Numbering). -/
def rowScreen (r : Fin 48) : Fin 6 := ⟨r.val / 8, by omega⟩

/-- The row lines that belong to a screen: those of its field's rows (R101). -/
def State.rowsOf (s : State) (n : Fin 6) : List (Fin 48) :=
  match s.lot.fields[n] with
  | none => []
  | some f => (List.range f.rowCount).map (rowLine n)

/-- A display word set: when it changes, its row line joins the pending set (R102). -/
def Display.setWord (r : Fin 48) (w : DisplayWord) (d : Display) : Display :=
  if d.words[r] = w then d
  else { d with words := upd d.words r fun _ => w, queued := upd d.queued r fun _ => true }

/-- The channel shown and blink for a sound state (R101). -/
def Sound.shown : Sound → Nat × Bool
  | .live c => (c.val + 1, false)
  | .announce _ next _ => (next.val + 1, true)
  | .off | .failed => (0, false)

/-- The channel and blink of a screen's row lines set from its sound (R99, R101). -/
def State.showSound (n : Fin 6) (s : State) : State :=
  let (channel, blink) := s.chans.sounds[n].sound.shown
  s.each (s.rowsOf n) fun r s => s.modDisp fun d =>
    d.setWord r { d.words[r] with channel := channel, blink := blink }

/-- The order lamp of a screen's row lines set from its order window (R101, R128). -/
def State.showLamp (n : Fin 6) (s : State) : State :=
  s.each (s.rowsOf n) fun r s => s.modDisp fun d =>
    d.setWord r { d.words[r] with lamp := s.ords.windows[n] }

/-- Every row line set at OPEN_NIGHT: those that belong to no screen blank, those of a field from its screen's
sound and window (R101). -/
def State.showAllWords (s : State) : State :=
  s.each (List.finRange 48) fun r s =>
    let n := rowScreen r
    let (channel, blink) := s.chans.sounds[n].sound.shown
    let w : DisplayWord :=
      if (s.rowsOf n).contains r then { channel := channel, blink := blink, lamp := s.ords.windows[n] }
      else DisplayWord.blank
    s.modDisp (Display.setWord r w)

/-- Each row line of a screen joins the pending set, changed or not (R102). -/
def State.queueRows (n : Fin 6) (s : State) : State :=
  s.each (s.rowsOf n) fun r s => s.modDisp fun d => { d with queued := upd d.queued r fun _ => true }

/-- The number of one-bits of a word. -/
def ones {n : Nat} (w : BitVec n) : Nat := (List.range n).countP fun i => w.getLsbD i

/-- The 16 bits of a row word on the bus (R210). -/
def busWord (r : Fin 48) (w : DisplayWord) : BitVec 16 :=
  let body : BitVec 12 := BitVec.ofNat 6 (r.val + 1) ++ BitVec.ofNat 4 w.channel ++
    BitVec.ofBool w.blink ++ BitVec.ofBool w.lamp
  body ++ BitVec.ofNat 4 (ones body)

/-- The levels of RD_CLK and RD_DAT while a word is sent, one pair for each half-period of 62.5 µs: RD_DAT takes a bit,
most significant first, while RD_CLK is low, and holds it through the rising edge that the displays take it at (R210). -/
def busLevels (w : BitVec 16) : List (Bool × Bool) :=
  (List.finRange 16).flatMap fun i => [(false, w.getMsb i), (true, w.getMsb i)]

/-- The half-periods of RD_CLK in one ms (R210). -/
def halfPeriods : Nat := 16

/-- RD_CLK and RD_DAT at the present ms of the sending of a word. -/
def Sending.levels (x : Sending) : Bool × Bool :=
  ((busLevels x.word)[halfPeriods * (Config.displayWordTime - x.timer.getD 0)]?).getD (true, x.word.getLsbD 0)

/-- RD_CLK: at rest high between words (R206, R210). -/
def Display.rdClk (d : Display) : Bool := (d.bus.map fun x => x.levels.1).getD true

/-- RD_DAT: between words it holds the level it was last given (R206, R210, assumption log 23). -/
def Display.rdDat (d : Display) : Bool := (d.bus.map fun x => x.levels.2).getD d.dat

/-- The row line the bus takes next: the lowest-numbered member of the pending set above the line last sent, or when
there is none the lowest-numbered member (R103). -/
def Display.next (d : Display) : Option (Fin 48) :=
  let members := (List.finRange 48).filter fun r => d.queued[r]
  match members.find? fun r => d.lastSent < r with
  | some r => some r
  | none => members.head?

/-- An idle bus with a pending row line begins to send its word (R103). -/
def Display.start (d : Display) : Display :=
  match d.bus, d.next with
  | none, some r =>
    { d with
      queued := upd d.queued r fun _ => false
      lastSent := r
      bus := some { row := r, word := busWord r d.words[r], timer := some Config.displayWordTime } }
  | _, _ => d

/-- The sending of a word ends: RD_CLK is at rest high, and RD_DAT stays at the word's last bit (R103, R210, assumption
log 23). -/
def Display.finish (d : Display) : Display :=
  match d.bus with
  | none => d
  | some x => { d with bus := none, dat := x.word.getLsbD 0 }

/-- DISPLAY_WORD_START (R103). -/
def execDisplayWordStart (s : State) : Host.Outcome State Fault Refusal :=
  .next (s.whileRunning (State.modDisp Display.start))

/-- DISPLAY_WORD_SENT (R103). -/
def execDisplayWordSent (s : State) : Host.Outcome State Fault Refusal :=
  .next (s.whileRunning (State.modDisp Display.finish))

end Sys2Proof.Machine
end

