-- ==== Sys2Proof/Machine/Windows.lean ====
section
/-!
DEFINITION. The order windows (R128) and the closing of the night (R162).
-/

namespace Sys2Proof.Machine

open Sys2Proof

/-- The domain of a screen (R168). -/
def screenDomain (n : Fin 6) : Fin 8 := ⟨n.val, by omega⟩

/-- KITCHEN, domain 7. -/
def kitchen : Fin 8 := 6

/-- GATES, domain 8. -/
def gates : Fin 8 := 7

/-- A domain is ACTIVE (R168). -/
def State.active (s : State) (d : Fin 8) : Bool := s.doms.domains[d].state = .active

/-- The orders-during-feature flag of a screen's field, no without a field (R20, R66). -/
def LotMap.ordersDuringFeature (l : LotMap) (n : Fin 6) : Bool :=
  (l.fields[n].map Field.ordersDuringFeature).getD false

/-- The condition under which a screen's order window is open (R128). -/
def State.windowCondition (s : State) (n : Fin 6) : Bool :=
  s.night.state = .opened && s.active kitchen &&
    match s.shows.screens[n].state with
    | .preshow | .starting | .intermission | .held => true
    | .running => s.lot.ordersDuringFeature n
    | .dark | .ended => false

/-- A screen's window recomputed; a change sets the order lamps of its rows (R128). -/
def State.recomputeWindow (n : Fin 6) (s : State) : State :=
  let opened := s.windowCondition n
  if s.ords.windows[n] = opened then s
  else (s.modOrds fun o => { o with windows := upd o.windows n fun _ => opened }).showLamp n

/-- Every window recomputed (R128). -/
def State.recomputeWindows (s : State) : State :=
  s.each (List.finRange 6) State.recomputeWindow

/-- The night becomes CLOSED (R162). -/
def State.closeNight (s : State) : State :=
  (((s.modNight fun n => { n with state := .closed, secondTimer := none }).modStore
    fun r => { r with locked := false }).raiseBooth .nightClosed).recomputeWindows

/-- The closing condition: nothing live and every screen DARK (R162). -/
def State.closable (s : State) : Bool :=
  s.mem.admFree.length == 1024 && s.mem.orderFree.length == 256 &&
    s.shows.screens.all fun c => c.state = .dark

/-- The examination of the closing condition (R162). -/
def State.examineClose (s : State) : State :=
  if s.night.state = .closing ∧ s.closable then s.closeNight else s

end Sys2Proof.Machine
end

