-- ==== Sys2Proof/Machine/Shows.lean ====
section
/-!
DEFINITION. The show controller's own changes of a screen: its state and lines, starting, segments, hold
reasons, and what it does with reports of sound and domain (R67, R71 to R77, R81, R82).
-/

namespace Sys2Proof.Machine

open Sys2Proof

/-- The level of RUN_REQ in a show state (R67). -/
def ShowState.runReq : ShowState → Bool
  | .starting | .running | .intermission | .held => true
  | .dark | .preshow | .ended => false

/-- The level of PAUSE_REQ in a show state (R67). -/
def ShowState.pauseReq : ShowState → Bool
  | .held => true
  | _ => false

/-- The show is in RUNNING, INTERMISSION or HELD, the states in which a hold reason is added (R76). -/
def ShowState.underWay : ShowState → Bool
  | .running | .intermission | .held => true
  | _ => false

/-- A screen in a show state, its lines set with it (R67). -/
def Screen.enter (st : ShowState) (c : Screen) : Screen :=
  { c with state := st, runReq := st.runReq, pauseReq := st.pauseReq }

/-- A change of a screen's show state: its lines, SHOW_STATE, and its order window (R67, R128). -/
def State.setShow (n : Fin 6) (st : ShowState) (s : State) : State :=
  if s.shows.screens[n].state = st then s
  else ((s.modScreen n (Screen.enter st)).raiseBooth .showState).recomputeWindow n

/-- Whether a set of hold reasons is empty. -/
def HoldReasons.isEmpty (h : HoldReasons) : Bool := !h.sound && !h.projector && !h.operator

/-- One of the three hold reasons (R66). -/
inductive HoldReason where
  | sound | projector | operator
  deriving DecidableEq, Repr

/-- Whether a reason is in the set. -/
def HoldReasons.has (h : HoldReasons) : HoldReason → Bool
  | .sound => h.sound
  | .projector => h.projector
  | .operator => h.operator

/-- A reason put into the set or taken out of it. -/
def HoldReasons.set (r : HoldReason) (b : Bool) (h : HoldReasons) : HoldReasons :=
  match r with
  | .sound => { h with sound := b }
  | .projector => { h with projector := b }
  | .operator => { h with operator := b }

/-- The current segment of a screen. -/
def Screen.segment (c : Screen) : Option Segment :=
  match c.current with
  | some (k + 1) => c.list[k]?
  | _ => none

/-- The state of a show that runs its current segment: INTERMISSION for an INTERVAL, RUNNING for every other kind
(R73, R77). -/
def Screen.runningState (c : Screen) : ShowState :=
  match c.segment with
  | some g => if g.kind = .interval then .intermission else .running
  | none => .running

/-- A hold reason added (R76): a show in RUNNING or INTERMISSION becomes HELD. -/
def State.addHold (n : Fin 6) (r : HoldReason) (s : State) : State :=
  if s.shows.screens[n].state.underWay then
    (s.modScreen n fun c => { c with reasons := c.reasons.set r true }).setShow n .held
  else s

/-- A hold reason taken out of the set; an emptied set resumes the show (R77). -/
def State.removeHold (n : Fin 6) (r : HoldReason) (s : State) : State :=
  if s.shows.screens[n].reasons.has r then
    let s := s.modScreen n fun c => { c with reasons := c.reasons.set r false }
    let c := s.shows.screens[n]
    if c.reasons.isEmpty ∧ c.state = .held then s.setShow n c.runningState else s
  else s

/-- Segment `k` entered (R73). -/
def State.enterSegment (n : Fin 6) (k : Nat) (s : State) : State :=
  let s := s.modScreen n fun c =>
    { c with
      current := some k
      remaining := some (((c.list[k - 1]?.map Segment.length).getD 0) + s.shows.graceTime)
      overrun := false }
  let c := s.shows.screens[n]
  if c.reasons.isEmpty then s.setShow n c.runningState else s

/-- A STARTING show whose projector runs: segment 1 entered at the present clock; a FAULT already high holds it at
once (R72, R73). -/
def State.beginShow (n : Fin 6) (s : State) : State :=
  let s := (s.modScreen n fun c =>
    { c with startTimer := none, start := some s.night.clock }).enterSegment n 1
  if s.shows.screens[n].fault.level then s.addHold n .projector else s

/-- A sound state with a channel on the air: LIVE or ANNOUNCE. -/
def Sound.onAir : Sound → Bool
  | .live _ | .announce _ _ _ => true
  | .off | .failed => false

/-- The start condition of a PRESHOW screen (R71). -/
def State.startCondition (s : State) (n : Fin 6) : Bool :=
  let c := s.shows.screens[n]
  c.state = .preshow && (match c.start with
    | some t => t ≤ s.night.clock
    | none => false) && s.active (screenDomain n) && s.chans.sounds[n].sound.onAir

/-- The examination of the start condition; a projector already running enters segment 1 (R71, R72). -/
def State.examineStart (n : Fin 6) (s : State) : State :=
  if s.startCondition n then
    let s := (s.modScreen n fun c =>
      { c with current := some 1, startTimer := seconds s.shows.startTimeout }).setShow n .starting
    if s.shows.screens[n].running.level then s.beginShow n else s
  else s

/-- A start abandoned: PRESHOW again, and the start condition examined (R71, R72). -/
def State.abandonStart (n : Fin 6) (s : State) : State :=
  if s.shows.screens[n].state = .starting then
    ((s.modScreen n fun c => { c with startTimer := none, current := none }).setShow n
      .preshow).examineStart n
  else s

/-- A sound state taken by the show controller (R81). -/
def State.soundTaken (n : Fin 6) (s : State) : State :=
  match s.chans.sounds[n].sound with
  | .live _ =>
    match s.shows.screens[n].state with
    | .preshow => s.examineStart n
    | .held => s.removeHold n .sound
    | _ => s
  | .announce _ _ _ => s.examineStart n
  | .off | .failed => (s.abandonStart n).addHold n .sound

/-- A screen domain leaving ACTIVE, at the show controller (R82). -/
def State.domainLost (n : Fin 6) (s : State) : State :=
  (s.abandonStart n).addHold n .sound

end Sys2Proof.Machine
end

