-- ==== Sys2Proof/Machine/Channels.lean ====
section
/-!
DEFINITION. The carrier channel manager (chapter 5): acquisition, giving up, retunes, quarantine, grants, the
qualification of the carrier, and its commands and events.
-/

namespace Sys2Proof.Machine

open Sys2Proof

/-! ## The sound of a screen (R87, R90, R99) -/

/-- The code on CHSEL for a sound state (R87). -/
def Sound.code : Sound → Nat
  | .live c | .announce c _ _ => c.val + 1
  | .off | .failed => 0

/-- The carrier-fault timer starts when CARRIER_OK is low on the air and it is neither running nor spent (R90). -/
def SoundRecord.qualify (faultTime : Nat) (r : SoundRecord) : SoundRecord :=
  if r.sound.onAir ∧ r.carrierOk = false ∧ r.faultTimer = none ∧ r.spent = false then
    { r with faultTimer := some faultTime }
  else r

/-- A sound state entered: CHSEL follows it, and a change of CHSEL starts the qualification afresh; off the air the
timer is stopped and the carrier level follows the line (R87, R90). -/
def SoundRecord.enter (x : Sound) (faultTime : Nat) (r : SoundRecord) : SoundRecord :=
  let changed := r.chsel ≠ x.code
  let r := { r with sound := x, chsel := x.code }
  if x.onAir then
    if changed then { r with faultTimer := none, spent := false }.qualify faultTime else r.qualify faultTime
  else { r with faultTimer := none, spent := false, carrierLevel := r.carrierOk }

/-- A change of a screen's sound, reported to the show controller and the row display driver (R99). -/
def State.setSound (n : Fin 6) (x : Sound) (s : State) : State :=
  ((s.modSound n (SoundRecord.enter x s.chans.faultTime)).soundTaken n).showSound n

/-! ## Channels (R86, R88, R91, R98) -/

/-- The state of a channel set. -/
def State.setChannel (c : Fin 12) (x : ChannelState) (s : State) : State :=
  s.modChannel c fun r => { r with state := x }

/-- A channel is FREE and permitted (R88). -/
def Channel.available (c : Channel) : Bool := c.permitted && c.state = .free

/-- The lowest-numbered channel that is FREE and permitted (R88, R91). -/
def State.spare (s : State) : Option (Fin 12) :=
  (List.finRange 12).find? fun c => s.chans.channels[c].available

/-- A channel taken as LIVE by a screen (R88, R98). -/
def State.takeChannel (n : Fin 6) (c : Fin 12) (s : State) : State :=
  (s.setChannel c (.held n .live)).setSound n (.live c)

/-- A freed channel offered to the lowest-numbered FAILED screen (R98). -/
def State.offer (c : Fin 12) (s : State) : State :=
  if s.chans.channels[c].available then
    match (List.finRange 6).find? fun n => s.chans.sounds[n].sound = .failed with
    | some n => s.takeChannel n c
    | none => s
  else s

/-- The channel a screen acquires: its home channel, else the lowest FREE and permitted one (R88). -/
def State.candidate (s : State) (n : Fin 6) : Option (Fin 12) :=
  match s.lot.fields[n] with
  | some f => if s.chans.channels[f.home].available then some f.home else s.spare
  | none => s.spare

/-- A screen acquires a channel, or becomes FAILED (R88). -/
def State.acquire (n : Fin 6) (s : State) : State :=
  match s.candidate n with
  | some c => s.takeChannel n c
  | none => (s.setSound n .failed).raiseBooth .nochan

/-- A screen that stops wanting gives its channels up, and those freed are offered in ascending order (R89, R98). -/
def State.giveUp (n : Fin 6) (s : State) : State :=
  match s.chans.sounds[n].sound with
  | .live c => ((s.setChannel c .free).setSound n .off).offer c
  | .announce c next _ =>
    let s := (((s.setChannel c .free).setChannel next .free).modSound n fun r =>
      { r with announceTimer := none }).setSound n .off
    if c < next then (s.offer c).offer next else (s.offer next).offer c
  | .failed => s.setSound n .off
  | .off => s

/-- A screen wants a channel while its show is not DARK and its domain is ACTIVE (R81, R88). -/
def State.wants (s : State) (n : Fin 6) : Bool :=
  s.shows.screens[n].state != .dark && s.active (screenDomain n)

/-- The wanting of a screen brought up to date: it begins to want and acquires, or stops and gives up (R88,
R89). -/
def State.updateWanting (n : Fin 6) (s : State) : State :=
  if s.wants n = s.chans.sounds[n].wanting then s
  else if s.wants n then (s.modSound n fun r => { r with wanting := true }).acquire n
  else (s.modSound n fun r => { r with wanting := false }).giveUp n

/-! ## Retunes and faults (R91 to R96) -/

/-- A channel begins its quarantine (R97). -/
def State.quarantine (c : Fin 12) (s : State) : State :=
  s.setChannel c (.quarantined s.chans.quarantineTime)

/-- A screen announces channel `next`: it is HELD as ANNOUNCED and the announce timer starts (R91, R94). -/
def State.announceChannel (n : Fin 6) (c next : Fin 12) (cause : RetuneCause) (s : State) : State :=
  ((s.setChannel next (.held n .announced)).modSound n fun r =>
    { r with announceTimer := seconds s.chans.announceTime }).setSound n (.announce c next cause)

/-- A screen on live channel `c` loses its sound (R93). -/
def State.loseSound (n : Fin 6) (c : Fin 12) (s : State) : State :=
  (((s.quarantine c).modSound n fun r => { r with announceTimer := none }).setSound n
    .failed).raiseBooth .nochan

/-- A carrier fault at a screen (R93, R94). -/
def State.carrierFaultAt (n : Fin 6) (s : State) : State :=
  match s.chans.sounds[n].sound with
  | .live c =>
    match s.spare with
    | some next => s.announceChannel n c next .carrier
    | none => s.loseSound n c
  | .announce c next _ => s.modSound n fun r => { r with sound := .announce c next .carrier }
  | .off | .failed => s

/-- The announced channel of a screen quarantined: another is chosen, or the retune is given up (R94). -/
def State.announcedQuarantined (n : Fin 6) (c next : Fin 12) (cause : RetuneCause) (s : State) : State :=
  let s := s.quarantine next
  match s.spare with
  | some other => s.announceChannel n c other cause
  | none =>
    match cause with
    | .operator =>
      ((s.modSound n fun r => { r with announceTimer := none }).setSound n (.live c)).raiseBooth .nochan
    | .carrier => s.loseSound n c

/-- The switch at the end of the announce period (R95). -/
def State.switchChannel (n : Fin 6) (c next : Fin 12) (cause : RetuneCause) (s : State) : State :=
  let s := (s.setChannel next (.held n .live)).modSound n fun r => { r with announceTimer := none }
  let s := match cause with
    | .carrier => s.quarantine c
    | .operator => s.setChannel c .free
  let s := s.setSound n (.live next)
  let s := match cause with
    | .carrier => s
    | .operator => s.offer c
  s.raiseBooth .retuneDone

/-! ## Commands -/

/-- RETUNE at the channel manager (R92). -/
def retune (screen : Byte) (s : State) : Reply :=
  match numbered 6 screen with
  | none => s.refuse .badParam
  | some n =>
    match s.chans.sounds[n].sound with
    | .live c =>
      match s.spare with
      | some next =>
        { state := s.announceChannel n c next .operator, status := .accepted, data := [numberByte next] }
      | none => s.refuse .nochan
    | .announce _ _ _ => s.refuse .busy
    | .off | .failed => s.refuse .badState

/-- The number of a channel's state (R86). -/
def ChannelState.number : ChannelState → Nat
  | .free => 1
  | .held _ _ => 2
  | .quarantined _ => 3

/-- QUARANTINE_CHANNEL at the channel manager (R96). -/
def quarantineCommand (channel : Byte) (s : State) : Reply :=
  match numbered 12 channel with
  | none => s.refuse .badParam
  | some c =>
    let s := match s.chans.channels[c].state with
      | .free | .quarantined _ => s.quarantine c
      | .held n .live => s.carrierFaultAt n
      | .held n .announced =>
        match s.chans.sounds[n].sound with
        | .announce live next cause => s.announcedQuarantined n live next cause
        | _ => s
    s.ok [byte1 s.chans.channels[c].state.number]

/-- The three bytes of a channel record (Formats: READ_CHANNELS). -/
def Channel.bytes (c : Channel) : List Byte :=
  let head : BitVec 3 := BitVec.ofBool c.permitted ++ BitVec.ofNat 2 c.state.number
  match c.state with
  | .free => (head ++ (0 : BitVec 5)) :: [0, 0]
  | .held n heldAs =>
    (head ++ BitVec.ofBool (heldAs = .announced) ++ BitVec.ofNat 4 (n.val + 1)) :: [0, 0]
  | .quarantined t => (head ++ (0 : BitVec 5)) :: bytes2 t

/-- READ_CHANNELS at the channel manager (R100). -/
def readChannels (s : State) : Reply :=
  s.ok (s.chans.channels.toList.flatMap Channel.bytes ++
    s.chans.sounds.toList.map (fun r => byte1 r.chsel) ++
    [bitsByte (s.chans.sounds.toList.map SoundRecord.carrierLevel)])

/-- RETUNE (R92). -/
def execRetune (p : PortId) (screen : Byte) (s : State) : Host.Outcome State Fault Refusal :=
  .next (s.command p 0x30 true (retune screen))

/-- QUARANTINE_CHANNEL (R96). -/
def execQuarantineChannel (p : PortId) (channel : Byte) (s : State) :
    Host.Outcome State Fault Refusal :=
  .next (s.command p 0x31 true (quarantineCommand channel))

/-- READ_CHANNELS (R100). -/
def execReadChannels (p : PortId) (s : State) : Host.Outcome State Fault Refusal :=
  .next (s.command p 0x32 true readChannels)

/-! ## Events -/

/-- A new level on CARRIER_OK taken (R90). -/
def SoundRecord.takeLine (faultTime : Nat) (r : SoundRecord) : SoundRecord :=
  if r.sound.onAir then
    if r.carrierOk then { r with faultTimer := none, spent := false, carrierLevel := true }
    else r.qualify faultTime
  else { r with carrierLevel := r.carrierOk }

/-- CARRIER_OK_CHANGE (R90): the level on the pin, taken by the qualification while the part runs. -/
def execCarrierOkChange (n : Fin 6) (high : Bool) (s : State) : Host.Outcome State Fault Refusal :=
  .next (if s.chans.sounds[n].carrierOk = high then s
    else (s.modSound n fun r => { r with carrierOk := high }).whileRunning fun s =>
      s.modSound n (SoundRecord.takeLine s.chans.faultTime))

/-- CARRIER_FAULT: the carrier-fault timer of a screen expires (R90, R93, R94). -/
def execCarrierFault (n : Fin 6) (s : State) : Host.Outcome State Fault Refusal :=
  .next (s.whileRunning fun s =>
    if s.chans.sounds[n].faultTimer.isSome then
      (s.modSound n fun r =>
        { r with faultTimer := none, spent := true, carrierLevel := false }).carrierFaultAt n
    else s)

/-- ANNOUNCE_TIMER_EXPIRY (R95). -/
def execAnnounceTimerExpiry (n : Fin 6) (s : State) : Host.Outcome State Fault Refusal :=
  .next (s.whileRunning fun s =>
    if s.chans.sounds[n].announceTimer.isSome then
      match s.chans.sounds[n].sound with
      | .announce c next cause => s.switchChannel n c next cause
      | _ => s
    else s)

/-- A second of a channel's quarantine (R97). -/
def Channel.tickSecond (c : Channel) : Channel :=
  match c.state with
  | .quarantined t => { c with state := .quarantined (t - 1) }
  | _ => c

/-- CHANNEL_SECOND: a second of the manager's own timer (R97). -/
def execChannelSecond (s : State) : Host.Outcome State Fault Refusal :=
  .next (s.whileRunning (State.modChans fun m =>
    { m with channels := m.channels.map Channel.tickSecond, secondTimer := seconds 1 }))

/-- QUARANTINE_EXPIRY (R97): a QUARANTINED channel becomes FREE and is offered. -/
def execQuarantineExpiry (c : Fin 12) (s : State) : Host.Outcome State Fault Refusal :=
  .next (s.whileRunning fun s =>
    match s.chans.channels[c].state with
    | .quarantined _ => (s.setChannel c .free).offer c
    | _ => s)

end Sys2Proof.Machine
end

