-- ==== Sys2Proof/Machine/Lot.lean ====
section
/-!
DEFINITION. The lot map (chapter 2): the geometry of fields, reads and rebuilds of stalls, tallies, holding
queues, allocation, release and its examination, and the stall commands.
-/

namespace Sys2Proof.Machine

open Sys2Proof

/-! ## Geometry (R20, R21) -/

/-- The kind of row `row` in a field of `rows` rows (R21). -/
def Pattern.kind (p : Pattern) (rows row : Nat) : StallKind :=
  match p with
  | .u => .standard
  | .f => if row ≤ 2 then .front else .standard
  | .b => if row = rows then .high else .standard
  | .fb => if row ≤ 2 then .front else if row = rows then .high else .standard

/-- The least row count of a pattern (R21). -/
def Pattern.leastRows : Pattern → Nat
  | .u => 1
  | .f => 3
  | .b => 2
  | .fb => 4

/-- The number of posts in a row of a kind (R21). -/
def StallKind.rowLength : StallKind → Nat
  | .front => 16
  | .standard => 40
  | .high => 24

/-- The length of row `row` (R21). -/
def Pattern.rowLength (p : Pattern) (rows row : Nat) : Nat := (p.kind rows row).rowLength

/-- The number of stalls in the rows before row `row` (R21). -/
def Pattern.stallsBefore (p : Pattern) (rows row : Nat) : Nat :=
  ((List.range (row - 1)).map fun r => p.rowLength rows (r + 1)).sum

/-- The number of stalls of a field (R20, R21). -/
def Pattern.stallCount (p : Pattern) (rows : Nat) : Nat := p.stallsBefore rows (rows + 1)

/-- The row of field stall number `n` (R21). -/
def Pattern.rowOf (p : Pattern) (rows n : Nat) : Nat :=
  1 + (List.range (rows - 1)).countP fun r => p.stallsBefore rows (r + 2) < n

/-- The record of field stall number `n` of screen `screen`, not closed (R21, R23). -/
def Field.stall (f : Field) (screen : Fin 6) (n : Nat) : Stall :=
  let row := f.pattern.rowOf f.rowCount n
  { number := n, screen := screen, row := row
    position := n - f.pattern.stallsBefore f.rowCount row
    kind := f.pattern.kind f.rowCount row
    closed := false, closePending := false, cause := none }

/-- The fixed fields that the field records give a stall slot: none when it is not in use (R2, R38). -/
def LotMap.place (l : LotMap) (i : Fin 1024) : Option Stall :=
  (List.finRange 6).findSome? fun n =>
    match l.fields[n] with
    | some f =>
      if f.firstIndex ≤ i.val ∧ i.val < f.firstIndex + f.stallCount then
        some (f.stall n (i.val - f.firstIndex + 1))
      else none
    | none => none

/-- A layout is loaded (R2). -/
def LotMap.loaded (l : LotMap) : Bool := l.fields.any Option.isSome

/-- The stall count of a screen's field, 0 with no field (R20). -/
def LotMap.stallCount (l : LotMap) (n : Fin 6) : Nat := (l.fields[n].map Field.stallCount).getD 0

/-- The holding capacity of a screen, 0 with no field (R20). -/
def LotMap.capacity (l : LotMap) (n : Fin 6) : Nat := (l.fields[n].map Field.capacity).getD 0

/-- The stall table index of field stall number `k` of a field (R21). -/
def Field.index (f : Field) (k : Nat) : Fin 1024 := Fin.ofNat 1024 (f.firstIndex + k - 1)

/-- A stall slot is in use (R2). -/
def LotMap.inUse (l : LotMap) (i : Fin 1024) : Bool := (l.place i).isSome

/-- The stall slots in use, in index order. -/
def LotMap.stallsInUse (l : LotMap) : List (Fin 1024) := (List.finRange 1024).filter l.inUse

/-- A class fits a kind: a CAR every kind, a TALL vehicle HIGH only (R24). -/
def VehicleClass.fits (c : VehicleClass) (k : StallKind) : Bool :=
  c = .car || k = .high

/-! ## Stall states and tallies (R24, R25) -/

/-- The state of a stall from its close fields and its occupant entry (R24). -/
def Stall.state (x : Stall) (o : Option Occupant) : StallState :=
  match o with
  | some ⟨_, .reservation⟩ => .reserved
  | some ⟨_, .occupation⟩ => .occupied
  | none => if x.closed then .closed else .free

/-- The place of a tally: kinds in the order of R21, states in the order of R24 (R25). -/
def tallyIndex (k : StallKind) (st : StallState) : Fin 12 :=
  Fin.ofNat 12 (4 * (k.number - 1) + (st.number - 1))

/-- The tally of a screen for a kind and a state (R25). -/
def LotMap.tally (l : LotMap) (n : Fin 6) (k : StallKind) (st : StallState) : Nat :=
  l.tallies[n][tallyIndex k st]

/-- A stall's new state counted: one count moves from the state it was counted under (R25). -/
def LotMap.recount (i : Fin 1024) (st : StallState) (l : LotMap) : LotMap :=
  match l.place i with
  | none => l
  | some x =>
    { l with
      counted := upd l.counted i fun _ => st
      tallies := upd l.tallies x.screen fun t =>
        upd (upd t (tallyIndex x.kind l.counted[i]) (· - 1)) (tallyIndex x.kind st) (· + 1) }

/-- The occupant entry of a stall set, with the state it is counted under (R24, R25). -/
def LotMap.setOccupant (i : Fin 1024) (o : Option Occupant) (st : StallState) (l : LotMap) : LotMap :=
  { l with occupants := upd l.occupants i fun _ => o }.recount i st

/-! ## Reads of stalls (R8, R9, R38) -/

/-- Stall slot `i` changed by `f`. -/
def State.modStallSlot (i : Fin 1024) (f : Slot Stall → Slot Stall) (s : State) : State :=
  s.modMem fun m => { m with stalls := upd m.stalls i f }

/-- The content of stall slot `i`, not checked: for a slot that this taking has read. -/
def State.stall (s : State) (i : Fin 1024) : Stall := s.mem.stalls[i].content

/-- The state of stall `i`, for a slot that this taking has read. -/
def State.stallState (s : State) (i : Fin 1024) : StallState :=
  (s.stall i).state s.lot.occupants[i]

/-- The content that the rebuild of stall `i` writes: the fixed fields from the field records, the close fields from
the occupant entry (R38). -/
def State.rebuilt (s : State) (i : Fin 1024) : Stall :=
  let x := (s.lot.place i).getD Stall.unusedPattern
  match s.lot.occupants[i] with
  | some _ => { x with closed := false, closePending := false, cause := none }
  | none => { x with closed := true, closePending := false, cause := some .damage }

/-- The damage mark of an in-use stall slot set, with its event and attention (R9). -/
def State.markStall (i : Fin 1024) (s : State) : State :=
  ((s.modMem fun m =>
      { m with stalls := upd m.stalls i Slot.mark, stallMarks := m.stallMarks + 1 }).event
    (.stall i) .double).raiseDamaged

/-- The rebuild of a marked stall, which clears its mark (R38). -/
def State.rebuildStall (i : Fin 1024) (s : State) : State :=
  let x := s.rebuilt i
  (s.modMem fun m =>
      { m with
        stalls := upd m.stalls i fun slot => (slot.write x).unmark
        stallMarks := m.stallMarks - 1 }).modLot
    (LotMap.recount i (x.state s.lot.occupants[i]))

/-- A read of an in-use stall: its content, after a rebuild when it is found damaged (R8, R9, R38). -/
def State.readStall (i : Fin 1024) (s : State) : Stall × State :=
  let slot := s.mem.stalls[i]
  match slot.health with
  | .clean => (slot.content, s)
  | .single => (slot.content, (s.modStallSlot i (Slot.write slot.content)).event (.stall i) .single)
  | .double =>
    let s := (s.markStall i).rebuildStall i
    (s.stall i, s)

/-- A stall's close fields written, with the state it is then counted under (R25): for a stall that this taking has
read. -/
def State.writeStall (i : Fin 1024) (f : Stall → Stall) (s : State) : State :=
  let x := f (s.stall i)
  (s.modStallSlot i (Slot.write x)).modLot (LotMap.recount i (x.state s.lot.occupants[i]))

/-- A stall taken for admission slot `a` (R24, R30). -/
def State.holdStall (i : Fin 1024) (a : Fin 1024) (hold : Hold) (s : State) : State :=
  s.modLot (LotMap.setOccupant i (some { slot := a, hold := hold })
    (match hold with
     | .reservation => .reserved
     | .occupation => .occupied))

/-! ## Scans of the index store (R39) -/

/-- The stall whose occupant entry names admission slot `a` (R39). -/
def LotMap.stallHeldBy (l : LotMap) (a : Fin 1024) : Option (Fin 1024) :=
  l.stallsInUse.find? fun i => (l.occupants[i].map Occupant.slot) == some a

/-- The screen whose holding queue holds admission slot `a` (R39). -/
def LotMap.queueOf (l : LotMap) (a : Fin 1024) : Option (Fin 6) :=
  (List.finRange 6).find? fun n => l.queues[n].contains a

/-- The screen that admission slot `a` belongs to in the index store: that of its stall or of its queue (R46). -/
def LotMap.screenOf (l : LotMap) (a : Fin 1024) : Option (Fin 6) :=
  match l.stallHeldBy a with
  | some i => (l.place i).map Stall.screen
  | none => l.queueOf a

/-- The field stall number of stall slot `i`, 0 when it is not in use (R21). -/
def LotMap.numberOf (l : LotMap) (i : Fin 1024) : Nat := ((l.place i).map Stall.number).getD 0

/-- The screen of stall slot `i`; screen 1 when it is not in use, which no name reaches (R26). -/
def LotMap.screenAt (l : LotMap) (i : Fin 1024) : Fin 6 := ((l.place i).map Stall.screen).getD 0

/-- Admission slot `a` out of every holding queue (R29). -/
def LotMap.leaveQueue (a : Fin 1024) (l : LotMap) : LotMap :=
  { l with queues := l.queues.map (·.filter (· != a)) }

/-! ## Release and its examination (R31, R32) -/

/-- A queue member given stall `i`: as a reservation while ISSUED, seated while WAITING (R32). -/
def State.giveStall (i a : Fin 1024) (x : Admission) (s : State) : State :=
  let number := some (s.lot.numberOf i)
  let s := s.modLot (LotMap.leaveQueue a)
  match x.state with
  | .issued => (s.holdStall i a .reservation).writeAdm a fun y => { y with stall := number }
  | _ =>
    ((s.holdStall i a .occupation).writeAdm a fun y =>
      { y with stall := number, state := .seated }).raiseBooth .seatedFromQueue

/-- The release examination over the members of a queue from the head (R32). -/
def State.examineQueue (i : Fin 1024) (kind : StallKind) : List (Fin 1024) → State → State
  | [], s => s
  | a :: rest, s =>
    match s.readAdm a with
    | (some x, s) =>
      if (x.state = .issued ∨ x.state = .waiting) ∧ x.cls.fits kind then s.giveStall i a x
      else s.examineQueue i kind rest
    | (none, s) => s.examineQueue i kind rest

/-- The release of stall `i`: its occupant entry cleared, and then CLOSED or FREE with the examination (R31). The close
fields are written also when they stay as they were (assumption log 42). -/
def State.releaseStall (i : Fin 1024) (s : State) : State :=
  let s := s.modLot fun l => { l with occupants := upd l.occupants i fun _ => none }
  let (x, s) := s.readStall i
  if x.closePending then
    s.writeStall i fun x => { x with closed := true, closePending := false, cause := some .operator }
  else if x.closed ∧ x.cause = some .damage then s
  else
    let s := s.writeStall i fun x => { x with closed := false, cause := none }
    s.examineQueue i x.kind s.lot.queues[x.screen]

/-! ## Allocation (R26 to R28, R33) -/

/-- The stalls of a screen's field whose kind is among `kinds`, in ascending number. -/
def LotMap.stallsOf (l : LotMap) (n : Fin 6) (kinds : List StallKind) : List (Fin 1024) :=
  match l.fields[n] with
  | none => []
  | some f =>
    ((List.range f.stallCount).filter fun k => kinds.contains (f.stall n (k + 1)).kind).map
      fun k => f.index (k + 1)

/-- Stalls read in order until a FREE one is found (R28). -/
def State.searchStalls : List (Fin 1024) → State → Option (Fin 1024) × State
  | [], s => (none, s)
  | i :: rest, s =>
    let (x, s) := s.readStall i
    if x.state s.lot.occupants[i] = .free then (some i, s) else s.searchStalls rest

/-- The stalls of the kinds that have a FREE tally above 0, read until a FREE one is found (R28). -/
def State.searchKinds (n : Fin 6) (kinds : List StallKind) (s : State) : Option (Fin 1024) × State :=
  s.searchStalls (s.lot.stallsOf n (kinds.filter fun k => 0 < s.lot.tally n k .free))

/-- The search of a field for a vehicle of a class (R28). -/
def State.searchField (n : Fin 6) (c : VehicleClass) (s : State) : Option (Fin 1024) × State :=
  match c with
  | .car =>
    match s.searchKinds n [.front, .standard] with
    | (some i, s) => (some i, s)
    | (none, s) => s.searchKinds n [.high]
  | .tall => s.searchKinds n [.high]

/-- A named stall (R26): its screen and slot, or the status that refuses the name. -/
def LotMap.named (l : LotMap) (screen : Byte) (stall : Word16) : Except Status (Fin 6 × Fin 1024) :=
  if !l.loaded then .error .badState
  else match numbered 6 screen with
    | none => .error .badParam
    | some n =>
      match l.fields[n] with
      | none => .error .badParam
      | some f =>
        if 1 ≤ stall.toNat ∧ stall.toNat ≤ f.stallCount then .ok (n, f.index stall.toNat)
        else .error .badParam

/-- What the lot map answers to an allocation request (R27, R28). -/
inductive Allocation where
  | stall (i : Fin 1024)
  | queued
  | refused (status : Status)
  deriving DecidableEq, Repr

/-- The allocation for an ADMIT (R27, R28). It changes nothing but what its reads do. -/
def State.allocate (screen : Byte) (n : Fin 6) (stall : Word16) (c : VehicleClass) (s : State) :
    Allocation × State :=
  if stall = 0 then
    match s.searchField n c with
    | (some i, s) => (.stall i, s)
    | (none, s) =>
      (if s.lot.queues[n].length < s.lot.capacity n then .queued else .refused .full, s)
  else match s.lot.named screen stall with
    | .error status => (.refused status, s)
    | .ok (_, i) =>
      let (x, s) := s.readStall i
      (if x.state s.lot.occupants[i] = .free ∧ c.fits x.kind then .stall i else .refused .badParam, s)

/-- A member returned to WAITING is seated when its field has a fitting FREE stall (R33). -/
def State.offerReturn (a : Fin 1024) (s : State) : State :=
  match s.lot.queueOf a with
  | none => s
  | some n =>
    match s.readAdm a with
    | (none, s) => s
    | (some x, s) =>
      match s.searchField n x.cls with
      | (none, s) => s
      | (some i, s) => s.giveStall i a { x with state := .waiting }

/-- What holds a departing admission's place is given up: its stall is released, or its place in a holding queue
removed (R29, R31). -/
def State.leavePlace (a : Fin 1024) (s : State) : State :=
  match s.lot.stallHeldBy a with
  | some i => (s.modLot (LotMap.leaveQueue a)).releaseStall i
  | none => s.modLot (LotMap.leaveQueue a)

/-! ## The stall commands (R35 to R37) -/

/-- The answer of CLOSE_STALL and OPEN_STALL: the resulting state and close pending. -/
def State.stallAnswer (i : Fin 1024) (s : State) : Reply :=
  s.ok [byte1 (s.stallState i).number, flagByte (s.stall i).closePending]

/-- CLOSE_STALL at the lot map (R35). -/
def closeStall (screen : Byte) (stall : Word16) (s : State) : Reply :=
  match s.lot.named screen stall with
  | .error status => s.refuse status
  | .ok (_, i) =>
    let (x, s) := s.readStall i
    (match x.state s.lot.occupants[i] with
      | .free => s.writeStall i fun x => { x with closed := true, cause := some .operator }
      | .reserved | .occupied =>
        if x.closePending then s else s.writeStall i fun x => { x with closePending := true }
      | .closed => s).stallAnswer i

/-- OPEN_STALL at the lot map (R36). -/
def openStall (screen : Byte) (stall : Word16) (s : State) : Reply :=
  match s.lot.named screen stall with
  | .error status => s.refuse status
  | .ok (_, i) =>
    let (x, s) := s.readStall i
    (match x.state s.lot.occupants[i] with
      | .closed =>
        let s := s.writeStall i fun x => { x with closed := false, cause := none }
        s.examineQueue i x.kind s.lot.queues[x.screen]
      | .reserved | .occupied =>
        if x.closePending then s.writeStall i fun x => { x with closePending := false } else s
      | .free => s).stallAnswer i

/-- The occupant handle of a stall: the slot with its present generation (R24). -/
def State.occupantHandle (s : State) (i : Fin 1024) : Option AdmHandle :=
  s.lot.occupants[i].map fun o => s.admHandle o.slot

/-- LOOKUP_STALL at the lot map (R37). -/
def lookupStall (screen : Byte) (stall : Word16) (s : State) : Reply :=
  match s.lot.named screen stall with
  | .error status => s.refuse status
  | .ok (_, i) =>
    let (x, s) := s.readStall i
    s.ok (bytes2 x.number ++ [numberByte x.screen, byte1 x.row, byte1 x.position, byte1 x.kind.number] ++
      bytes2 i.val ++ [byte1 (x.state s.lot.occupants[i]).number] ++ optAdmHandle (s.occupantHandle i) ++
      [flagByte x.closePending, byte1 ((x.cause.map CloseCause.number).getD 0)])

/-- The field record as READ_FIELD returns it (R20, R37); a screen with no field returns zeros after its number
(assumption log 12). -/
def LotMap.fieldBytes (l : LotMap) (n : Fin 6) : List Byte :=
  match l.fields[n] with
  | none => numberByte n :: List.replicate 9 0
  | some f =>
    [numberByte n, byte1 f.rowCount, byte1 f.pattern.number, numberByte f.home, byte1 f.capacity,
      flagByte f.ordersDuringFeature] ++ bytes2 f.stallCount ++ bytes2 f.firstIndex

/-- The twelve tallies: those of STANDARD stalls, which run to 320, in two bytes each (R25, R209). They stand kind by
kind in the order of R21, and within a kind CLOSED, FREE, RESERVED, OCCUPIED, the order of R24 (assumption log 36). -/
def LotMap.tallyBytes (l : LotMap) (n : Fin 6) : List Byte :=
  let states : List StallState := [.closed, .free, .reserved, .occupied]
  states.map (fun st => byte1 (l.tally n .front st)) ++
    states.flatMap (fun st => bytes2 (l.tally n .standard st)) ++
    states.map (fun st => byte1 (l.tally n .high st))

/-- READ_FIELD at the lot map (R37). -/
def readField (screen : Byte) (s : State) : Reply :=
  if !s.lot.loaded then s.refuse .badState
  else match numbered 6 screen with
    | none => s.refuse .badParam
    | some n =>
      s.ok (s.lot.fieldBytes n ++ s.lot.tallyBytes n ++
        listBytes 8 2 (fun a => (s.admHandle a).bytes) s.lot.queues[n])

/-- CLOSE_STALL (R35). -/
def execCloseStall (p : PortId) (screen : Byte) (stall : Word16) (s : State) :
    Host.Outcome State Fault Refusal :=
  .next (s.command p 0x20 true (closeStall screen stall))

/-- OPEN_STALL (R36). -/
def execOpenStall (p : PortId) (screen : Byte) (stall : Word16) (s : State) :
    Host.Outcome State Fault Refusal :=
  .next (s.command p 0x21 true (openStall screen stall))

/-- LOOKUP_STALL (R37). -/
def execLookupStall (p : PortId) (screen : Byte) (stall : Word16) (s : State) :
    Host.Outcome State Fault Refusal :=
  .next (s.command p 0x22 true (lookupStall screen stall))

/-- READ_FIELD (R37). -/
def execReadField (p : PortId) (screen : Byte) (s : State) : Host.Outcome State Fault Refusal :=
  .next (s.command p 0x23 true (readField screen))

end Sys2Proof.Machine
end

