-- ==== Sys2Proof/Machine/Posts.lean ====
section
/-!
DEFINITION. The post line unit (chapter 6): the tone qualifier, the key sequences, the requests to the order
table and their answers, and the row commands.
-/

namespace Sys2Proof.Machine

open Sys2Proof

/-! ## The qualifier (R107 to R112) -/

/-- Every qualifier timer stopped. -/
def Row.stopTimers (r : Row) : Row :=
  { r with onTimer := none, cycleTimer := none, dropoutTimer := none, maxHoldTimer := none,
           offTimer := none }

/-- PAIR with candidate `k`: the on-timer and the cycle timer start afresh (R108). -/
def Row.startPair (p : Posts) (k : Key) (r : Row) : Row :=
  { r.stopTimers with
    qualifier := .pair k, onTimer := some p.onTime, cycleTimer := some p.cycleTime }

/-- CLASH with no candidate and no timer running (R108 to R110). -/
def Row.toClash (r : Row) : Row := { r.stopTimers with qualifier := .clash }

/-- QUIET with no candidate and no timer running. -/
def Row.toQuiet (r : Row) : Row := { r.stopTimers with qualifier := .quiet }

/-- BLANKED: the candidate discarded and every qualifier timer stopped (R112). -/
def Row.blank (r : Row) : Row := { r.stopTimers with qualifier := .blanked }

/-- The release of a held key: the off-timer starts (R109). -/
def Row.release (p : Posts) (k : Key) (r : Row) : Row :=
  { r with qualifier := .released k, dropoutTimer := none, maxHoldTimer := none,
           offTimer := some p.offTime }

/-- A finding taken by the qualifier (R108 to R112). -/
def Row.takeFinding (p : Posts) (x : Finding) (r : Row) : Row :=
  match r.qualifier, x with
  | .quiet, .pair k => r.startPair p k
  | .quiet, .clash => r.toClash
  | .quiet, .noPair => r
  | .pair k, .pair j => if j = k then r else r.startPair p j
  | .pair _, .clash => r.toClash
  | .pair _, .noPair => r.toQuiet
  | .held k, .noPair =>
    if p.dropoutTime = 0 then r.release p k else { r with dropoutTimer := some p.dropoutTime }
  | .held k, .pair j => if j = k then { r with dropoutTimer := none } else r.startPair p j
  | .held _, .clash => r.toClash
  | .released _, .pair j => r.startPair p j
  | .released _, .clash => r.toClash
  | .released _, .noPair => r
  | .clash, .noPair | .stuck, .noPair => { r with offTimer := some p.offTime }
  | .clash, _ | .stuck, _ => { r with offTimer := none }
  | .blanked, _ => r

/-- A row line belongs to a field, and the screen domain of its field is ACTIVE, so its reports are taken (R107). -/
def State.rowServed (s : State) (r : Fin 48) : Bool :=
  s.posts.rows[r].positions != 0 && s.active (screenDomain (rowScreen r))

/-- The present finding of a row taken as if it had just been reported (R107). -/
def State.takePresent (r : Fin 48) (s : State) : State :=
  if s.rowServed r then s.modRow r fun x => x.takeFinding s.posts x.finding else s

/-! ## Sequences (R113 to R119) -/

/-- The tone and last refusal with which a sequence ends (R112, R113). -/
def Row.endWith (tone : Tone) (refusal : Option Status) (r : Row) : Row :=
  { r.blank with
    sequence := .none, interKey := none, tone := tone
    toneTimer := some (if tone = .accept then Config.acceptToneTime else Config.refuseToneTime)
    lastRefusal := refusal <|> r.lastRefusal }

/-- A row with no sequence, no tone and a QUIET qualifier (R121 to R123). -/
def Row.silence (r : Row) : Row :=
  { r.toQuiet with sequence := .none, interKey := none, tone := .none, toneTimer := none }

/-- What a delivered key does to a sequence (R113). -/
inductive KeyResult where
  | stand (q : Sequence)
  | invalid
  | cancelled
  | sendOrder (position : Nat) (entries : List Line)
  | sendDelivery (runner : Fin 12) (position : Nat)
  deriving DecidableEq, Repr

/-- The number that two keyed digits form, the tens digit first (R114). -/
def twoDigits (t u : Fin 10) : Nat := 10 * t.val + u.val

/-- A runner number 1 to 12. -/
def runnerOf (n : Nat) : Option (Fin 12) :=
  if h : 1 ≤ n ∧ n ≤ 12 then some ⟨n - 1, by omega⟩ else none

/-- A key taken by an ORDER sequence in ENTRY (R115). -/
def entryKey (prices : Vector Nat 100) (position : Nat) (entries : List Line) :
    List (Fin 10) → Key → KeyResult
  | [], .digit d =>
    if entries.length < 8 then .stand (.orderEntry position [d] entries) else .invalid
  | [t], .digit d =>
    if prices[twoDigits t d]'(by simp only [twoDigits]; omega) = 0 then .invalid
    else .stand (.orderEntry position [t, d] entries)
  | t :: u :: _, .digit q =>
    if q = 0 then .invalid
    else .stand (.orderEntry position [] (entries ++ [{ item := twoDigits t u, quantity := q.val }]))
  | [], .hash => .sendOrder position entries
  | _ :: _, .hash => .invalid
  | _, .star => .cancelled

/-- A key delivered to a row of the given length (R114 to R117). -/
def Sequence.take (positions : Nat) (prices : Vector Nat 100) : Sequence → Key → KeyResult
  | .none, .star => .stand (.orderPosition [])
  | .none, .hash => .stand (.deliveryRunner [])
  | .none, .digit _ => .invalid
  | .orderPosition [], .digit d => .stand (.orderPosition [d])
  | .orderPosition (t :: _), .digit d =>
    if 1 ≤ twoDigits t d ∧ twoDigits t d ≤ positions then .stand (.orderEntry (twoDigits t d) [] [])
    else .invalid
  | .orderPosition _, _ => .invalid
  | .orderEntry position digits entries, k => entryKey prices position entries digits k
  | .deliveryRunner [], .digit d => .stand (.deliveryRunner [d])
  | .deliveryRunner (t :: _), .digit d =>
    match runnerOf (twoDigits t d) with
    | some r => .stand (.deliveryPosition r [])
    | Option.none => .invalid
  | .deliveryRunner _, _ => .invalid
  | .deliveryPosition r [], .digit d => .stand (.deliveryPosition r [d])
  | .deliveryPosition r (t :: _), .digit d =>
    if 1 ≤ twoDigits t d ∧ twoDigits t d ≤ positions then .stand (.deliveryClose r (twoDigits t d))
    else .invalid
  | .deliveryPosition _ _, _ => .invalid
  | .deliveryClose r position, .hash => .sendDelivery r position
  | .deliveryClose _ _, _ => .invalid
  | .orderSent _ _ _, _ | .deliverySent _ _ _, _ => .invalid

/-- The field stall number of a position on a row line (R118). -/
def State.rowStall (s : State) (r : Fin 48) (position : Nat) : Nat :=
  match s.lot.fields[rowScreen r] with
  | none => position
  | some f => f.pattern.stallsBefore f.rowCount (r.val % 8 + 1) + position

/-- A sequence SENT: the row blanked with no tone, and its request handed over (R118). -/
def State.sendRequest (r : Fin 48) (q : Nat → Sequence) (body : RequestBody) (s : State) : State :=
  s.modPosts fun p =>
    { p with
      rows := upd p.rows r fun x => { x.blank with sequence := q p.nextTag, interKey := none, tone := .none }
      requests := p.requests ++ [{ row := r, tag := p.nextTag, body := body }]
      nextTag := p.nextTag + 1 }

/-- A key delivered to the sequence of a row (R110, R113). -/
def State.deliverKey (r : Fin 48) (k : Key) (s : State) : State :=
  let s := s.modRow r Row.toQuiet
  let x := s.posts.rows[r]
  match x.sequence.take x.positions s.ords.prices k with
  | .stand q => s.modRow r fun x => { x with sequence := q, interKey := some s.posts.interKeyTime }
  | .invalid => s.modRow r (Row.endWith .refuse (some .badParam))
  | .cancelled => s.modRow r (Row.endWith .accept none)
  | .sendOrder position entries =>
    let stall := s.rowStall r position
    s.sendRequest r (fun tag => .orderSent position entries tag)
      (if entries.isEmpty then .cancelNewest (rowScreen r) stall
       else .place (rowScreen r) stall entries)
  | .sendDelivery runner position =>
    s.sendRequest r (fun tag => .deliverySent runner position tag)
      (.confirm runner (rowScreen r) (s.rowStall r position))

/-- The key in RELEASED delivered when neither the off-timer nor the cycle timer runs any more (R110). -/
def State.deliverReleased (r : Fin 48) (s : State) : State :=
  let x := s.posts.rows[r]
  match x.qualifier with
  | .released k => if x.offTimer.isNone ∧ x.cycleTimer.isNone then s.deliverKey r k else s
  | _ => s

/-! ## Field events and timers -/

/-- The key of low tone `i + 1` and high tone `j + 1` (R107). -/
def keyOfTones (i : Fin 4) (j : Fin 3) : Key :=
  let keys : Vector (Vector Key 3) 4 :=
    #v[#v[.digit 1, .digit 2, .digit 3],
       #v[.digit 4, .digit 5, .digit 6],
       #v[.digit 7, .digit 8, .digit 9],
       #v[.star, .digit 0, .hash]]
  keys[i][j]

/-- What the detector finds in the tones on its line: a clash when more than one tone of either group is present, a pair
when there is one of each, and otherwise no pair (R107, assumption log 41). -/
def findingOf (t : Tones) : Finding :=
  match (List.finRange 4).filter (t.low[·]), (List.finRange 3).filter (t.high[·]) with
  | _ :: _ :: _, _ => .clash
  | _, _ :: _ :: _ => .clash
  | [i], [j] => .pair (keyOfTones i j)
  | _, _ => .noPair

/-- A finding of the detector of row line `r`: a new one is kept, and taken when the row is served; the one it has is no
event (R107). -/
def State.takeReport (r : Fin 48) (x : Finding) (s : State) : State :=
  if s.posts.rows[r].finding = x then s
  else (s.modRow r fun y => { y with finding := x }).whileRunning (State.takePresent r)

/-- TONE_FINDING_CHANGE (R107): the tones on the row line change, and the detector reports what it finds in them. -/
def execToneFindingChange (r : Fin 48) (t : Tones) (s : State) : Host.Outcome State Fault Refusal :=
  .next (s.takeReport r (findingOf t))

/-- ON_TIMER_EXPIRY (R108): a pair that has stood for the on-time is HELD. -/
def Row.onExpiry (p : Posts) (x : Row) : Row :=
  match x.qualifier with
  | .pair k => { x with qualifier := .held k, onTimer := none, maxHoldTimer := some p.maximumHold }
  | _ => { x with onTimer := none }

/-- ON_TIMER_EXPIRY (R108). -/
def execOnTimerExpiry (r : Fin 48) (s : State) : Host.Outcome State Fault Refusal :=
  .next (s.whileRunning fun s =>
    if s.posts.rows[r].onTimer.isSome then s.modRow r (Row.onExpiry s.posts) else s)

/-- The dropout timer of a held key expires: the key is RELEASED (R109). -/
def Row.dropoutExpiry (p : Posts) (x : Row) : Row :=
  match x.qualifier with
  | .held k => x.release p k
  | _ => { x with dropoutTimer := none }

/-- DROPOUT_TIMER_EXPIRY (R109). -/
def execDropoutTimerExpiry (r : Fin 48) (s : State) : Host.Outcome State Fault Refusal :=
  .next (s.whileRunning fun s =>
    if s.posts.rows[r].dropoutTimer.isSome then s.modRow r (Row.dropoutExpiry s.posts) else s)

/-- A row taken as stuck: the candidate discarded, every qualifier timer stopped, and its sequence abandoned
silently (R109). -/
def Row.toStuck (x : Row) : Row :=
  { x.stopTimers with qualifier := .stuck, sequence := .none, interKey := none }

/-- MAX_HOLD_TIMER_EXPIRY (R109). -/
def execMaxHoldTimerExpiry (r : Fin 48) (s : State) : Host.Outcome State Fault Refusal :=
  .next (s.whileRunning fun s =>
    if s.posts.rows[r].maxHoldTimer.isSome then (s.modRow r Row.toStuck).raiseBooth .rowStuck else s)

/-- The off-timer stopped; a row in CLASH or STUCK becomes QUIET (R111). -/
def Row.offExpiry (x : Row) : Row :=
  match x.qualifier with
  | .clash | .stuck => { x with offTimer := none, qualifier := .quiet }
  | _ => { x with offTimer := none }

/-- OFF_TIMER_EXPIRY (R110, R111). -/
def execOffTimerExpiry (r : Fin 48) (s : State) : Host.Outcome State Fault Refusal :=
  .next (s.whileRunning fun s =>
    if s.posts.rows[r].offTimer.isSome then (s.modRow r Row.offExpiry).deliverReleased r else s)

/-- CYCLE_TIMER_EXPIRY (R110). -/
def execCycleTimerExpiry (r : Fin 48) (s : State) : Host.Outcome State Fault Refusal :=
  .next (s.whileRunning fun s =>
    if s.posts.rows[r].cycleTimer.isSome then
      (s.modRow r fun x => { x with cycleTimer := none }).deliverReleased r
    else s)

/-- INTER_KEY_TIMEOUT (R117): the sequence is abandoned with REFUSE and LENGTH. -/
def execInterKeyTimeout (r : Fin 48) (s : State) : Host.Outcome State Fault Refusal :=
  .next (s.whileRunning fun s =>
    if s.posts.rows[r].interKey.isSome then s.modRow r (Row.endWith .refuse (some .length)) else s)

/-- ANSWER_TONE_END (R112): the qualifier becomes QUIET and takes the present finding. -/
def execAnswerToneEnd (r : Fin 48) (s : State) : Host.Outcome State Fault Refusal :=
  .next (s.whileRunning fun s =>
    if s.posts.rows[r].toneTimer.isSome then
      (s.modRow r fun x => { x.toQuiet with tone := .none, toneTimer := none }).takePresent r
    else s)

/-- The tag of the request that a SENT sequence sent (R118). -/
def Sequence.sentTag : Sequence → Option Nat
  | .orderSent _ _ tag | .deliverySent _ _ tag => some tag
  | _ => Option.none

/-- The answer of the order table taken by its row (R119). -/
def State.takeAnswer (a : PostAnswer) (s : State) : State :=
  if s.posts.rows[a.row].sequence.sentTag = some a.tag then
    s.modRow a.row (if a.status = .ok then Row.endWith .accept none
      else Row.endWith .refuse (some a.status))
  else s

/-- REQUEST_ANSWER (R119): the oldest answer on its way to the row reaches it. -/
def execRequestAnswer (r : Fin 48) (s : State) : Host.Outcome State Fault Refusal :=
  .next (s.whileRunning fun s =>
    match s.posts.answers.find? fun a => a.row = r with
    | none => s
    | some a => (s.modPosts fun p => { p with answers := p.answers.erase a }).takeAnswer a)

/-! ## Reports of the domain and of the night -/

/-- The domain of a screen leaves ACTIVE, at its rows (R122). -/
def State.rowsLost (n : Fin 6) (s : State) : State :=
  s.each (s.rowsOf n) fun r s => s.modRow r Row.silence

/-- The domain of a screen enters ACTIVE, at its rows (R122). -/
def State.rowsGained (n : Fin 6) (s : State) : State :=
  s.each (s.rowsOf n) State.takePresent

/-- The positions that the field records give a row line, 0 when it belongs to no field (R106). -/
def LotMap.positions (l : LotMap) (r : Fin 48) : Nat :=
  match l.fields[rowScreen r] with
  | none => 0
  | some f => if r.val % 8 < f.rowCount then f.pattern.rowLength f.rowCount (r.val % 8 + 1) else 0

/-- The row records at OPEN_NIGHT, which then take the present finding (R123). -/
def State.openRows (s : State) : State :=
  s.each (List.finRange 48) fun r s =>
    (s.modRow r fun x =>
      { x.silence with positions := s.lot.positions r, lastRefusal := none }).takePresent r

/-! ## Commands -/

/-- The number of a qualifier state (R106). -/
def Qualifier.number : Qualifier → Nat
  | .quiet => 1
  | .pair _ => 2
  | .held _ => 3
  | .released _ => 4
  | .clash => 5
  | .stuck => 6
  | .blanked => 7

/-- The candidate key (R106). -/
def Qualifier.candidate : Qualifier → Option Key
  | .pair k | .held k | .released k => some k
  | _ => none

/-- ABORT_ROW at the post line unit (R121). -/
def abortRow (line : Byte) (s : State) : Reply :=
  match numbered 48 line with
  | none => s.refuse .badParam
  | some r =>
    if s.posts.rows[r].positions = 0 then s.refuse .badState
    else
      let s := (s.modRow r Row.silence).takePresent r
      s.ok [byte1 s.posts.rows[r].qualifier.number]

/-- Sequence kind NONE, ORDER, DELIVERY (R106). -/
def Sequence.kindNumber : Sequence → Nat
  | .none => 1
  | .orderPosition _ | .orderEntry _ _ _ | .orderSent _ _ _ => 2
  | .deliveryRunner _ | .deliveryPosition _ _ | .deliveryClose _ _ | .deliverySent _ _ _ => 3

/-- Sequence state POSITION, ENTRY, SENT, RUNNER, CLOSE, 0 where absent (R106, assumption log 12). -/
def Sequence.stateNumber : Sequence → Nat
  | .none => 0
  | .orderPosition _ | .deliveryPosition _ _ => 1
  | .orderEntry _ _ _ => 2
  | .orderSent _ _ _ | .deliverySent _ _ _ => 3
  | .deliveryRunner _ => 4
  | .deliveryClose _ _ => 5

/-- The partial digits keyed toward the next number. -/
def Sequence.digits : Sequence → List (Fin 10)
  | .orderPosition d | .orderEntry _ d _ | .deliveryRunner d | .deliveryPosition _ d => d
  | _ => []

/-- The position, once keyed. -/
def Sequence.position : Sequence → Nat
  | .orderEntry p _ _ | .orderSent p _ _ | .deliveryClose _ p | .deliverySent _ p _ => p
  | _ => 0

/-- The entries of an ORDER sequence. -/
def Sequence.entries : Sequence → List Line
  | .orderEntry _ _ e | .orderSent _ e _ => e
  | _ => []

/-- The runner of a DELIVERY sequence, once keyed. -/
def Sequence.runner : Sequence → Option (Fin 12)
  | .deliveryPosition r _ | .deliveryClose r _ | .deliverySent r _ _ => some r
  | _ => Option.none

/-- The answer data of READ_ROW (R106, R124). -/
def State.rowBytes (r : Fin 48) (s : State) : List Byte :=
  let x := s.posts.rows[r]
  let q := x.sequence
  let place : List Byte :=
    if x.positions = 0 then [0, 0] else [numberByte (rowScreen r), byte1 (r.val % 8 + 1)]
  let w := s.disp.words[r]
  place ++
    [byte1 x.positions, byte1 x.qualifier.number, optKey x.qualifier.candidate, byte1 q.kindNumber,
      byte1 q.stateNumber, optKey (q.digits[0]?.map Key.digit), optKey (q.digits[1]?.map Key.digit),
      byte1 q.position] ++
    listBytes 8 2 Line.bytes q.entries ++ [optNumber q.runner] ++ bytes2 (x.interKey.getD 0) ++
    [byte1 x.tone.number, (x.lastRefusal.map Status.value).getD 0, byte1 w.channel, flagByte w.blink,
      flagByte w.lamp, flagByte s.disp.queued[r]]

/-- READ_ROW at the post line unit (R124). -/
def readRow (line : Byte) (s : State) : Reply :=
  match numbered 48 line with
  | none => s.refuse .badParam
  | some r => s.ok (s.rowBytes r)

/-- ABORT_ROW (R121). -/
def execAbortRow (p : PortId) (line : Byte) (s : State) : Host.Outcome State Fault Refusal :=
  .next (s.command p 0x38 true (abortRow line))

/-- READ_ROW (R124). -/
def execReadRow (p : PortId) (line : Byte) (s : State) : Host.Outcome State Fault Refusal :=
  .next (s.command p 0x39 true (readRow line))

end Sys2Proof.Machine
end

