-- ==== Sys2Proof/Machine/Domains.lean ====
section
/-!
DEFINITION. The domain controller (chapter 9): the rest plan, the stop and wake handshakes, the reports to
the dependent blocks, and its commands and events.
-/

namespace Sys2Proof.Machine

open Sys2Proof

/-! ## States and reports (R168, R179) -/

/-- The screen of a screen domain; none for KITCHEN and GATES. -/
def domainScreen (d : Fin 8) : Option (Fin 6) :=
  if h : d.val < 6 then some ⟨d.val, h⟩ else none

/-- The level of STOP_REQ in a state (R168). -/
def DomainState.stopReq : DomainState → Bool
  | .stopping | .resting => true
  | .active | .waking | .faulted => false

/-- A domain in a state, its line set with it and its handshake timer as given (R168). -/
def Domain.enter (st : DomainState) (t : Timer) (d : Domain) : Domain :=
  { d with state := st, stopReq := st.stopReq, timer := t }

/-- The report that a domain has left ACTIVE (R179). -/
def State.reportLost (d : Fin 8) (s : State) : State :=
  match domainScreen d with
  | some n => ((s.domainLost n).updateWanting n).rowsLost n
  | none => if d = kitchen then s.recomputeWindows else s

/-- The report that a domain has entered ACTIVE (R179). -/
def State.reportGained (d : Fin 8) (s : State) : State :=
  match domainScreen d with
  | some n => (((s.examineStart n).updateWanting n).rowsGained n).queueRows n
  | none => if d = kitchen then s.recomputeWindows else s

/-- A domain enters ACTIVE (R179). -/
def State.domainActive (d : Fin 8) (s : State) : State :=
  (s.modDomain d (Domain.enter .active none)).reportGained d

/-- READY high and STOP_ACK low, the levels that take a WAKING or FAULTED domain to ACTIVE (R174, R175). -/
def Domain.fit (d : Domain) : Bool := d.ready.level && !d.stopAck.level

/-- A WAKING or FAULTED domain examines its levels (R174, R175). -/
def State.examineDomain (d : Fin 8) (s : State) : State :=
  if s.doms.domains[d].fit then (s.domainActive d).raiseBooth .domainDone else s

/-- A domain enters WAKING: the wake timer starts, and the levels are examined (R174). -/
def State.domainWaking (d : Fin 8) (s : State) : State :=
  (s.modDomain d (Domain.enter .waking (seconds s.doms.wakeTime))).examineDomain d

/-- A domain enters STOPPING: the acknowledge timer starts (R172). -/
def State.domainStopping (d : Fin 8) (s : State) : State :=
  let wasActive := s.active d
  let s := s.modDomain d (Domain.enter .stopping (seconds s.doms.acknowledgeTime))
  if wasActive then s.reportLost d else s

/-- A domain returns from STOPPING: ACTIVE when READY is high, else WAKING (R173). -/
def State.domainReturn (d : Fin 8) (s : State) : State :=
  if s.doms.domains[d].ready.level then s.domainActive d else s.domainWaking d

/-- The status holds a domain and every status member is RESTING (R172, R177). -/
def DomainControl.rested (c : DomainControl) : Bool :=
  c.domains.any Domain.status && c.domains.all fun d => !d.status || d.state = .resting

/-- DOMAIN_DONE for the plan when every status member is RESTING (R172, R177). -/
def State.examineStatus (s : State) : State :=
  if s.doms.rested then s.raiseBooth .domainDone else s

/-- A domain enters RESTING (R173, R177). -/
def State.domainResting (d : Fin 8) (s : State) : State :=
  (s.modDomain d (Domain.enter .resting none)).examineStatus

/-- A domain becomes FAULTED, with DOMAIN_TIMEOUT (R174, R175). -/
def State.domainFaulted (d : Fin 8) (s : State) : State :=
  let wasActive := s.active d
  let s := (s.modDomain d (Domain.enter .faulted none)).raiseBooth .domainTimeout
  if wasActive then s.reportLost d else s

/-- A stop withdrawn or a rest ended (R173, R174, R176, R178). -/
def State.endRest (d : Fin 8) (s : State) : State :=
  match s.doms.domains[d].state with
  | .stopping => s.domainReturn d
  | .resting => s.domainWaking d
  | .active | .waking | .faulted => s

/-- The rest of a screen's domain withdrawn when the screen has left DARK (R178). -/
def State.withdrawRest (n : Fin 6) (s : State) : State :=
  let d := screenDomain n
  match s.doms.domains[d].state with
  | .stopping | .resting => (s.modDomain d fun x => { x with status := false }).endRest d
  | .active | .waking | .faulted => s

/-- A screen leaves DARK for PRESHOW (R67, R81, R178). -/
def State.leaveDark (n : Fin 6) (s : State) : State :=
  ((s.setShow n .preshow).withdrawRest n).updateWanting n

/-- The first state of a domain at the end of the start-up check (R168). -/
def Domain.first (wakeTime : Nat) (d : Domain) : Domain :=
  let d := { d with ready := d.ready.qualify, stopAck := d.stopAck.qualify }
  if d.ready.level then d.enter .active none else d.enter .waking (seconds wakeTime)

/-! ## REST (R171, R172) -/

/-- The orders on the carried lists of the runners. -/
def OrderTable.carried (o : OrderTable) : List (Fin 256) := o.runners.toList.flatMap Runner.carried

/-- The rest condition of KITCHEN (R171): PLACED orders are those of the kitchen queue and RUNNING orders those of the
carried lists; each other live order is read for its state (assumption log 18). -/
def State.kitchenIdle (s : State) : Bool × State :=
  let others := s.liveOrders.filter fun o => !s.ords.kitchen.contains o && !s.ords.carried.contains o
  let (xs, good, s) := s.readOrders others
  (s.ords.kitchen.isEmpty && s.ords.carried.isEmpty && good &&
    xs.all (fun x => x.2.state = .delivered), s)

/-- The rest condition of a domain (R171). -/
def State.restCondition (d : Fin 8) (s : State) : Bool × State :=
  match domainScreen d with
  | some n => (s.shows.screens[n].state = .dark && s.gate.live[n] == 0, s)
  | none =>
    if d = kitchen then s.kitchenIdle else (s.gate.lanes.all fun l => l.bound.isNone, s)

/-- The first domain of a list, in its order, that is a plan member not RESTING and whose rest condition fails
(R171). -/
def State.planFault : List (Fin 8) → State → Option (Fin 8) × State
  | [], s => (none, s)
  | d :: rest, s =>
    if s.doms.domains[d].plan ∧ s.doms.domains[d].state ≠ .resting then
      match s.restCondition d with
      | (true, s) => s.planFault rest
      | (false, s) => (some d, s)
    else s.planFault rest

/-- REST applied to one domain (R172). -/
def State.applyPlan (d : Fin 8) (s : State) : State :=
  let x := s.doms.domains[d]
  match x.plan, x.state with
  | true, .active | true, .waking | true, .faulted => s.domainStopping d
  | true, .stopping | true, .resting => s
  | false, .stopping | false, .resting => s.endRest d
  | false, .active | false, .waking | false, .faulted => s

/-- REST at the domain controller (R171, R172). -/
def restCommand (s : State) : Reply :=
  match s.planFault (List.finRange 8) with
  | (some d, s) => { state := s, status := .planInvalid, data := [numberByte d] }
  | (none, s) =>
    let s := s.modDoms fun c =>
      { c with domains := c.domains.map fun d => { d with status := d.plan } }
    let s := s.each (List.finRange 8) State.applyPlan
    let s := s.examineStatus
    s.ok (s.doms.domains.toList.map fun d => byte1 d.state.number)

/-! ## The other commands -/

/-- SET_REST_PLAN at the domain controller (R170). -/
def setRestPlan (plan : Byte) (s : State) : Reply :=
  (s.modDoms fun c =>
    { c with domains := c.domains.mapFinIdx fun i d _ => { d with plan := plan.getLsbD i } }).ok [plan]

/-- WAKE at the domain controller (R176). -/
def wakeCommand (domain : Byte) (s : State) : Reply :=
  match numbered 8 domain with
  | none => s.refuse .badParam
  | some d =>
    let s := (s.modDomain d fun x => { x with status := false }).endRest d
    s.ok [byte1 s.doms.domains[d].state.number]

/-- The three bytes of a domain in READ_DOMAINS, its timer in units of 10 ms (Formats, assumption log 21). -/
def Domain.bytes (d : Domain) : List Byte :=
  (BitVec.ofNat 3 d.state.number ++ (0 : BitVec 2) ++ BitVec.ofBool d.stopReq ++
      BitVec.ofBool d.ready.level ++ BitVec.ofBool d.stopAck.level) ::
    bytes2 (match d.timer with
      | some t => (t + 9) / 10
      | none => 0xFFFF)

/-- READ_DOMAINS at the domain controller (R180). -/
def readDomains (s : State) : Reply :=
  let ds := s.doms.domains.toList
  s.ok ([bitsByte (ds.map Domain.plan), bitsByte (ds.map Domain.status)] ++ ds.flatMap Domain.bytes)

/-- SET_REST_PLAN (R170). -/
def execSetRestPlan (p : PortId) (plan : Byte) (s : State) : Host.Outcome State Fault Refusal :=
  .next (s.command p 0x60 true (setRestPlan plan))

/-- REST (R171, R172). -/
def execRest (p : PortId) (s : State) : Host.Outcome State Fault Refusal :=
  .next (s.command p 0x61 true restCommand)

/-- WAKE (R176). -/
def execWake (p : PortId) (domain : Byte) (s : State) : Host.Outcome State Fault Refusal :=
  .next (s.command p 0x62 true (wakeCommand domain))

/-- READ_DOMAINS (R180). -/
def execReadDomains (p : PortId) (s : State) : Host.Outcome State Fault Refusal :=
  .next (s.command p 0x63 true readDomains)

/-! ## Events -/

/-- One of the two status inputs of a domain changed by `f`. -/
def Domain.modInput (i : DomainInput) (f : Input → Input) (d : Domain) : Domain :=
  match i with
  | .ready => { d with ready := f d.ready }
  | .stopAck => { d with stopAck := f d.stopAck }

/-- One of the two status inputs of a domain. -/
def Domain.input (d : Domain) : DomainInput → Input
  | .ready => d.ready
  | .stopAck => d.stopAck

/-- DOMAIN_INPUT_CHANGE (R169): a level on READY or STOP_ACK, qualified while the part runs. -/
def execDomainInputChange (d : Fin 8) (i : DomainInput) (high : Bool) (s : State) :
    Host.Outcome State Fault Refusal :=
  .next (s.modDomain d (Domain.modInput i
    (if s.sys.phase = .running then Input.change high Config.domainLevelTime else Input.setRaw high)))

/-- A qualified change taken by the domain's state (R169, R173 to R175). -/
def State.domainLevel (d : Fin 8) (i : DomainInput) (s : State) : State :=
  let x := s.doms.domains[d]
  match x.state with
  | .stopping => if i = .stopAck ∧ x.stopAck.level then s.domainResting d else s
  | .resting => s
  | .waking | .faulted => s.examineDomain d
  | .active => if i = .ready ∧ x.ready.level = false then s.domainFaulted d else s

/-- DOMAIN_LEVEL_CHANGE (R169). -/
def execDomainLevelChange (d : Fin 8) (i : DomainInput) (s : State) : Host.Outcome State Fault Refusal :=
  .next (s.whileRunning fun s =>
    if (s.doms.domains[d].input i).timer.isSome then
      (s.modDomain d (Domain.modInput i Input.qualify)).domainLevel d i
    else s)

/-- ACKNOWLEDGE_TIMER_EXPIRY (R173). -/
def execAcknowledgeTimerExpiry (d : Fin 8) (s : State) : Host.Outcome State Fault Refusal :=
  .next (s.whileRunning fun s =>
    if s.doms.domains[d].state = .stopping ∧ s.doms.domains[d].timer.isSome then
      ((s.modDomain d fun x => { x with status := false }).raiseBooth .domainTimeout).domainReturn d
    else s)

/-- WAKE_TIMER_EXPIRY (R174). -/
def execWakeTimerExpiry (d : Fin 8) (s : State) : Host.Outcome State Fault Refusal :=
  .next (s.whileRunning fun s =>
    if s.doms.domains[d].state = .waking ∧ s.doms.domains[d].timer.isSome then s.domainFaulted d else s)

end Sys2Proof.Machine
end

