-- ==== Sys2Proof/Machine/ShowCommands.lean ====
section
/-!
DEFINITION. The show commands, the projector events, the end of a show and the seconds of the night clock
(chapter 4, R158).
-/

namespace Sys2Proof.Machine

open Sys2Proof

/-! ## The end of a show (R79, R80) -/

/-- An ENDED screen becomes DARK (R80, R81). -/
def State.goDark (n : Fin 6) (s : State) : State :=
  (((s.modScreen n fun c => { c with current := none, start := none }).setShow n .dark).updateWanting
    n).examineClose

/-- An ENDED screen goes DARK when its live admission count is 0 (R80). -/
def State.examineEnded (n : Fin 6) (s : State) : State :=
  if s.shows.screens[n].state = .ended ∧ s.gate.live[n] = 0 then s.goDark n else s

/-- A screen enters ENDED (R80). -/
def State.endShow (n : Fin 6) (s : State) : State :=
  ((s.modScreen n fun c =>
      { c with reasons := HoldReasons.none, remaining := none, overrun := false,
               startTimer := none }).setShow n .ended).examineEnded n

/-! ## Commands -/

/-- A start time as a command carries it: one given, none, or nothing when it is above 86,399 (R70). -/
def startTime (w : Word24) : Option (Option Nat) :=
  if w = noSeconds then some none
  else if w.toNat ≤ Config.lastSecond then some (some w.toNat)
  else none

/-- A nominal length of 60 to 14,400 s (R66). -/
def Segment.good (g : Segment) : Bool := 60 ≤ g.length && g.length ≤ 14400

/-- A show list of 1 to 8 good segments (R66). -/
def goodList (l : List Segment) : Bool := 1 ≤ l.length && l.length ≤ 8 && l.all Segment.good

/-- A show list and start time stored: no hold reason and no current segment (R69). -/
def State.storeShow (n : Fin 6) (l : List Segment) (start : Option Nat) (s : State) : State :=
  s.modScreen n fun c =>
    { c with list := l, start := start, reasons := HoldReasons.none, current := none, remaining := none,
             overrun := false }

/-- LOAD_SHOW at the show controller (R69). -/
def loadShow (screen count : Byte) (segments : List (BitVec 32)) (start : Word24) (s : State) : Reply :=
  let l := segments.map Segment.ofWord
  match numbered 6 screen, startTime start with
  | some n, some t =>
    if ¬ (1 ≤ count.toNat ∧ count.toNat ≤ 8 ∧ goodList l) then s.refuse .badParam
    else if s.night.state ≠ .opened ∨ s.lot.fields[n].isNone then s.refuse .closed
    else if s.shows.screens[n].state ≠ .dark ∧ s.shows.screens[n].state ≠ .preshow then
      s.refuse .badState
    else if !s.active (screenDomain n) then s.refuse .domainDown
    else
      let wasDark := s.shows.screens[n].state = .dark
      let s := s.storeShow n l t
      let s := if wasDark then s.leaveDark n else s
      (s.examineStart n).ok []
  | _, _ => s.refuse .badParam

/-- A start time set on a PRESHOW screen, and the start condition examined (R70). -/
def setStartTime (screen : Byte) (t : Option (Option Nat)) (s : State) : Reply :=
  match numbered 6 screen, t with
  | some n, some t =>
    if s.shows.screens[n].state ≠ .preshow then s.refuse .badState
    else ((s.modScreen n fun c => { c with start := t }).examineStart n).ok []
  | _, _ => s.refuse .badParam

/-- SET_START at the show controller (R70). -/
def setStart (screen : Byte) (start : Word24) (s : State) : Reply := setStartTime screen (startTime start) s

/-- START_NOW at the show controller (R70). -/
def startNow (screen : Byte) (s : State) : Reply := setStartTime screen (some (some s.night.clock)) s

/-- The set of hold reasons, the first in bit 0 (R209). -/
def HoldReasons.byte (h : HoldReasons) : Byte := bitsByte [h.sound, h.projector, h.operator]

/-- HOLD_SHOW at the show controller (R78). -/
def holdShow (screen : Byte) (s : State) : Reply :=
  match numbered 6 screen with
  | none => s.refuse .badParam
  | some n =>
    if s.shows.screens[n].state.underWay then
      let s := s.addHold n .operator
      s.ok [s.shows.screens[n].reasons.byte]
    else s.refuse .badState

/-- RESUME_SHOW at the show controller (R78). -/
def resumeShow (screen : Byte) (s : State) : Reply :=
  match numbered 6 screen with
  | none => s.refuse .badParam
  | some n =>
    if s.shows.screens[n].state = .held ∧ s.shows.screens[n].reasons.operator then
      let s := s.removeHold n .operator
      s.ok [byte1 s.shows.screens[n].state.number, s.shows.screens[n].reasons.byte]
    else s.refuse .badState

/-- END_SHOW at the show controller (R79). -/
def endShowCommand (screen : Byte) (s : State) : Reply :=
  match numbered 6 screen with
  | none => s.refuse .badParam
  | some n =>
    match s.shows.screens[n].state with
    | .dark => s.refuse .badState
    | .ended => s.ok []
    | .preshow | .starting | .running | .intermission | .held => (s.endShow n).ok []

/-- The number of a sound state in READ_SCREEN: OFF 0, LIVE 1, ANNOUNCE 2, FAILED 3 (Formats). -/
def Sound.number : Sound → Nat
  | .off => 0
  | .live _ => 1
  | .announce _ _ _ => 2
  | .failed => 3

/-- The announced channel of a sound state, 0 where absent. -/
def Sound.announced : Sound → Nat
  | .announce _ next _ => next.val + 1
  | _ => 0

/-- The retune cause is CARRIER. -/
def Sound.causeCarrier : Sound → Bool
  | .announce _ _ .carrier => true
  | _ => false

/-- The answer data of READ_SCREEN (Formats). -/
def State.screenBytes (n : Fin 6) (s : State) : List Byte :=
  let c := s.shows.screens[n]
  let x := s.chans.sounds[n].sound
  let home := ((s.lot.fields[n].map fun f => f.home.val + 1).getD 0)
  [BitVec.ofNat 3 c.state.number ++ BitVec.ofBool c.reasons.sound ++ BitVec.ofBool c.reasons.projector ++
      BitVec.ofBool c.reasons.operator ++ BitVec.ofNat 2 x.number,
    BitVec.ofNat 4 c.list.length ++ BitVec.ofNat 4 (c.current.getD 0)] ++
  optSeconds c.start ++ bytes2 (c.remaining.getD 0xFFFF) ++
  [bitsByte [s.lot.fields[n].isSome, x.causeCarrier, s.lot.ordersDuringFeature n, c.pauseReq, c.runReq,
      c.fault.level, c.running.level, c.overrun],
    BitVec.ofNat 4 home ++ BitVec.ofNat 4 x.code] ++
  bytes2 (x.announced * 4096 + s.gate.live[n]) ++ bytes2 s.gate.admitted[n] ++
  (c.list.take 8).flatMap (fun g => bytes4 g.toWord.toNat) ++
  List.replicate (4 * (8 - c.list.length)) 0

/-- READ_SCREEN at the show controller (R83). -/
def readScreen (screen : Byte) (s : State) : Reply :=
  match numbered 6 screen with
  | none => s.refuse .badParam
  | some n => s.ok (s.screenBytes n)

/-- LOAD_SHOW (R69): the parameter length fits the segment count received (R199). -/
def execLoadShow (p : PortId) (screen count : Byte) (segments : List (BitVec 32)) (start : Word24)
    (s : State) : Host.Outcome State Fault Refusal :=
  .next (s.command p 0x28 (count.toNat = segments.length && 5 + 4 * segments.length ≤ 44)
    (loadShow screen count segments start))

/-- SET_START (R70). -/
def execSetStart (p : PortId) (screen : Byte) (start : Word24) (s : State) :
    Host.Outcome State Fault Refusal :=
  .next (s.command p 0x29 true (setStart screen start))

/-- START_NOW (R70). -/
def execStartNow (p : PortId) (screen : Byte) (s : State) : Host.Outcome State Fault Refusal :=
  .next (s.command p 0x2A true (startNow screen))

/-- HOLD_SHOW (R78). -/
def execHoldShow (p : PortId) (screen : Byte) (s : State) : Host.Outcome State Fault Refusal :=
  .next (s.command p 0x2B true (holdShow screen))

/-- RESUME_SHOW (R78). -/
def execResumeShow (p : PortId) (screen : Byte) (s : State) : Host.Outcome State Fault Refusal :=
  .next (s.command p 0x2C true (resumeShow screen))

/-- END_SHOW (R79). -/
def execEndShow (p : PortId) (screen : Byte) (s : State) : Host.Outcome State Fault Refusal :=
  .next (s.command p 0x2D true (endShowCommand screen))

/-- READ_SCREEN (R83). -/
def execReadScreen (p : PortId) (screen : Byte) (s : State) : Host.Outcome State Fault Refusal :=
  .next (s.command p 0x2E true (readScreen screen))

/-! ## Projector events (R68) -/

/-- A new level on MARK: a mark is timed while it can be taken, and the low that must come before the next one
otherwise (R68). -/
def MarkInput.change (high : Bool) (m : MarkInput) : MarkInput :=
  if m.raw = high then m
  else { m with raw := high, timer := if high = m.armed then some Config.markTime else none }

/-- A change on MARK while the part does not qualify it. -/
def MarkInput.setRaw (high : Bool) (m : MarkInput) : MarkInput := { m with raw := high }

/-- A mark taken: the next one waits for the input to be low for its time (R68). -/
def MarkInput.take (m : MarkInput) : MarkInput :=
  { m with armed := false, timer := if m.raw then none else some Config.markTime }

/-- The end of the start-up check at a MARK input (R68). -/
def MarkInput.start (m : MarkInput) : MarkInput :=
  { m with timer := if m.raw = m.armed then some Config.markTime else none }

/-- An input of a projector takes a new level on its pin, qualified while the part runs (R68). -/
def Screen.inputChange (running : Bool) (i : ProjectorInput) (high : Bool) (c : Screen) : Screen :=
  let f := if running then Input.change high Config.projectorLevelTime else Input.setRaw high
  match i with
  | .running => { c with running := f c.running }
  | .fault => { c with fault := f c.fault }
  | .mark => { c with mark := if running then c.mark.change high else c.mark.setRaw high }

/-- PROJECTOR_INPUT_CHANGE (R68). -/
def execProjectorInputChange (n : Fin 6) (i : ProjectorInput) (high : Bool) (s : State) :
    Host.Outcome State Fault Refusal :=
  .next (s.modScreen n (Screen.inputChange (s.sys.phase = .running) i high))

/-- One of the two levels of a projector. -/
def Screen.level (c : Screen) : ProjectorLevel → Input
  | .running => c.running
  | .fault => c.fault

/-- One of the two levels of a projector changed by `f`. -/
def Screen.modLevel (w : ProjectorLevel) (f : Input → Input) (c : Screen) : Screen :=
  match w with
  | .running => { c with running := f c.running }
  | .fault => { c with fault := f c.fault }

/-- A qualified change of RUNNING or FAULT taken by the show state (R72, R76, R77). -/
def State.projectorLevel (n : Fin 6) (w : ProjectorLevel) (s : State) : State :=
  let c := s.shows.screens[n]
  match c.state with
  | .starting => if w = .running ∧ c.running.level then s.beginShow n else s
  | .running | .intermission | .held =>
    if (w = .fault ∧ c.fault.level) ∨ (w = .running ∧ c.running.level = false) then s.addHold n .projector
    else if c.fault.level = false ∧ c.running.level then s.removeHold n .projector
    else s
  | .dark | .preshow | .ended => s

/-- PROJECTOR_LEVEL_CHANGE (R68). -/
def execProjectorLevelChange (n : Fin 6) (w : ProjectorLevel) (s : State) :
    Host.Outcome State Fault Refusal :=
  .next (s.whileRunning fun s =>
    if (s.shows.screens[n].level w).timer.isSome then
      (s.modScreen n (Screen.modLevel w Input.qualify)).projectorLevel n w
    else s)

/-- A mark taken by the show state (R74). -/
def State.mark (n : Fin 6) (s : State) : State :=
  let c := s.shows.screens[n]
  if c.state.underWay then
    match c.current with
    | some k => if k < c.list.length then s.enterSegment n (k + 1) else s.endShow n
    | none => s
  else s

/-- MARK_TAKEN (R68, R74). -/
def execMarkTaken (n : Fin 6) (s : State) : Host.Outcome State Fault Refusal :=
  .next (s.whileRunning fun s =>
    (s.modScreen n fun c => { c with mark := c.mark.take }).mark n)

/-- START_TIMER_EXPIRY (R72). -/
def execStartTimerExpiry (n : Fin 6) (s : State) : Host.Outcome State Fault Refusal :=
  .next (s.whileRunning fun s =>
    if s.shows.screens[n].state = .starting ∧ s.shows.screens[n].startTimer.isSome then
      ((s.modScreen n fun c => { c with start := none }).abandonStart n).raiseBooth .projectorFault
    else s)

/-- The segment timer of a screen stands at its end, or would by this event: the show runs, or is HELD with no time
remaining (R75, assumption log 10). -/
def Screen.canOverrun (c : Screen) : Bool :=
  c.remaining.isSome && !c.overrun &&
    match c.state with
    | .running | .intermission => true
    | .held => c.remaining = some 0
    | _ => false

/-- SEGMENT_OVERRUN (R75). -/
def execSegmentOverrun (n : Fin 6) (s : State) : Host.Outcome State Fault Refusal :=
  .next (s.whileRunning fun s =>
    if s.shows.screens[n].canOverrun then
      (s.modScreen n fun c => { c with remaining := some 0, overrun := true }).raiseBooth .segmentOverrun
    else s)

/-- A second of a screen's segment timer (R75). -/
def Screen.tickSecond (c : Screen) : Screen :=
  match c.state with
  | .running | .intermission => { c with remaining := c.remaining.map (· - 1) }
  | _ => c

/-- A second of the night clock (R158). -/
def Night.tickSecond (n : Night) : Night :=
  { n with clock := if n.clock < Config.lastSecond then n.clock + 1 else n.clock
           secondTimer := seconds 1 }

/-- NIGHT_CLOCK_SECOND (R71, R75, R158). -/
def execNightClockSecond (s : State) : Host.Outcome State Fault Refusal :=
  .next (s.whileRunning fun s =>
    if s.night.state = .closed then s
    else
      ((s.modNight Night.tickSecond).modShows fun c =>
        { c with screens := c.screens.map Screen.tickSecond }).each (List.finRange 6) State.examineStart)

end Sys2Proof.Machine
end

