-- ==== Sys2Proof/Machine/Orders.lean ====
section
/-!
DEFINITION. The order table's shared operations: amounts, placement, retirement, delivery, cancels, the tab and its
clearing (chapter 7, R150 to R152).
-/

namespace Sys2Proof.Machine

open Sys2Proof

/-! ## Amounts and totals -/

/-- The sum over the lines of quantity times price (R126). -/
def linesAmount (prices : Vector Nat 100) (l : List Line) : Nat :=
  (l.map fun x => x.quantity * (prices[x.item]?.getD 0)).sum

/-- An order is charged in PREPARING, READY, RUNNING and DELIVERED (R126). -/
def OrderState.charged : OrderState → Bool
  | .placed => false
  | .preparing | .ready | .running | .delivered => true

/-- The amount of an order that is charged and not PAID; 0 for any other (R127, R156). -/
def Order.unpaid (x : Order) : Nat := if x.state.charged ∧ x.paid = false then x.amount else 0

/-- A total raised, holding at its greatest value (R165). -/
def addTotal (total n : Nat) : Nat := min (total + n) Config.totalLimit

/-- An amount added to the write-offs (R165). -/
def State.writeOff (n : Nat) (s : State) : State :=
  s.modNight fun x => { x with writeOffs := addTotal x.writeOffs n }

/-! ## Lists -/

/-- The lane that admission slot `a` is bound to (R46). -/
def Gate.laneOf (g : Gate) (a : Fin 1024) : Option (Fin 4) :=
  (List.finRange 4).find? fun n => g.lanes[n].bound == some a

/-- The runner whose carried list holds an order slot (R134). -/
def OrderTable.runnerOf (o : OrderTable) (k : Fin 256) : Option (Fin 12) :=
  (List.finRange 12).find? fun r => o.runners[r].carried.contains k

/-- An order off a runner's list; the trip timer stops when the list is then empty (R136, R137). -/
def Runner.drop (k : Fin 256) (r : Runner) : Runner :=
  if r.carried.contains k then
    let rest := r.carried.filter (· != k)
    { r with carried := rest, tripTimer := if rest.isEmpty then none else r.tripTimer }
  else r

/-- An order out of the kitchen queue (R131). -/
def State.leaveKitchen (k : Fin 256) (s : State) : State :=
  s.modOrds fun o => { o with kitchen := o.kitchen.filter (· != k) }

/-- An order off every carried list (R136, R137). -/
def State.leaveRunner (k : Fin 256) (s : State) : State :=
  s.modOrds fun o => { o with runners := o.runners.map (Runner.drop k) }

/-- An order off its admission's order list (R127): for an admission that this taking has read. -/
def State.leaveList (a : Fin 1024) (k : Fin 256) (s : State) : State :=
  s.writeAdm a fun x => { x with orders := x.orders.filter fun h => h.slot != k }

/-- An order retires: off the kitchen queue and its runner, its slot freed, and the closing condition examined (R126,
R162). Its admission's list is kept by the rule that retires it. -/
def State.retireOrder (k : Fin 256) (s : State) : State :=
  (((s.leaveKitchen k).leaveRunner k).retireOrderSlot k).examineClose

/-! ## Tab clear (R150) -/

/-- The examination of an admission for tab clear: the event is sent to the lane of its exit lane field (R150). -/
def State.examineTab (a : Fin 1024) (s : State) : State :=
  match s.readAdm a with
  | (some x, s) =>
    match x.exitLane with
    | some n =>
      if x.state = .paying ∧ x.owed = 0 ∧ x.orders.isEmpty then
        s.modOrds fun o => { o with tabClears := o.tabClears ++ [(n, s.admHandle a)] }
      else s
    | none => s
  | (none, s) => s

/-! ## Placing (R129, R130) -/

/-- The car of a stall that can order: held as OCCUPATION and bound to no lane (R129 step 2). -/
def State.carAt (s : State) (i : Fin 1024) : Option (Fin 1024) :=
  match s.lot.occupants[i] with
  | some ⟨a, .occupation⟩ => if (s.gate.laneOf a).isNone then some a else none
  | _ => none

/-- The record of a new order (R130). -/
def State.newOrder (s : State) (a : Fin 1024) (n : Fin 6) (number : Nat) (origin : Origin)
    (lines : List Line) : Order :=
  { admission := s.admHandle a, screen := n, stall := number, origin := origin, placed := s.night.clock,
    lines := lines, amount := linesAmount s.ords.prices lines, state := .placed, runner := none,
    collect := false, paid := false }

/-- The effects of a placement in order slot `k` (R130). -/
def State.placeIn (k : Fin 256) (a : Fin 1024) (x : Order) (s : State) : State :=
  (((s.createOrder k x).modOrds fun o => { o with kitchen := o.kitchen ++ [k] }).writeAdm a fun y =>
    { y with orders := y.orders ++ [s.orderHandle k] }).raiseCounter .orderPlaced

/-- The checks and effects of PLACE for a named stall and checked lines (R129, R130): the handle data and amount of
the new order, or the status that refuses it. -/
def State.placeOrder (n : Fin 6) (i : Fin 1024) (number : Nat) (origin : Origin) (lines : List Line)
    (s : State) : Reply :=
  if s.ords.windows[n] = false then s.refuse .window
  else match s.carAt i with
    | none => s.refuse .noCar
    | some a =>
      match s.readTab a with
      | (none, s) => s.refuse .damaged
      | (some (x, orders), s) =>
        let placed := (orders.map fun o => if o.2.state = .placed then o.2.amount else 0).sum
        let new := s.newOrder a n number origin lines
        if s.ords.orderLimit ≤ x.orders.length then s.refuse .tooMany
        else if s.ords.tabLimit < x.owed + placed + new.amount then s.refuse .limit
        else match s.mem.orderFree with
          | [] => s.refuse .full
          | k :: _ => (s.placeIn k a new).ok ((s.orderHandle k).bytes ++ bytes3 new.amount)

/-! ## Delivery (R137) -/

/-- An order delivered, `x` its content as read (R137). -/
def State.deliver (k : Fin 256) (x : Order) (s : State) : State :=
  let a := x.admission.slot
  let s := ((s.leaveRunner k).writeOrder k fun y =>
    { y with state := .delivered, runner := none }).modNight fun n =>
    { n with delivered := addTotal n.delivered 1 }
  let s := if x.paid then (s.leaveList a k).retireOrder k else s
  s.examineTab a

/-- An order and its admission read: both contents, or nothing when either is marked or found damaged (R12). -/
def State.readOrderAdm (k : Fin 256) (s : State) : Option (Order × Admission) × State :=
  match s.readOrder k with
  | (none, s) => (none, s)
  | (some x, s) =>
    match s.readAdm x.admission.slot with
    | (none, s) => (none, s)
    | (some y, s) => (some (x, y), s)

/-! ## Cancels and the exit (R141 to R143) -/

/-- A PLACED order cancelled: out of the kitchen queue and off its admission's list, retired (R142, R143). -/
def State.cancelPlaced (a : Fin 1024) (k : Fin 256) (s : State) : State :=
  ((s.leaveKitchen k).leaveList a k).retireOrder k

/-- The order table's part of EXIT: every PLACED order cancelled in list order, and the rest flagged COLLECT (R143). -/
def State.exitOrders (a : Fin 1024) (orders : List (Fin 256 × Order)) (s : State) : State :=
  let s := s.each (orders.filter fun o => o.2.state = .placed) fun o s => s.cancelPlaced a o.1
  s.each (orders.filter fun o => o.2.state ≠ .placed) fun o s =>
    s.writeOrder o.1 fun x => { x with collect := true }

/-- COLLECT cleared on every live order of an admission that is not marked (R143, R155). The orders are those that name
the admission. -/
def State.clearCollect (orders : List OrderHandle) (s : State) : State :=
  s.each orders fun h s => s.updateOrder h.slot fun x => { x with collect := false }

/-! ## Forced retirement (R63, R146, R148) -/

/-- The orders of an admission force-retired, with the amounts of the readable ones that are charged and not PAID
written off; the amount written off (R63, R156). They retire in the order of the list given: that of the admission's
order list, or ascending slots when the admission is marked, which fixes their order on the free list (assumption log
40). -/
def State.forceOrders : List (Fin 256) → State → Nat × State
  | [], s => (0, s)
  | k :: rest, s =>
    let (x, s) := s.readOrder k
    let (n, s) := (s.retireOrder k).forceOrders rest
    (((x.map Order.unpaid).getD 0) + n, s)

/-- The first live admission, not marked and found readable, whose order list holds a handle, in ascending slots
(R146, assumption log 19). -/
def State.findHolder (h : OrderHandle) : List (Fin 1024) → State → Option (Fin 1024 × Admission) × State
  | [], s => (none, s)
  | a :: rest, s =>
    match s.readAdm a with
    | (some x, s) => if x.orders.contains h then (some (a, x), s) else s.findHolder h rest
    | (none, s) => s.findHolder h rest

/-- The admission of an order that is force-retired, when it is known and readable (R146). -/
def State.orderOwner (h : OrderHandle) (x : Option Order) (s : State) : Option (Fin 1024 × Admission) × State :=
  match x with
  | some x =>
    match s.readAdm x.admission.slot with
    | (some y, s) => (some (x.admission.slot, y), s)
    | (none, s) => (none, s)
  | none => s.findHolder h s.liveAdms

/-- The new owed of a readable admission that loses an order to FORCE_RETIRE (R146 step 2). -/
def State.owedWithout (h : OrderHandle) (x : Option Order) (y : Admission) (s : State) : Nat × State :=
  let others := (y.orders.filter fun o => o != h).map OrderHandle.slot
  match s.readOrders others with
  | (xs, true, s) => ((xs.map fun o => o.2.unpaid).sum, s)
  | (_, false, s) => (y.owed - (x.map Order.unpaid).getD 0, s)

end Sys2Proof.Machine
end

