-- ==== Sys2Proof/Machine/OrderCommands.lean ====
section
/-!
DEFINITION. The order, kitchen and runner commands, the post requests at the order table, settlement, and the trip
timer (chapter 7, R151, R152).
-/

namespace Sys2Proof.Machine

open Sys2Proof

/-! ## Placing (R129) -/

/-- A PLACE line with its item on sale (R129). -/
def goodLine (prices : Vector Nat 100) (r : RawLine) : Option Line :=
  match RawLine.line r with
  | some l => if (prices[l.item]?.getD 0) = 0 then none else some l
  | none => none

/-- PLACE at the order table (R129). -/
def place (screen : Byte) (stall : Word16) (count : Byte) (lines : List RawLine) (s : State) : Reply :=
  match s.lot.named screen stall with
  | .error status => s.refuse status
  | .ok (n, i) =>
    if ¬ (1 ≤ count.toNat ∧ count.toNat ≤ 8) then s.refuse .badParam
    else match lines.mapM (goodLine s.ords.prices) with
      | none => s.refuse .badParam
      | some l => s.placeOrder n i stall.toNat .counter l

/-! ## The kitchen (R131 to R133) -/

/-- The effects of TAKE on a readable order and its admission (R132). -/
def State.takeOrder (k : Fin 256) (x : Order) (s : State) : State :=
  (((s.leaveKitchen k).writeOrder k fun y => { y with state := .preparing }).writeAdm x.admission.slot
    fun y => { y with owed := y.owed + x.amount })

/-- The kitchen's ticket (R132). -/
def State.ticket (k : Fin 256) (x : Order) (s : State) : List Byte :=
  (s.orderHandle k).bytes ++ x.admission.bytes ++ [numberByte x.screen] ++ bytes2 x.stall ++
    listBytes 8 2 Line.bytes x.lines ++ bytes3 x.amount

/-- TAKE of a member of the kitchen queue (R132). -/
def State.takeMember (k : Fin 256) (s : State) : Reply :=
  match s.readOrderAdm k with
  | (none, s) => s.refuse .damaged
  | (some (x, _), s) => (s.takeOrder k x).ok (s.ticket k x)

/-- TAKE at the order table (R132). -/
def take (handle : Option Word16) (s : State) : Reply :=
  match handle with
  | some w =>
    let h := OrderHandle.ofWord w
    if !s.orderCurrent h then s.refuse .stale
    else if !s.ords.kitchen.contains h.slot then s.refuse .badState
    else s.takeMember h.slot
  | none =>
    match s.ords.kitchen with
    | [] => s.refuse .empty
    | k :: _ => s.takeMember k

/-- READY at the order table (R133). -/
def readyCommand (handle : Word16) (s : State) : Reply :=
  let h := OrderHandle.ofWord handle
  if !s.orderCurrent h then s.refuse .stale
  else match s.readOrder h.slot with
    | (none, s) => s.refuse .damaged
    | (some x, s) =>
      if x.state ≠ .preparing then s.refuse .badState
      else (s.writeOrder h.slot fun y => { y with state := .ready }).ok []

/-! ## Runners (R134 to R136, R140) -/

/-- DISPATCH's effects on the runner and the orders (R135). -/
def State.sendOut (r : Fin 12) (slots : List (Fin 256)) (s : State) : State :=
  let s := s.each slots fun k s =>
    s.writeOrder k fun y => { y with state := .running, runner := some r }
  s.modRunner r fun x =>
    { x with state := .out, carried := slots, tripStart := some s.night.clock, late := false,
             tripTimer := seconds s.ords.tripTime }

/-- DISPATCH at the order table (R135). The runner and the count are checked before the handles, as R135 lists the
checks, where R4 puts the handle check first (assumption log 34). -/
def dispatch (runner count : Byte) (handles : List Word16) (s : State) : Reply :=
  let hs := handles.map OrderHandle.ofWord
  let slots := hs.map OrderHandle.slot
  match numbered 12 runner with
  | none => s.refuse .badParam
  | some r =>
    if ¬ (1 ≤ count.toNat ∧ count.toNat ≤ 3) then s.refuse .badParam
    else if !hs.all s.orderCurrent then s.refuse .stale
    else if ¬ slots.Nodup then s.refuse .badParam
    else if s.ords.runners[r].state ≠ .available then s.refuse .badState
    else match s.readOrders slots with
      | (_, false, s) => s.refuse .damaged
      | (xs, true, s) =>
        if !xs.all (fun x => x.2.state = .ready) then s.refuse .badState
        else (s.sendOut r slots).ok []

/-- TRIP_TIMER_EXPIRY (R136). -/
def execTripTimerExpiry (r : Fin 12) (s : State) : Host.Outcome State Fault Refusal :=
  .next (s.whileRunning fun s =>
    if s.ords.runners[r].tripTimer.isSome then
      (s.modRunner r fun x => { x with late := true, tripTimer := none }).raiseCounter .runnerLate
    else s)

/-- RUNNER_BACK at the order table (R140). -/
def runnerBack (runner : Byte) (s : State) : Reply :=
  match numbered 12 runner with
  | none => s.refuse .badParam
  | some r =>
    if s.ords.runners[r].state ≠ .out then s.refuse .badState
    else
      let slots := s.ords.runners[r].carried
      match s.readOrders slots with
      | (_, false, s) => s.refuse .damaged
      | (_, true, s) =>
        let s := s.each slots fun k s => s.writeOrder k fun y => { y with state := .ready, runner := none }
        (s.modRunner r fun x =>
          { x with state := .available, carried := [], tripStart := none, late := false,
                   tripTimer := none }).ok [byte1 slots.length]

/-- RUNNER_ON at the order table (R134). -/
def runnerOn (runner : Byte) (s : State) : Reply :=
  match numbered 12 runner with
  | none => s.refuse .badParam
  | some r =>
    let s := if s.ords.runners[r].state = .off then s.modRunner r fun x => { x with state := .available }
      else s
    s.ok [byte1 s.ords.runners[r].state.number]

/-- RUNNER_OFF at the order table (R134). -/
def runnerOff (runner : Byte) (s : State) : Reply :=
  match numbered 12 runner with
  | none => s.refuse .badParam
  | some r =>
    match s.ords.runners[r].state with
    | .out => s.refuse .badState
    | .off => s.ok [byte1 RunnerState.off.number]
    | .available =>
      (s.modRunner r fun x => { x with state := .off }).ok [byte1 RunnerState.off.number]

/-- READ_RUNNER at the order table (R134). A stopped trip timer is answered 0 (assumption log 37). -/
def readRunner (runner : Byte) (s : State) : Reply :=
  match numbered 12 runner with
  | none => s.refuse .badParam
  | some r =>
    let x := s.ords.runners[r]
    s.ok ([byte1 x.state.number] ++ listBytes 3 2 (fun k => (s.orderHandle k).bytes) x.carried ++
      optSeconds x.tripStart ++ [flagByte x.late] ++ bytes2 (secondsUp (x.tripTimer.getD 0)))

/-! ## Delivery (R138, R139, R144) -/

/-- Whether the admission of each order of a list is readable: each one is read in turn (R138). -/
def State.readOwners : List (Fin 256 × Order) → State → Bool × State
  | [], s => (true, s)
  | (_, x) :: rest, s =>
    let (y, s) := s.readAdm x.admission.slot
    let (good, s) := s.readOwners rest
    (y.isSome && good, s)

/-- A CONFIRM request at the order table (R138): its answer and the state after it. -/
def State.confirmRequest (r : Fin 12) (n : Fin 6) (stall : Nat) (s : State) : Status × State :=
  match s.readOrders s.ords.runners[r].carried with
  | (_, false, s) => (.damaged, s)
  | (xs, true, s) =>
    let found := xs.filter fun x => x.2.screen = n ∧ x.2.stall = stall
    match s.readOwners found with
    | (false, s) => (.damaged, s)
    | (true, s) =>
      let handed := found.filter fun x => x.2.collect = false
      if found.isEmpty then (.notCarried, s)
      else if handed.isEmpty then (.gone, s)
      else (.ok, (s.each handed fun x s => s.deliver x.1 x.2).raiseCounter .delivered)

/-- DELIVERED at the order table (R139). -/
def deliveredCommand (handle : Word16) (s : State) : Reply :=
  let h := OrderHandle.ofWord handle
  if !s.orderCurrent h then s.refuse .stale
  else match s.readOrder h.slot with
    | (none, s) => s.refuse .damaged
    | (some x, s) =>
      let (good, s) :=
        if x.paid then
          let (y, s) := s.readAdm x.admission.slot
          (y.isSome, s)
        else (true, s)
      if !good then s.refuse .damaged
      else if x.state ≠ .running then s.refuse .badState
      else (s.deliver h.slot x).ok []

/-- HANDOVER at the order table (R144). -/
def handover (handle : Word16) (s : State) : Reply :=
  let h := OrderHandle.ofWord handle
  if !s.orderCurrent h then s.refuse .stale
  else match s.readOrderAdm h.slot with
    | (none, s) => s.refuse .damaged
    | (some (x, _), s) =>
      if x.collect ∧ (x.state = .ready ∨ x.state = .running) then (s.deliver h.slot x).ok []
      else s.refuse .badState

/-! ## Cancels (R141, R142) -/

/-- A readable order of a readable admission cancelled (R141). -/
def State.cancelOrder (k : Fin 256) (x : Order) (s : State) : State :=
  let a := x.admission.slot
  let s := s.writeAdm a fun y =>
    { y with owed := y.owed - (if x.state = .placed then 0 else x.amount) }
  ((s.leaveList a k).retireOrder k).examineTab a

/-- CANCEL at the order table (R141). -/
def cancelCommand (handle : Word16) (s : State) : Reply :=
  let h := OrderHandle.ofWord handle
  if !s.orderCurrent h then s.refuse .stale
  else match s.readOrderAdm h.slot with
    | (none, s) => s.refuse .damaged
    | (some (x, _), s) =>
      if x.state = .running ∨ x.state = .delivered ∨ x.paid then s.refuse .badState
      else
        let s := s.cancelOrder h.slot x
        s.ok (bytes3 (s.adm x.admission.slot).owed)

/-- A CANCEL_NEWEST request at the order table (R142): its answer and the state after it. -/
def State.cancelNewestRequest (i : Fin 1024) (s : State) : Status × State :=
  match s.carAt i with
  | none => (.noCar, s)
  | some a =>
    match s.readTab a with
    | (none, s) => (.damaged, s)
    | (some (_, orders), s) =>
      match (orders.filter fun o => o.2.state = .placed).getLast? with
      | none => (.nonePlaced, s)
      | some o => (.ok, (s.cancelPlaced a o.1).raiseCounter .orderCancelled)

/-! ## Forced retirement of an order (R146) -/

/-- FORCE_RETIRE of an order at the order table (R146). -/
def forceRetireOrder (handle : Word16) (s : State) : Reply :=
  let h := OrderHandle.ofWord handle
  let k := h.slot
  if !s.orderCurrent h then s.refuse .stale
  else
    let (x, s) := s.readOrder k
    match s.orderOwner h x with
    | (some (a, y), s) =>
      let (owed, s) := s.owedWithout h x y
      let n := y.owed - owed
      let s := s.writeAdm a fun z => { z with owed := owed }
      ((((s.leaveList a k).writeOff n).retireOrder k).examineTab a).ok (bytes3 n)
    | (none, s) =>
      let n := (x.map Order.unpaid).getD 0
      ((s.writeOff n).retireOrder k).ok (bytes3 n)

/-! ## Lookups (R13, R131, R147) -/

/-- QUEUE_PEEK at the order table (R131). -/
def queuePeek (s : State) : Reply :=
  let first := s.ords.kitchen.take 8
  s.ok (bytes2 s.ords.kitchen.length ++ first.flatMap (fun k => (s.orderHandle k).bytes) ++
    List.replicate (2 * (8 - first.length)) 0)

/-- The answer data of LOOKUP_ORDER for a readable order (Formats). -/
def Order.bytes (h : OrderHandle) (x : Order) : List Byte :=
  [bitsByte [false, x.collect, x.paid]] ++ h.bytes ++ x.admission.bytes ++ [numberByte x.screen] ++
    bytes2 x.stall ++ [byte1 x.origin.number] ++ bytes3 x.placed ++
    [byte1 x.state.number, optNumber x.runner] ++ bytes3 x.amount ++ listBytes 8 2 Line.bytes x.lines

/-- The answer data of LOOKUP_ORDER for a marked order: what the index store gives, every other field zero (R13). -/
def State.damagedOrderBytes (h : OrderHandle) (s : State) : List Byte :=
  let (state, runner) : Byte × Byte :=
    if s.ords.kitchen.contains h.slot then (byte1 OrderState.placed.number, 0)
    else match s.ords.runnerOf h.slot with
      | some r => (byte1 OrderState.running.number, numberByte r)
      | none => (0, 0)
  [1] ++ h.bytes ++ List.replicate 9 0 ++ [state, runner] ++ List.replicate 20 0

/-- LOOKUP_ORDER at the order table (R147). -/
def lookupOrder (handle : Word16) (s : State) : Reply :=
  let h := OrderHandle.ofWord handle
  if !s.orderCurrent h then s.refuse .stale
  else match s.readOrder h.slot with
    | (some x, s) => s.ok (x.bytes h)
    | (none, s) => { state := s, status := .damaged, data := s.damagedOrderBytes h }

/-! ## Settlement (R151, R152) -/

/-- A settlement's effects on the orders of a list, as read: the charged unpaid become PAID, and the DELIVERED ones
retire, in the order of the admission's order list (R152; the order of the retirements is assumption log 40). -/
def State.payOrders (a : Fin 1024) (orders : List (Fin 256 × Order)) (s : State) : State :=
  let s := s.each (orders.filter fun o => o.2.state.charged) fun o s =>
    s.writeOrder o.1 fun x => { x with paid := true }
  s.each (orders.filter fun o => o.2.state = .delivered) fun o s =>
    (s.leaveList a o.1).retireOrder o.1

/-- SETTLE at the order table (R151, R152). -/
def settle (handle : Word16) (amount : Word24) (s : State) : Reply :=
  let h := AdmHandle.ofWord handle
  let a := h.slot
  if !s.admCurrent h then s.refuse .stale
  else if Config.amountLimit < amount.toNat then s.refuse .badParam
  else match s.readTab a with
    | (none, s) => s.refuse .damaged
    | (some (x, orders), s) =>
      if amount.toNat ≠ x.owed then
        { state := s, status := .mismatch, data := bytes3 x.owed ++ [byte1 x.orders.length] }
      else
        let s := ((s.payOrders a orders).writeAdm a fun y => { y with owed := 0 }).modNight fun n =>
          { n with takings := addTotal n.takings amount.toNat }
        let paid := orders.countP fun o => o.2.state.charged && !o.2.paid
        let retired := orders.countP fun o => o.2.state = .delivered
        (s.examineTab a).ok (bytes3 amount.toNat ++
          [byte1 paid, byte1 retired, byte1 (x.orders.length - retired)])

/-! ## Port commands -/

/-- PLACE (R129): the parameter length fits the line count received (R199). -/
def execPlace (p : PortId) (screen : Byte) (stall : Word16) (count : Byte) (lines : List RawLine)
    (s : State) : Host.Outcome State Fault Refusal :=
  .next (s.command p 0x40 (count.toNat = lines.length && 4 + 2 * lines.length ≤ 44)
    (place screen stall count lines))

/-- TAKE (R132). -/
def execTake (p : PortId) (handle : Option Word16) (s : State) : Host.Outcome State Fault Refusal :=
  .next (s.command p 0x41 true (take handle))

/-- READY (R133). -/
def execReady (p : PortId) (handle : Word16) (s : State) : Host.Outcome State Fault Refusal :=
  .next (s.command p 0x42 true (readyCommand handle))

/-- DISPATCH (R135): the parameter length fits the count received (R199). -/
def execDispatch (p : PortId) (runner count : Byte) (handles : List Word16) (s : State) :
    Host.Outcome State Fault Refusal :=
  .next (s.command p 0x43 (count.toNat = handles.length && 2 + 2 * handles.length ≤ 44)
    (dispatch runner count handles))

/-- DELIVERED (R139). -/
def execDelivered (p : PortId) (handle : Word16) (s : State) : Host.Outcome State Fault Refusal :=
  .next (s.command p 0x44 true (deliveredCommand handle))

/-- RUNNER_BACK (R140). -/
def execRunnerBack (p : PortId) (runner : Byte) (s : State) : Host.Outcome State Fault Refusal :=
  .next (s.command p 0x45 true (runnerBack runner))

/-- CANCEL (R141). -/
def execCancel (p : PortId) (handle : Word16) (s : State) : Host.Outcome State Fault Refusal :=
  .next (s.command p 0x46 true (cancelCommand handle))

/-- HANDOVER (R144). -/
def execHandover (p : PortId) (handle : Word16) (s : State) : Host.Outcome State Fault Refusal :=
  .next (s.command p 0x47 true (handover handle))

/-- RUNNER_ON (R134). -/
def execRunnerOn (p : PortId) (runner : Byte) (s : State) : Host.Outcome State Fault Refusal :=
  .next (s.command p 0x48 true (runnerOn runner))

/-- RUNNER_OFF (R134). -/
def execRunnerOff (p : PortId) (runner : Byte) (s : State) : Host.Outcome State Fault Refusal :=
  .next (s.command p 0x49 true (runnerOff runner))

/-- READ_RUNNER (R134). -/
def execReadRunner (p : PortId) (runner : Byte) (s : State) : Host.Outcome State Fault Refusal :=
  .next (s.command p 0x4A true (readRunner runner))

/-- QUEUE_PEEK (R131). -/
def execQueuePeek (p : PortId) (s : State) : Host.Outcome State Fault Refusal :=
  .next (s.command p 0x4B true queuePeek)

/-- LOOKUP_ORDER (R147). -/
def execLookupOrder (p : PortId) (handle : Word16) (s : State) : Host.Outcome State Fault Refusal :=
  .next (s.command p 0x4C true (lookupOrder handle))

/-- FORCE_RETIRE of an order (R146). -/
def execForceRetireOrder (p : PortId) (handle : Word16) (s : State) : Host.Outcome State Fault Refusal :=
  .next (s.command p 0x4D true (forceRetireOrder handle))

/-- SETTLE (R151). -/
def execSettle (p : PortId) (handle : Word16) (amount : Word24) (s : State) :
    Host.Outcome State Fault Refusal :=
  .next (s.command p 0x50 true (settle handle amount))

/-! ## Post requests (R118, R138, R142) -/

/-- The answer to a request, on its way to its row (R118). -/
def State.answerRequest (q : PostRequest) (status : Status) (s : State) : State :=
  s.modPosts fun p => { p with answers := p.answers ++ [{ row := q.row, tag := q.tag, status := status }] }

/-- The oldest request of a row that `f` takes, with what `f` gives, handed over to the order table (assumption log
9). -/
def State.takeRequest {α : Type} (r : Fin 48) (f : RequestBody → Option α)
    (act : α → State → Status × State) (s : State) : State :=
  match s.posts.requests.find? fun q => q.row = r ∧ (f q.body).isSome with
  | none => s
  | some q =>
    match f q.body with
    | none => s
    | some x =>
      let (status, s) := act x (s.modPosts fun p => { p with requests := p.requests.erase q })
      s.answerRequest q status

/-- The stall slot that a request names by screen and field stall number (R118); none when a later layout no longer
has that stall. -/
def LotMap.slotOf (l : LotMap) (n : Fin 6) (stall : Nat) : Option (Fin 1024) :=
  match l.fields[n] with
  | some f => if 1 ≤ stall ∧ stall ≤ f.stallCount then some (f.index stall) else none
  | none => none

/-- A PLACE request at the order table (R129). -/
def State.placeRequest (x : Fin 6 × Nat × List Line) (s : State) : Status × State :=
  match s.lot.slotOf x.1 x.2.1 with
  | none => (if s.ords.windows[x.1] then .noCar else .window, s)
  | some i =>
    let r := s.placeOrder x.1 i x.2.1 .post x.2.2
    (r.status, r.state)

/-- PLACE_REQUEST (R129): the order table takes a row's PLACE request. -/
def execPlaceRequest (r : Fin 48) (s : State) : Host.Outcome State Fault Refusal :=
  .next (s.whileRunning (State.takeRequest r
    (fun b => match b with
      | .place n stall lines => some (n, stall, lines)
      | _ => none)
    State.placeRequest))

/-- CANCEL_NEWEST (R142): the order table takes a row's CANCEL_NEWEST request. -/
def execCancelNewest (r : Fin 48) (s : State) : Host.Outcome State Fault Refusal :=
  .next (s.whileRunning (State.takeRequest r
    (fun b => match b with
      | .cancelNewest n stall => some (n, stall)
      | _ => none)
    fun x s => match s.lot.slotOf x.1 x.2 with
      | none => (.noCar, s)
      | some i => s.cancelNewestRequest i))

/-- CONFIRM (R138): the order table takes a row's CONFIRM request. -/
def execConfirm (r : Fin 48) (s : State) : Host.Outcome State Fault Refusal :=
  .next (s.whileRunning (State.takeRequest r
    (fun b => match b with
      | .confirm runner n stall => some (runner, n, stall)
      | _ => none)
    fun x s => s.confirmRequest x.1 x.2.1 x.2.2))

end Sys2Proof.Machine
end

