-- ==== Sys2Proof/Machine/Lanes.lean ====
section
/-!
DEFINITION. The gate lane controller's own changes and events: the barrier, faults, passes, voids, returns and
retirement of admissions (R40 to R46, R49 to R57, R59).
-/

namespace Sys2Proof.Machine

open Sys2Proof

/-! ## The barrier and the resting states (R42, R44, R47) -/

/-- RAISE asserted: the barrier timer starts unless UP is already high (R42). -/
def Lane.assertRaise (barrierTime : Nat) (l : Lane) : Lane :=
  { l with raise := true, barrierTimer := if l.up then none else seconds barrierTime }

/-- RAISE dropped, and the barrier timer stopped (R42). -/
def Lane.dropRaise (l : Lane) : Lane := { l with raise := false, barrierTimer := none }

/-- The stuck timer started again at the end of a fault when loop B is occupied, and stopped when it is not (R44). -/
def Lane.restartStuck (stuckTime : Nat) (l : Lane) : Lane :=
  { l with stuckTimer := if l.loopB.level then seconds stuckTime else none }

/-- The fault cleared; a lane that was FAULTED has its stuck timer started afresh (R44, R58). -/
def Lane.endFault (stuckTime : Nat) (l : Lane) : Lane :=
  let l' := { l with cause := none, faultedFrom := none }
  if l.state = .faulted then l'.restartStuck stuckTime else l'

/-- The state of a lane with nothing bound: PRESENT when loop A is occupied, else IDLE (R47). -/
def Lane.restState (l : Lane) : LaneState := if l.loopA.level then .present else .idle

/-- A lane freed: its binding and fault cleared, RAISE dropped, its void and return timers stopped, PRESENT or IDLE by
loop A (R50, R51, R56, R63). A lane of role UNUSED stays IDLE (R40). -/
def Lane.free (stuckTime : Nat) (l : Lane) : Lane :=
  let l' := (l.endFault stuckTime).dropRaise
  { l' with
    bound := none, voidTimer := none, returnTimer := none
    state := if l.role = .unused then .idle else l.restState }

/-- LANE_PRESENT when the lane stands PRESENT (R47). -/
def State.announcePresent (n : Fin 4) (s : State) : State :=
  if s.gate.lanes[n].state = .present then s.raiseBooth .lanePresent else s

/-- A lane freed, with LANE_PRESENT when that leaves it PRESENT (R47). -/
def State.freeLane (n : Fin 4) (s : State) : State :=
  (s.modLane n (Lane.free s.gate.stuckTime)).announcePresent n

/-- A lane goes to FAULTED (R44). -/
def Lane.fault (c : LaneFault) (l : Lane) : Lane :=
  { l.dropRaise with
    state := .faulted, cause := some c, faultedFrom := some l.state, voidTimer := none,
    returnTimer := none }

/-- A lane goes to FAULTED, with LANE_FAULT (R42 to R44). -/
def State.faultLane (n : Fin 4) (c : LaneFault) (s : State) : State :=
  (s.modLane n (Lane.fault c)).raiseBooth .laneFault

/-- A count held at its limit (R40, R59). -/
def countUp (n : Nat) : Nat := min (n + 1) Config.countLimit

/-! ## Live counts and retirement (R46, R7) -/

/-- A screen's live admission count up by one (R46). -/
def State.addLive (n : Fin 6) (s : State) : State :=
  s.modGate fun g => { g with live := upd g.live n (· + 1) }

/-- A screen's live admission count down by one; a count of 0 is reported to the show controller (R46, R80). -/
def State.dropLive (n : Fin 6) (s : State) : State :=
  (s.modGate fun g => { g with live := upd g.live n (· - 1) }).examineEnded n

/-- Admission slot `a` retires, counted under screen `n` until then: its slot is freed, the count falls, and the
closing condition is examined (R7, R46, R162). -/
def State.retireAdm (a : Fin 1024) (n : Option (Fin 6)) (s : State) : State :=
  let s := s.retireAdmSlot a
  (match n with
    | some n => s.dropLive n
    | none => s).examineClose

/-! ## Passes (R50, R56) -/

/-- The state of an admission that is bound to no lane: SEATED when it holds a stall, else WAITING (R50, R54). -/
def LotMap.parkedState (l : LotMap) (a : Fin 1024) : AdmState :=
  if (l.stallHeldBy a).isSome then .seated else .waiting

/-- The entry pass of the admission bound to a lane (R50). -/
def State.entryPass (n : Fin 4) (a : Fin 1024) (s : State) : State :=
  let st := s.lot.parkedState a
  let s := s.updateAdm a fun x => { x with state := st }
  let s := match s.lot.stallHeldBy a with
    | some i => s.holdStall i a .occupation
    | none => s
  let s := match s.lot.screenOf a with
    | some m => s.modGate fun g => { g with admitted := upd g.admitted m countUp }
    | none => s
  (s.modLane n fun l => { l with passes := countUp l.passes }).freeLane n

/-- The exit pass of the admission bound to a lane; a marked admission faults the lane instead (R56, R57). -/
def State.exitPass (n : Fin 4) (a : Fin 1024) (s : State) : State :=
  if s.admMarked a then s.faultLane n .record
  else
    let m := s.lot.screenOf a
    let s := ((s.leavePlace a).freeLane n).retireAdm a m
    s.modLane n fun l => { l with passes := countUp l.passes }

/-! ## Voids (R51) -/

/-- The void of the admission bound to an ENTRY lane (R51). -/
def State.voidAdm (n : Fin 4) (a : Fin 1024) (s : State) : State :=
  let m := s.lot.screenOf a
  let s := ((s.leavePlace a).freeLane n).retireAdm a m
  (s.modLane n fun l => { l with voids := countUp l.voids }).raiseBooth .voided

/-! ## Returns (R54, R55) -/

/-- The orders of an admission: those of its list, or when it is damaged the live orders found by reading that name its
handle (R54, assumption log 26). -/
def State.ordersOf (a : Fin 1024) (x : Option Admission) (s : State) : List OrderHandle × State :=
  match x with
  | some x => (x.orders, s)
  | none =>
    let h := s.admHandle a
    let (xs, _, s) := s.readOrders s.liveOrders
    ((xs.filter fun o => o.2.admission = h).map fun o => s.orderHandle o.1, s)

/-- The return of an admission from an EXIT lane: SEATED or WAITING, its binding cleared and the lane IDLE, and the
void-or-return count one higher (R59, assumption log 29); one returned to WAITING is offered a stall (R33, R54, R55). -/
def State.returnAdm (n : Fin 4) (a : Fin 1024) (s : State) : State :=
  let st := s.lot.parkedState a
  let s := s.writeAdm a fun x => { x with state := st, exitLane := none }
  let s := s.modLane n fun l =>
    { l.dropRaise with
      state := .idle, bound := none, voidTimer := none, returnTimer := none, voids := countUp l.voids }
  if st = .waiting then s.offerReturn a else s

/-- Loop A clears in PAYING: the return, with COLLECT cleared on its orders and the return counted (R54, R59, R143,
R155, assumption log 29). -/
def State.leaveWindow (n : Fin 4) (a : Fin 1024) (s : State) : State :=
  let (x, s) := s.readAdm a
  let (orders, s) := s.ordersOf a x
  (s.clearCollect orders).returnAdm n a

/-! ## Loop events (R41, R43, R47, R49, R52, R54, R55) -/

/-- A tailgate (R52). -/
def State.tailgate (n : Fin 4) (s : State) : State :=
  (s.modLane n fun l => { l with tailgates := countUp l.tailgates }).raiseBooth .tailgate

/-- Loop A occupied, by the lane's state (R47, R49, R55). -/
def State.loopAOccupied (n : Fin 4) (s : State) : State :=
  match s.gate.lanes[n].state with
  | .idle => (s.modLane n fun l => { l with state := .present }).raiseBooth .lanePresent
  | .issued => s.modLane n fun l => { l with voidTimer := none }
  | .leaving => s.modLane n fun l => { l with returnTimer := none }
  | .present | .passing | .faulted | .paying => s

/-- Loop A clears, by the lane's state (R47, R49, R54, R55, assumption log 16). In ISSUED and LEAVING the void or return
timer starts, also when loop B was occupied as the lane entered that state and has stayed so (assumption log 43). -/
def State.loopAClears (n : Fin 4) (s : State) : State :=
  let l := s.gate.lanes[n]
  match l.state with
  | .present => s.modLane n fun l => { l with state := .idle }
  | .issued => s.modLane n fun l => { l with voidTimer := seconds s.gate.voidTime }
  | .leaving => s.modLane n fun l => { l with returnTimer := seconds s.gate.voidTime }
  | .paying =>
    match l.bound with
    | some a => s.leaveWindow n a
    | none => s
  | .idle | .passing | .faulted => s

/-- Loop B occupied: the stuck timer starts, and the lane takes a pass or a tailgate (R43, R49, R52, R55). -/
def State.loopBOccupied (n : Fin 4) (s : State) : State :=
  let l := s.gate.lanes[n]
  if l.state = .faulted then s
  else
    let s := s.modLane n fun l => { l with stuckTimer := seconds s.gate.stuckTime }
    match l.state with
    | .idle | .present | .paying => s.tailgate n
    | .issued | .leaving =>
      s.modLane n fun l => { l with state := .passing, voidTimer := none, returnTimer := none }
    | .passing | .faulted => s

/-- Loop B clears: the stuck timer stops, and a lane in PASSING completes its pass (R43, R50, R56). -/
def State.loopBClears (n : Fin 4) (s : State) : State :=
  let l := s.gate.lanes[n]
  let s := s.modLane n fun l => { l with stuckTimer := none }
  match l.state, l.bound with
  | .passing, some a => if l.role = .entry then s.entryPass n a else s.exitPass n a
  | _, _ => s

/-- A qualified change of a loop level taken by the lane; a lane of role UNUSED keeps its level only (R40, R41). -/
def State.loopEvent (n : Fin 4) (loop : Loop) (s : State) : State :=
  let l := s.gate.lanes[n]
  if l.role = .unused then s
  else match loop, (match loop with
      | .a => l.loopA.level
      | .b => l.loopB.level) with
    | .a, true => s.loopAOccupied n
    | .a, false => s.loopAClears n
    | .b, true => s.loopBOccupied n
    | .b, false => s.loopBClears n

/-- One of the two loops of a lane changed by `f`. -/
def Lane.modLoop (loop : Loop) (f : Input → Input) (l : Lane) : Lane :=
  match loop with
  | .a => { l with loopA := f l.loopA }
  | .b => { l with loopB := f l.loopB }

/-- One of the two loops of a lane. -/
def Lane.loop (l : Lane) : Loop → Input
  | .a => l.loopA
  | .b => l.loopB

/-- LOOP_INPUT_CHANGE (R41): a level on a loop input, qualified while the part runs. -/
def execLoopInputChange (n : Fin 4) (loop : Loop) (occupied : Bool) (s : State) :
    Host.Outcome State Fault Refusal :=
  .next (s.modLane n (Lane.modLoop loop
    (if s.sys.phase = .running then Input.change occupied s.gate.presenceTime
     else Input.setRaw occupied)))

/-- PRESENCE_TIMER_EXPIRY (R41). -/
def execPresenceTimerExpiry (n : Fin 4) (loop : Loop) (s : State) : Host.Outcome State Fault Refusal :=
  .next (s.whileRunning fun s =>
    if (s.gate.lanes[n].loop loop).timer.isSome then
      (s.modLane n (Lane.modLoop loop Input.qualify)).loopEvent n loop
    else s)

/-! ## The barrier sensor and the lane timers -/

/-- UP_CHANGE (R42): UP high stops the barrier timer. -/
def execUpChange (n : Fin 4) (high : Bool) (s : State) : Host.Outcome State Fault Refusal :=
  .next (s.modLane n fun l =>
    { l with up := high, barrierTimer := if high then none else l.barrierTimer })

/-- A lane timer that has expired faults its lane. A lane already FAULTED keeps its fault (R42 to R44, assumption log
8). -/
def State.timerFault (n : Fin 4) (c : LaneFault) (s : State) : State :=
  if s.gate.lanes[n].state = .faulted then s else s.faultLane n c

/-- BARRIER_TIMER_EXPIRY (R42, R44). -/
def execBarrierTimerExpiry (n : Fin 4) (s : State) : Host.Outcome State Fault Refusal :=
  .next (s.whileRunning fun s =>
    if s.gate.lanes[n].barrierTimer.isSome then
      (s.modLane n fun l => { l with barrierTimer := none }).timerFault n .barrier
    else s)

/-- STUCK_TIMER_EXPIRY (R43, R44). -/
def execStuckTimerExpiry (n : Fin 4) (s : State) : Host.Outcome State Fault Refusal :=
  .next (s.whileRunning fun s =>
    if s.gate.lanes[n].stuckTimer.isSome then
      (s.modLane n fun l => { l with stuckTimer := none }).timerFault n .stuck
    else s)

/-- VOID_TIMER_EXPIRY (R49, R51, R57): a marked admission faults the lane instead. -/
def execVoidTimerExpiry (n : Fin 4) (s : State) : Host.Outcome State Fault Refusal :=
  .next (s.whileRunning fun s =>
    let l := s.gate.lanes[n]
    if l.voidTimer.isSome ∧ l.state = .issued then
      match l.bound with
      | some a => if s.admMarked a then s.faultLane n .record else s.voidAdm n a
      | none => s
    else s)

/-- RETURN_TIMER_EXPIRY (R55). -/
def execReturnTimerExpiry (n : Fin 4) (s : State) : Host.Outcome State Fault Refusal :=
  .next (s.whileRunning fun s =>
    let l := s.gate.lanes[n]
    if l.returnTimer.isSome ∧ l.state = .leaving then
      match l.bound with
      | some a => (s.readAdm a).2.returnAdm n a
      | none => s
    else s)

/-- A tab clear at its lane (R54): taken only while the lane is PAYING with that admission bound. -/
def State.takeTabClear (n : Fin 4) (h : AdmHandle) (s : State) : State :=
  let l := s.gate.lanes[n]
  if l.state = .paying ∧ l.bound = some h.slot ∧ s.mem.admGen[h.slot] = h.gen then
    ((s.updateAdm h.slot fun x => { x with state := .leaving }).modLane n fun l =>
      { l with state := .leaving }.assertRaise s.gate.barrierTime).raiseBooth .exitCleared
  else s

/-- TAB_CLEAR (R54, R150): the oldest tab clear on its way to the lane reaches it. -/
def execTabClear (n : Fin 4) (s : State) : Host.Outcome State Fault Refusal :=
  .next (s.whileRunning fun s =>
    match s.ords.tabClears.find? fun c => c.1 = n with
    | none => s
    | some c => (s.modOrds fun o => { o with tabClears := o.tabClears.erase c }).takeTabClear n c.2)

end Sys2Proof.Machine
end

