-- ==== Sys2Proof/Machine/Admissions.lean ====
section
/-!
DEFINITION. The commands on lanes and admissions (R47, R48, R51, R53, R58, R60 to R63).
-/

namespace Sys2Proof.Machine

open Sys2Proof

/-- A show that takes cars: PRESHOW, STARTING, RUNNING, INTERMISSION or HELD (R47, R61). -/
def ShowState.takesCars : ShowState → Bool
  | .preshow | .starting | .running | .intermission | .held => true
  | .dark | .ended => false

/-- The channel given on a ticket: the one the screen's row displays show (R48). -/
def State.ticketChannel (s : State) (n : Fin 6) : Byte := byte1 s.chans.sounds[n].sound.shown.1

/-! ## ADMIT (R47, R48) -/

/-- The record of a new admission (R48). -/
def State.newAdm (s : State) (n : Fin 6) (c : VehicleClass) (l : Fin 4) (stall : Option Nat) : Admission :=
  { state := .issued, cls := c, screen := n, stall := stall, entryLane := l, entryTime := s.night.clock,
    exitLane := none, owed := 0, orders := [] }

/-- The lot's part of an ADMIT that passes: the reservation, or the place at the tail of the queue (R27, R28). -/
def State.settlePlace (a : Fin 1024) (n : Fin 6) (x : Allocation) (s : State) : State :=
  match x with
  | .stall i => s.holdStall i a .reservation
  | .queued | .refused _ => s.modLot fun l => { l with queues := upd l.queues n (· ++ [a]) }

/-- The effects of ADMIT in admission slot `a` (R48). -/
def State.admitIn (a : Fin 1024) (l : Fin 4) (n : Fin 6) (c : VehicleClass) (x : Allocation) (s : State) :
    State :=
  let stall := match x with
    | .stall i => some (s.lot.numberOf i)
    | .queued | .refused _ => none
  (((s.createAdm a (s.newAdm n c l stall)).settlePlace a n x).modLane l fun r =>
    { r with state := .issued, bound := some a }.assertRaise s.gate.barrierTime).addLive n

/-- The answer of ADMIT (R48). -/
def State.admitAnswer (a : Fin 1024) (n : Fin 6) (x : Allocation) (s : State) : List Byte :=
  (s.admHandle a).bytes ++
    bytes2 (match x with
      | .stall i => s.lot.numberOf i
      | .queued | .refused _ => 0) ++ [s.ticketChannel n]

/-- ADMIT at the gate lane controller (R47, R48). The show is checked before the domain, so a screen put to rest while
DARK is answered CLOSED, where R182 says DOMAIN_DOWN (assumption log 33). -/
def admitCommand (lane screen cls : Byte) (stall : Word16) (s : State) : Reply :=
  match numbered 4 lane, numbered 6 screen, VehicleClass.ofByte cls with
  | some l, some n, some c =>
    let r := s.gate.lanes[l]
    if s.night.state ≠ .opened then s.refuse .closed
    else if r.role ≠ .entry then s.refuse .badState
    else if r.bound.isSome then s.refuse .busy
    else if r.state ≠ .present then s.refuse .noVehicle
    else if r.passes = Config.countLimit then s.refuse .full
    else if s.lot.fields[n].isNone ∨ s.shows.screens[n].state.takesCars = false then s.refuse .closed
    else if ¬ (s.active (screenDomain n) ∧ s.active gates) then s.refuse .domainDown
    else match s.mem.admFree with
      | [] => s.refuse .full
      | a :: _ =>
        match s.allocate screen n stall c with
        | (.refused status, s) => s.refuse status
        | (x, s) => (s.admitIn a l n c x).ok (s.admitAnswer a n x)
  | _, _, _ => s.refuse .badParam

/-! ## VOID (R51) -/

/-- VOID at the gate lane controller (R51). -/
def voidCommand (handle : Word16) (s : State) : Reply :=
  let h := AdmHandle.ofWord handle
  if !s.admCurrent h then s.refuse .stale
  else match s.readAdm h.slot with
    | (none, s) => s.refuse .damaged
    | (some x, s) =>
      match x.state, s.gate.laneOf h.slot with
      | .issued, some n => (s.voidAdm n h.slot).ok []
      | _, _ => s.refuse .badState

/-! ## EXIT (R53) -/

/-- The admission bound to an EXIT lane, in PAYING or LEAVING (R53). -/
def State.bindExit (n : Fin 4) (a : Fin 1024) (clear : Bool) (s : State) : State :=
  let s := s.writeAdm a fun x =>
    { x with exitLane := some n, state := if clear then .leaving else .paying }
  if clear then
    s.modLane n fun l => { l with state := .leaving, bound := some a }.assertRaise s.gate.barrierTime
  else
    (s.modLane n fun l => { l with state := .paying, bound := some a }).raiseCounter .tabOpen

/-- EXIT at the gate lane controller (R53, R143). -/
def exitCommand (lane : Byte) (handle : Word16) (s : State) : Reply :=
  let h := AdmHandle.ofWord handle
  let a := h.slot
  if !s.admCurrent h then s.refuse .stale
  else match numbered 4 lane with
    | none => s.refuse .badParam
    | some n =>
      let l := s.gate.lanes[n]
      if l.role ≠ .exit then s.refuse .badState
      else if (s.gate.laneOf a).isSome then s.refuse .busy
      else if l.bound.isSome then s.refuse .busy
      else if l.state ≠ .present then s.refuse .noVehicle
      else if l.passes = Config.countLimit then s.refuse .full
      else if !s.active gates then s.refuse .domainDown
      else match s.readTab a with
        | (none, s) => s.refuse .damaged
        | (some (x, orders), s) =>
          let left := (orders.filter fun o => o.2.state ≠ .placed).length
          let clear : Bool := x.owed = 0 ∧ left = 0
          let s := (s.exitOrders a orders).bindExit n a clear
          { state := s, status := if clear then .ok else .tabOpen
            data := bytes3 x.owed ++ [byte1 left] }

/-! ## CLEAR_LANE (R58) -/

/-- A lane resumes with RAISE asserted; loop B occupied takes it to PASSING, and both loops clear start its timer
(R58). -/
def Lane.resume (g : Gate) (st : LaneState) (l : Lane) : Lane :=
  let l := { l with state := st }.assertRaise g.barrierTime
  if l.loopB.level then { l with state := .passing }
  else if l.loopA.level then l
  else if st = .issued then { l with voidTimer := seconds g.voidTime }
  else { l with returnTimer := seconds g.voidTime }

/-- A FAULTED lane resumes from the state it faulted in (R58). -/
def State.resumeLane (n : Fin 4) (s : State) : State :=
  let l := s.gate.lanes[n]
  let s' := s.modLane n (Lane.endFault s.gate.stuckTime)
  match l.bound, l.faultedFrom with
  | some _, some .issued => s'.modLane n (Lane.resume s.gate .issued)
  | some _, some .leaving => s'.modLane n (Lane.resume s.gate .leaving)
  | some _, some .passing =>
    s'.modLane n (Lane.resume s.gate (if l.role = .entry then .issued else .leaving))
  | some a, some .paying =>
    let s' := s'.modLane n fun l => { l with state := .paying }
    if l.loopA.level then s'.examineTab a else s'.leaveWindow n a
  | _, _ => s.freeLane n

/-- CLEAR_LANE at the gate lane controller (R58). -/
def clearLane (lane : Byte) (s : State) : Reply :=
  match numbered 4 lane with
  | none => s.refuse .badParam
  | some n =>
    if s.gate.lanes[n].state ≠ .faulted then s.refuse .badState
    else
      let s := s.resumeLane n
      s.ok [byte1 s.gate.lanes[n].state.number]

/-! ## Reads (R60) -/

/-- READ_LANE at the gate lane controller (R60). -/
def readLane (lane : Byte) (s : State) : Reply :=
  match numbered 4 lane with
  | none => s.refuse .badParam
  | some n =>
    let l := s.gate.lanes[n]
    s.ok ([byte1 l.role.number, byte1 l.state.number, byte1 ((l.cause.map LaneFault.number).getD 0),
        byte1 ((l.faultedFrom.map LaneState.number).getD 0)] ++
      optAdmHandle (l.bound.map s.admHandle) ++
      [flagByte l.loopA.level, flagByte l.loopB.level, flagByte l.raise, flagByte l.up] ++
      bytes2 l.passes ++ bytes2 l.tailgates ++ bytes2 l.voids)

/-- The 29 bytes of an admission, its damage flag clear (Formats). -/
def Admission.bytes (h : AdmHandle) (x : Admission) : List Byte :=
  [0] ++ h.bytes ++ [byte1 x.state.number, byte1 x.cls.number, numberByte x.screen] ++
    bytes2 (x.stall.getD 0) ++ [numberByte x.entryLane] ++ bytes3 x.entryTime ++ [optNumber x.exitLane] ++
    bytes3 x.owed ++ listBytes 6 2 OrderHandle.bytes x.orders

/-- The state in which an EXIT lane holds its admission: LEAVING or PAYING, PASSING read as LEAVING, FAULTED as the
state it faulted from (R13, R62). -/
def Lane.exitState (l : Lane) : AdmState :=
  let st := if l.state = .faulted then l.faultedFrom.getD .paying else l.state
  if st = .leaving ∨ st = .passing then .leaving else .paying

/-- The state of an admission as the index store shows it (R13, R62). -/
def State.indexState (s : State) (a : Fin 1024) : AdmState :=
  match s.gate.laneOf a with
  | some n => if s.gate.lanes[n].role = .entry then .issued else s.gate.lanes[n].exitState
  | none =>
    match s.lot.stallHeldBy a with
    | some i => if (s.lot.occupants[i].map Occupant.hold) = some .reservation then .issued else .seated
    | none => .waiting

/-- The lane of a given role that an admission is bound to. -/
def State.boundLane (s : State) (a : Fin 1024) (role : LaneRole) : Option (Fin 4) :=
  (s.gate.laneOf a).filter fun n => s.gate.lanes[n].role = role

/-- The answer data of LOOKUP_ADMISSION for a marked admission: what the index store gives, every other field zero
(R13). -/
def State.damagedAdmBytes (h : AdmHandle) (s : State) : List Byte :=
  let a := h.slot
  [1] ++ h.bytes ++ [byte1 (s.indexState a).number, 0, optNumber (s.lot.screenOf a)] ++
    bytes2 (((s.lot.stallHeldBy a).map s.lot.numberOf).getD 0) ++
    [optNumber (s.boundLane a .entry), 0, 0, 0, optNumber (s.boundLane a .exit)] ++
    List.replicate 16 0

/-- LOOKUP_ADMISSION at the gate lane controller (R60, R13). -/
def lookupAdmission (handle : Word16) (s : State) : Reply :=
  let h := AdmHandle.ofWord handle
  if !s.admCurrent h then s.refuse .stale
  else match s.readAdm h.slot with
    | (some x, s) => s.ok (x.bytes h)
    | (none, s) => { state := s, status := .damaged, data := s.damagedAdmBytes h }

/-! ## MOVE (R30, R61, R145) -/

/-- The effects of MOVE to stall `i` (R30, R61, R145). -/
def State.moveTo (a : Fin 1024) (i : Fin 1024) (n : Fin 6) (number : Nat)
    (orders : List (Fin 256 × Order)) (s : State) : State :=
  let old := s.lot.stallHeldBy a
  let oldScreen := s.lot.screenOf a
  let s := (s.holdStall i a .occupation).writeAdm a fun x =>
    { x with screen := n, stall := some number }
  let s := s.each orders fun o s => s.writeOrder o.1 fun x => { x with screen := n, stall := number }
  let s := match old with
    | some j => s.releaseStall j
    | none => s
  match oldScreen with
  | some m => if m = n then s else (s.addLive n).dropLive m
  | none => s

/-- MOVE at the gate lane controller (R61). The show is checked before the domain, as at ADMIT (assumption log 33). -/
def moveCommand (handle : Word16) (screen : Byte) (stall : Word16) (s : State) : Reply :=
  let h := AdmHandle.ofWord handle
  let a := h.slot
  if !s.admCurrent h then s.refuse .stale
  else match s.readTab a with
    | (none, s) => s.refuse .damaged
    | (some (x, orders), s) =>
      if x.state ≠ .seated then s.refuse .badState
      else match s.lot.named screen stall with
        | .error status => s.refuse status
        | .ok (n, i) =>
          if s.night.state ≠ .opened ∨ s.shows.screens[n].state.takesCars = false then s.refuse .closed
          else if !s.active (screenDomain n) then s.refuse .domainDown
          else
            let (y, s) := s.readStall i
            if y.state s.lot.occupants[i] = .free ∧ x.cls.fits y.kind then
              let s := s.moveTo a i n stall.toNat orders
              s.ok (bytes2 stall.toNat ++ [s.ticketChannel n])
            else s.refuse .badParam

/-! ## REPAIR (R62) -/

/-- The live orders of a handle in ascending placed time, and within one second in ascending slots (R62). -/
def ordersNaming (h : AdmHandle) (orders : List (Fin 256 × Order)) : List (Fin 256 × Order) :=
  (orders.filter fun o => o.2.admission = h).insertionSort fun x y => x.2.placed ≤ y.2.placed

/-- The record that REPAIR writes (R62). -/
def State.repaired (h : AdmHandle) (c : VehicleClass) (l : Fin 4) (t : Nat)
    (orders : List (Fin 256 × Order)) (s : State) : Admission :=
  let a := h.slot
  let mine := ordersNaming h orders
  { state := s.indexState a, cls := c, screen := (s.lot.screenOf a).getD 0
    stall := (s.lot.stallHeldBy a).map s.lot.numberOf
    entryLane := (s.boundLane a .entry).getD l, entryTime := t, exitLane := s.boundLane a .exit
    owed := (mine.map fun o => o.2.unpaid).sum
    orders := mine.map fun o => s.orderHandle o.1 }

/-- REPAIR at the gate lane controller (R62). -/
def repair (handle : Word16) (cls lane : Byte) (entryTime : Word24) (s : State) : Reply :=
  let h := AdmHandle.ofWord handle
  let a := h.slot
  if !s.admCurrent h then s.refuse .stale
  else if !s.admMarked a then s.refuse .badState
  else match VehicleClass.ofByte cls, numbered 4 lane with
    | some c, some l =>
      if Config.lastSecond < entryTime.toNat then s.refuse .badParam
      else match s.readOrders s.liveOrders with
        | (_, false, s) => s.refuse .damaged
        | (xs, true, s) =>
          let x := s.repaired h c l entryTime.toNat xs
          let s := (s.modAdmSlot a (Slot.write x)).unmarkAdm a
          (s.examineTab a).ok (x.bytes h)
    | _, _ => s.refuse .badParam

/-! ## FORCE_RETIRE of an admission (R63) -/

/-- The lane of a force-retired admission freed without attention (R63 step 3). -/
def State.unbind (a : Fin 1024) (s : State) : State :=
  match s.gate.laneOf a with
  | some n => s.modLane n (Lane.free s.gate.stuckTime)
  | none => s

/-- Steps 2 to 4 of the forced retirement of an admission (R63). -/
def State.forceAdm (a : Fin 1024) (s : State) : State :=
  let m := s.lot.screenOf a
  let entered := (s.boundLane a .entry).isNone
  let s := (((s.leavePlace a).unbind a).modNight fun n =>
    { n with forced := if entered then n.forced + 1 else n.forced })
  s.retireAdm a m

/-- The orders that a forced retirement of an admission takes: those of its list, or for a marked one the live
orders that name it, in ascending slots (assumption log 40), none when any live order is damaged (R63). -/
def State.ordersToForce (h : AdmHandle) (s : State) : Option (List (Fin 256)) × State :=
  match s.readAdm h.slot with
  | (some x, s) => (some (x.orders.map OrderHandle.slot), s)
  | (none, s) =>
    match s.readOrders s.liveOrders with
    | (_, false, s) => (none, s)
    | (xs, true, s) => (some ((xs.filter fun o => o.2.admission = h).map Prod.fst), s)

/-- FORCE_RETIRE of an admission at the gate lane controller (R63). -/
def forceRetireAdm (handle : Word16) (s : State) : Reply :=
  let h := AdmHandle.ofWord handle
  if !s.admCurrent h then s.refuse .stale
  else match s.ordersToForce h with
    | (none, s) => s.refuse .damaged
    | (some orders, s) =>
      let (n, s) := s.forceOrders orders
      ((s.writeOff n).forceAdm h.slot).ok (bytes3 n)

/-! ## Port commands -/

/-- ADMIT (R47). -/
def execAdmitCar (p : PortId) (lane screen cls : Byte) (stall : Word16) (s : State) :
    Host.Outcome State Fault Refusal :=
  .next (s.command p 0x10 true (admitCommand lane screen cls stall))

/-- VOID (R51). -/
def execVoid (p : PortId) (handle : Word16) (s : State) : Host.Outcome State Fault Refusal :=
  .next (s.command p 0x11 true (voidCommand handle))

/-- EXIT (R53). An answer TAB_OPEN carries the same data as OK (R209). -/
def execExit (p : PortId) (lane : Byte) (handle : Word16) (s : State) :
    Host.Outcome State Fault Refusal :=
  .next (s.command p 0x12 true (exitCommand lane handle))

/-- CLEAR_LANE (R58). -/
def execClearLane (p : PortId) (lane : Byte) (s : State) : Host.Outcome State Fault Refusal :=
  .next (s.command p 0x13 true (clearLane lane))

/-- READ_LANE (R60). -/
def execReadLane (p : PortId) (lane : Byte) (s : State) : Host.Outcome State Fault Refusal :=
  .next (s.command p 0x14 true (readLane lane))

/-- MOVE (R61). -/
def execMove (p : PortId) (handle : Word16) (screen : Byte) (stall : Word16) (s : State) :
    Host.Outcome State Fault Refusal :=
  .next (s.command p 0x15 true (moveCommand handle screen stall))

/-- LOOKUP_ADMISSION (R60). -/
def execLookupAdmission (p : PortId) (handle : Word16) (s : State) : Host.Outcome State Fault Refusal :=
  .next (s.command p 0x16 true (lookupAdmission handle))

/-- REPAIR (R62). -/
def execRepair (p : PortId) (handle : Word16) (cls lane : Byte) (entryTime : Word24) (s : State) :
    Host.Outcome State Fault Refusal :=
  .next (s.command p 0x17 true (repair handle cls lane entryTime))

/-- FORCE_RETIRE of an admission (R63). -/
def execForceRetireAdmission (p : PortId) (handle : Word16) (s : State) :
    Host.Outcome State Fault Refusal :=
  .next (s.command p 0x18 true (forceRetireAdm handle))

end Sys2Proof.Machine
end

