-- ==== Sys2Proof/Machine/Store.lean ====
section
/-!
DEFINITION. The standing store (chapter 10): reads of units, the checks and completions of programs and erases,
the scan of the start-up check, and the store commands.
-/

namespace Sys2Proof.Machine

open Sys2Proof

/-! ## Units (R183, R184) -/

/-- The place of a unit in the store (R183). -/
def unitIndex (area : Fin 6) (unit : Fin 64) : Fin 384 := ⟨64 * area.val + unit.val, by omega⟩

/-- The area of a place in the store. -/
def areaOf (i : Fin 384) : Fin 6 := ⟨i.val / 64, by omega⟩

/-- The unit of a place in the store. -/
def unitOf (i : Fin 384) : Fin 64 := ⟨i.val % 64, by omega⟩

/-- The erased pattern (R183). -/
def erasedBytes : Vector Byte 16 := Vector.replicate 16 0xFF

/-- The health of a unit: how many of its bits are wrong (R184). -/
def StoreUnit.health (u : StoreUnit) : Health :=
  if u.wrong = 0 then .clean else if ones u.wrong = 1 then .single else .double

/-- Sixteen bytes with the bits turned over that a word of wrong bits names. -/
def turnBits (w : BitVec 137) (bytes : Vector Byte 16) : Vector Byte 16 :=
  Vector.ofFn fun i => bytes[i] ^^^ w.extractLsb' (8 * i.val) 8

/-- The content a read returns: corrected when one bit is wrong, and as stored otherwise (R184). -/
def StoreUnit.bytes (u : StoreUnit) : Vector Byte 16 :=
  if u.health = .single then turnBits u.wrong u.stored else u.stored

/-- The status a read finds (R184). -/
def StoreUnit.status (u : StoreUnit) : UnitStatus :=
  match u.health with
  | .double => .uncorrectable
  | .clean => if u.bytes = erasedBytes then .erased else .programmed
  | .single => if u.bytes = erasedBytes then .erased else .corrected

/-- A unit of the store. -/
def Store.unit (r : Store) (area : Fin 6) (unit : Fin 64) : StoreUnit := r.units[unitIndex area unit]

/-- The status of a unit of the store. -/
def Store.statusOf (r : Store) (area : Fin 6) (unit : Fin 64) : UnitStatus := (r.unit area unit).status

/-- A read of a unit: its status, its content, and the event it reports (R184). -/
def State.readUnit (area : Fin 6) (unit : Fin 64) (s : State) : StoreUnit × State :=
  let u := s.store.unit area unit
  (u, match u.health with
    | .clean => s
    | .single => s.storeEvent area unit .single
    | .double => s.storeEvent area unit .double)

/-- A unit written with its check code: the bits that the write leaves wrong are those of the unit's next flaw, none
when it has no more (R183, R190, assumption log 6). -/
def StoreUnit.write (bytes : Vector Byte 16) (u : StoreUnit) : StoreUnit :=
  let w := u.flaws.headD 0
  { stored := turnBits w bytes
    check := Config.storeCheck bytes ^^^ w.extractLsb' 128 9
    wrong := w
    flaws := u.flaws.tail }

/-- A store operation is in flight (R192). -/
def Store.busy (r : Store) : Bool := r.op.isSome

/-- The area of an operation. -/
def StoreOp.area : StoreOp → Fin 6
  | .program a _ _ _ => a
  | .erase a _ => a

/-- Programs and erases of an area are answered LOCKED (R190, R191, R193). -/
def Store.lockedArea (r : Store) (area : Fin 6) : Bool :=
  area = 0 || (r.locked && area ≠ 5)

/-! ## Commands -/

/-- STORE_READ at the store (R189). -/
def storeRead (area unit : Byte) (s : State) : Reply :=
  match indexed 6 area, indexed 64 unit with
  | some a, some u =>
    if (s.store.op.map StoreOp.area) = some a then s.refuse .busy
    else
      let (x, s) := s.readUnit a u
      s.ok (byte1 x.status.number :: x.bytes.toList)
  | _, _ => s.refuse .badParam

/-- The 16 content bytes of a program. -/
def contentOf (l : List Byte) : Vector Byte 16 := Vector.ofFn fun i => l[i.val]?.getD 0xFF

/-- STORE_PROGRAM at the store (R190). -/
def storeProgram (area unit : Byte) (content : List Byte) (s : State) : Reply :=
  match indexed 6 area, indexed 64 unit with
  | some a, some u =>
    if s.store.lockedArea a then s.refuse .locked
    else if s.store.busy then s.refuse .busy
    else
      let (x, s) := s.readUnit a u
      if x.status ≠ .erased then s.refuse .programAgain
      else
        { state := s.modStore fun r =>
            { r with op := some (.program a u (contentOf content) (some Config.programTime)) }
          status := .accepted, data := [] }
  | _, _ => s.refuse .badParam

/-- STORE_ERASE at the store (R191). -/
def storeErase (area : Byte) (s : State) : Reply :=
  match indexed 6 area with
  | none => s.refuse .badParam
  | some a =>
    if s.store.lockedArea a then s.refuse .locked
    else if s.store.busy then s.refuse .busy
    else
      { state := s.modStore fun r => { r with op := some (.erase a (some Config.eraseTime)) }
        status := .accepted, data := [] }

/-- The operation record as STORE_STATUS returns it (R192, assumption log 12). -/
def Store.bytes (r : Store) : List Byte :=
  (match r.op with
    | none => [1, 0xFF, 0xFF] ++ bytes2 0
    | some (.program a u _ t) => [2, byte1 a.val, byte1 u.val] ++ bytes2 (t.getD 0)
    | some (.erase a t) => [3, byte1 a.val, 0xFF] ++ bytes2 (t.getD 0)) ++
  (match r.last with
    | none => [0, 0xFF, 0xFF, 0]
    | some (.program a u st) => [1, byte1 a.val, byte1 u.val, byte1 st.number]
    | some (.erase a count first) =>
      [2, byte1 a.val, byte1 count, (first.map fun u => byte1 u.val).getD 0xFF]) ++
  [flagByte r.locked]

/-- STORE_STATUS at the store (R192). -/
def storeStatus (s : State) : Reply := s.ok s.store.bytes

/-- STORE_READ (R189). -/
def execStoreRead (p : PortId) (area unit : Byte) (s : State) : Host.Outcome State Fault Refusal :=
  .next (s.command p 0x68 true (storeRead area unit))

/-- STORE_PROGRAM (R190): the parameter length is that of area, unit and 16 bytes. -/
def execStoreProgram (p : PortId) (area unit : Byte) (content : List Byte) (s : State) :
    Host.Outcome State Fault Refusal :=
  .next (s.command p 0x69 (content.length == 16) (storeProgram area unit content))

/-- STORE_ERASE (R191). -/
def execStoreErase (p : PortId) (area : Byte) (s : State) : Host.Outcome State Fault Refusal :=
  .next (s.command p 0x6A true (storeErase area))

/-- STORE_STATUS (R192). -/
def execStoreStatus (p : PortId) (s : State) : Host.Outcome State Fault Refusal :=
  .next (s.command p 0x6B true storeStatus)

/-! ## Completions (R190, R191) -/

/-- The units of a list read in order (R184). -/
def State.readUnits (units : List (Fin 384)) (s : State) : State :=
  s.each units fun i s => (s.readUnit (areaOf i) (unitOf i)).2

/-- The places of the units of an area, in ascending order. -/
def areaUnits (area : Fin 6) : List (Fin 384) := (List.finRange 64).map (unitIndex area)

/-- A program completes: the unit written, read back, and reported (R190). -/
def State.completeProgram (area : Fin 6) (unit : Fin 64) (content : Vector Byte 16) (s : State) : State :=
  let s := s.modStore fun r =>
    { r with units := upd r.units (unitIndex area unit) (StoreUnit.write content) }
  let (u, s) := s.readUnit area unit
  (s.modStore fun r =>
    { r with op := none, last := some (.program area unit u.status) }).raiseBooth .storeDone

/-- Every unit of an area returned to the erased pattern (R191). -/
def Store.eraseArea (area : Fin 6) (r : Store) : Store :=
  { r with
    units := Vector.ofFn fun i =>
      if areaOf i = area then StoreUnit.write erasedBytes r.units[i] else r.units[i] }

/-- The units of an area that do not read ERASED (R191). -/
def Store.notErased (area : Fin 6) (r : Store) : List (Fin 64) :=
  (List.finRange 64).filter fun u => r.statusOf area u ≠ .erased

/-- An erase completes: every unit erased, read back in ascending order, and reported (R191). -/
def State.completeErase (area : Fin 6) (s : State) : State :=
  let s := (s.modStore (Store.eraseArea area)).readUnits (areaUnits area)
  let bad := s.store.notErased area
  (s.modStore fun r =>
    { r with op := none, last := some (.erase area bad.length bad.head?) }).raiseBooth .storeDone

/-! ## The scan of the start-up check (R194) -/

/-- What the scan finds in the store (R194). -/
def Store.scanResult (r : Store) : ScanResult :=
  let all := List.finRange 384
  { corrected := all.countP fun i => r.units[i].health = .single
    firstBad := (all.find? fun i => r.units[i].health = .double).map fun i => (areaOf i, unitOf i)
    identity :=
      if r.statusOf 0 0 = .uncorrectable then none else some ((r.unit 0 0).bytes.toList.take 11) }

/-- The scan: every unit read in order, its results kept for the start-up report (R194). -/
def State.scanStore (s : State) : State :=
  (s.readUnits (List.finRange 384)).modSys fun y => { y with scan := s.store.scanResult }

/-- What a power-on reset leaves of an operation in flight: the units it was writing read UNCORRECTABLE, holding bytes
and check codes that the manual does not give. Which two bits stand as wrong shows nowhere (R194, assumption log 5). -/
def Store.interrupt (k : Nat) (r : Store) : Store :=
  let spoil (i : Fin 384) (u : StoreUnit) : StoreUnit :=
    { u with
      stored := Vector.ofFn fun j => Config.interruptedByte k i.val j.val
      check := Config.interruptedCheck k i.val
      wrong := 3 }
  match r.op with
  | none => r
  | some (.program area unit _ _) =>
    { r with units := upd r.units (unitIndex area unit) (spoil (unitIndex area unit)) }
  | some (.erase area _) =>
    { r with
      units := Vector.ofFn fun i => if areaOf i = area then spoil i r.units[i] else r.units[i] }

end Sys2Proof.Machine
end

