-- ==== Sys2Proof/Machine/OpenNight.lean ====
section
/-!
DEFINITION. What OPEN_NIGHT reads from the standing store: the site settings, the prices, the layout and the
default shows, with the checks of R22, R159 and R188, and the blocks it sets (R160).
-/

namespace Sys2Proof.Machine

open Sys2Proof

/-! ## Fields of units -/

/-- The number that `width` bytes from `off` hold, most significant first. -/
def numberAt (b : Vector Byte 16) (off width : Nat) : Nat :=
  (List.range width).foldl (fun n j => 256 * n + (b[off + j]?.getD 0).toNat) 0

/-- The content of a unit that reads PROGRAMMED or CORRECTED. -/
def Store.content (r : Store) (area : Fin 6) (unit : Fin 64) : Option (Vector Byte 16) :=
  match r.statusOf area unit with
  | .programmed | .corrected => some (r.unit area unit).bytes
  | .erased | .uncorrectable => none

/-! ## SITE (R186) -/

/-- Where a site setting stands in the SITE area: its unit, first byte and width (Formats). -/
structure SitePlace where
  setting : Config.Setting
  unit : Fin 64
  off : Nat
  width : Nat

/-- The site settings and their places (R186, Formats). -/
def sitePlaces : List SitePlace :=
  [⟨Config.presenceTime, 1, 0, 2⟩, ⟨Config.barrierTime, 1, 2, 1⟩, ⟨Config.voidTime, 1, 3, 2⟩,
    ⟨Config.stuckTime, 1, 5, 2⟩, ⟨Config.startTimeout, 2, 0, 1⟩, ⟨Config.graceTime, 2, 1, 2⟩,
    ⟨Config.carrierFaultTime, 3, 0, 2⟩, ⟨Config.announceTime, 3, 2, 1⟩,
    ⟨Config.quarantineTime, 3, 3, 2⟩, ⟨Config.onTime, 4, 0, 1⟩, ⟨Config.dropoutTime, 4, 1, 1⟩,
    ⟨Config.maximumHold, 4, 2, 2⟩, ⟨Config.offTime, 4, 4, 1⟩, ⟨Config.cycleTime, 4, 5, 2⟩,
    ⟨Config.interKeyTime, 4, 7, 2⟩, ⟨Config.orderLimit, 5, 0, 1⟩, ⟨Config.tabLimit, 5, 1, 3⟩,
    ⟨Config.tripTime, 5, 4, 2⟩, ⟨Config.patrolPeriod, 6, 0, 2⟩, ⟨Config.acknowledgeTime, 6, 2, 1⟩,
    ⟨Config.wakeTime, 6, 3, 1⟩]

/-- The value a place gives: the default where its unit is ERASED (R186). -/
def Store.siteValue (r : Store) (p : SitePlace) : Nat :=
  match r.content 2 p.unit with
  | some b => numberAt b p.off p.width
  | none => p.setting.default

/-- The value of the setting in place `k` of the list. -/
def Store.siteNumber (r : Store) (k : Nat) : Nat := ((sitePlaces[k]?).map r.siteValue).getD 0

/-- The role of a lane: lanes 1 and 2 ENTRY, lanes 3 and 4 EXIT where unit 0 is ERASED (R186). -/
def Store.role (r : Store) (n : Fin 4) : LaneRole :=
  match r.content 2 0 with
  | some b => (LaneRole.ofByte b[n.val]).getD .unused
  | none => if n.val < 2 then .entry else .exit

/-- A unit of SITE holds only values in range (R186). -/
def Store.siteUnitGood (r : Store) (unit : Fin 64) : Bool :=
  if unit = 0 then
    match r.content 2 0 with
    | some b => (List.finRange 4).all fun n => (LaneRole.ofByte b[n.val]).isSome
    | none => true
  else sitePlaces.all fun p => p.unit ≠ unit || p.setting.admits (r.siteValue p)

/-- The first unit of SITE that holds an out-of-range value (R159 step 4). -/
def Store.siteFault (r : Store) : Option (Fin 64) :=
  ((List.finRange 64).take 7).find? fun u => !r.siteUnitGood u

/-! ## PRICES and CHANNELS (R187) -/

/-- The price field of an item as stored: 0 where its unit is ERASED or the field holds the erased value. -/
def Store.price (r : Store) (item : Fin 100) : Nat :=
  match r.content 3 (Fin.ofNat 64 (item.val / 8)) with
  | some b =>
    let v := numberAt b (2 * (item.val % 8)) 2
    if v = 0xFFFF then 0 else v
  | none => 0

/-- The first unit of PRICES that holds a price above 9,999 cents (R159 step 5). -/
def Store.priceFault (r : Store) : Option (Fin 64) :=
  ((List.finRange 100).find? fun i => Config.priceLimit < r.price i).map
    fun i => Fin.ofNat 64 (i.val / 8)

/-- The permitted flag of a channel; every channel is permitted where unit 0 is ERASED (R187, Formats). -/
def Store.permitted (r : Store) (c : Fin 12) : Bool :=
  match r.content 4 0 with
  | some b => (numberAt b 0 2).testBit c.val
  | none => true

/-! ## LAYOUT (R20, R22) -/

/-- The field count of the layout (Formats). -/
def Store.fieldCount (r : Store) : Nat :=
  match r.content 1 0 with
  | some b => numberAt b 0 1
  | none => 0xFF

/-- The units of the fields of the layout, those of fields 1 to the field count. -/
def Store.fieldUnits (r : Store) : List (Fin 64) :=
  ((List.finRange 64).drop 1).take r.fieldCount

/-- The first unit of a field whose entries fail a check; an ERASED unit holds no entry (R22, assumption log 13). -/
def Store.firstField (r : Store) (bad : Vector Byte 16 → Bool) : Option (Fin 64) :=
  r.fieldUnits.find? fun u =>
    match r.content 1 u with
    | some b => bad b
    | none => false

/-- The field record of a unit of LAYOUT, its first index not yet reckoned (R20). -/
def fieldOf (b : Vector Byte 16) : Option Field :=
  match Pattern.ofByte b[1], numbered 12 b[2] with
  | some p, some home =>
    some { rowCount := b[0].toNat, pattern := p, home := home, capacity := b[3].toNat
           ordersDuringFeature := b[4] != 0, stallCount := p.stallCount b[0].toNat, firstIndex := 0 }
  | _, _ => none

/-- The fields of the layout in order, each with its first index (R20). -/
def placeFields : Nat → List (Option Field) → List (Option Field)
  | _, [] => []
  | first, none :: rest => none :: placeFields first rest
  | first, some f :: rest =>
    some { f with firstIndex := first } :: placeFields (first + f.stallCount) rest

/-- The fields that the layout gives (R20). -/
def Store.fields (r : Store) : List (Option Field) :=
  placeFields 0 (r.fieldUnits.map fun u => (r.content 1 u).bind fieldOf)

/-- The stalls of all fields (R22). -/
def Store.stallTotal (r : Store) : Nat :=
  (r.fields.map fun f => (f.map Field.stallCount).getD 0).sum

/-- The unit that holds the first failing entry of the layout, in the order of the list of R22. -/
def Store.layoutFault (r : Store) : Option (Fin 64) :=
  if ¬ (1 ≤ r.fieldCount ∧ r.fieldCount ≤ 6) then some 0
  else
    r.firstField (fun b => ¬ (1 ≤ b[0].toNat ∧ b[0].toNat ≤ 8)) <|>
    r.firstField (fun b => (Pattern.ofByte b[1]).isNone) <|>
    r.firstField (fun b => match Pattern.ofByte b[1] with
      | some p => b[0].toNat < p.leastRows
      | none => false) <|>
    r.firstField (fun b => 8 < b[3].toNat) <|>
    r.firstField (fun b => (numbered 12 b[2]).isNone) <|>
    (r.fieldUnits.find? fun u => r.statusOf 1 u = .erased) <|>
    (if 1024 < r.stallTotal then some 0 else none)

/-! ## The checks of OPEN_NIGHT (R159) -/

/-- The first unit of areas 1 to 4 that reads UNCORRECTABLE (R159 step 3). -/
def Store.badUnit (r : Store) : Option (Fin 6 × Fin 64) :=
  ((((List.finRange 384).drop 64).take 256).find? fun i => r.units[i].status = .uncorrectable).map
    fun i => (areaOf i, unitOf i)

/-- The unit that refuses OPEN_NIGHT, by the checks of R159 steps 3 to 6 in order. -/
def Store.nightFault (r : Store) : Option (Fin 6 × Fin 64) :=
  r.badUnit <|> (r.siteFault.map fun u => (2, u)) <|> (r.priceFault.map fun u => (3, u)) <|>
    (r.layoutFault.map fun u => (1, u))

/-! ## Building the lot (R23) -/

/-- The FREE stalls of a kind in a field (R23 step 6). -/
def Field.kindCount (f : Field) (k : StallKind) : Nat :=
  ((List.range f.rowCount).map fun row =>
    if f.pattern.kind f.rowCount (row + 1) = k then k.rowLength else 0).sum

/-- The twelve tallies of a field with every stall FREE (R23 step 6). -/
def freeTallies (f : Option Field) : Vector Nat 12 :=
  match f with
  | none => Vector.replicate 12 0
  | some f =>
    let zero : Vector Nat 12 := Vector.replicate 12 0
    [StallKind.front, .standard, .high].foldl
      (fun t k => upd t (tallyIndex k .free) fun _ => f.kindCount k) zero

/-- The units of the layout that OPEN_NIGHT loads: the field count and the fields (R20, R185). -/
def Store.layoutUnits (r : Store) : List (Fin 384) := (0 :: r.fieldUnits).map (unitIndex 1)

/-- The lot built from the layout (R23); its units are read as they are loaded (R184, assumption log 14). -/
def State.buildLot (s : State) : State :=
  let s := s.readUnits s.store.layoutUnits
  let fs := s.store.fields
  let fields : Vector (Option Field) 6 := Vector.ofFn fun n => (fs[n.val]?).join
  let lot : LotMap :=
    { fields := fields
      occupants := Vector.replicate 1024 none
      counted := Vector.replicate 1024 .free
      tallies := fields.map freeTallies
      queues := Vector.replicate 6 [] }
  (s.modLot fun _ => lot).modMem fun m =>
    { m with
      stalls := Vector.ofFn fun i =>
        ((m.stalls[i]).write ((lot.place i).getD Stall.unusedPattern)).unmark
      stallMarks := 0 }

/-! ## Loading the blocks (R160 steps 3 and 4) -/

/-- The units that the settings, the prices and the channel plan are loaded from: units 1 to 6 of SITE, 0 to 12 of PRICES
and 0 of CHANNELS (R186, R187). -/
def settingUnits : List (Fin 384) :=
  (((List.finRange 64).drop 1).take 6).map (unitIndex 2) ++
    ((List.finRange 64).take 13).map (unitIndex 3) ++ [unitIndex 4 0]

/-- The settings of SITE loaded into the blocks that use them, the prices and the channel plan (R160 step 3); their
units are read as they are loaded (R184, assumption log 14). -/
def State.loadSettings (s : State) : State :=
  let s := s.readUnits settingUnits
  let r := s.store
  let v := r.siteNumber
  let s := s.modGate fun g =>
    { g with presenceTime := v 0, barrierTime := v 1, voidTime := v 2, stuckTime := v 3 }
  let s := s.modShows fun c => { c with startTimeout := v 4, graceTime := v 5 }
  let s := s.modChans fun c =>
    { c with
      faultTime := v 6, announceTime := v 7, quarantineTime := v 8
      channels := c.channels.mapFinIdx fun i x h => { x with permitted := r.permitted ⟨i, h⟩ } }
  let s := s.modPosts fun p =>
    { p with onTime := v 9, dropoutTime := v 10, maximumHold := v 11, offTime := v 12,
             cycleTime := v 13, interKeyTime := v 14 }
  let s := s.modOrds fun o =>
    { o with orderLimit := v 15, tabLimit := v 16, tripTime := v 17, prices := Vector.ofFn r.price }
  let s := s.modMem fun m => { m with patrolPeriod := v 18, patrolTimer := some (v 18) }
  s.modDoms fun d => { d with acknowledgeTime := v 19, wakeTime := v 20 }

/-- A runner made ready for the night or by FORCE_CLOSE: an OUT runner becomes AVAILABLE (R148). -/
def Runner.makeReady (r : Runner) : Runner :=
  { r with
    state := if r.state = .out then .available else r.state
    carried := [], tripStart := none, late := false, tripTimer := none }

/-! ## The default shows (R84, R188) -/

/-- The header unit of a screen's default show (R188). -/
def headerUnit (n : Fin 6) : Fin 64 := ⟨4 * n.val, by omega⟩

/-- Segment unit `j` of a screen's default show, counted from 0 (R188). -/
def segmentUnit (n : Fin 6) (j : Fin 3) : Fin 64 := ⟨4 * n.val + 1 + j.val, by omega⟩

/-- Segment `k`, counted from 0, of a screen's default show (R188). -/
def Store.showSegment (r : Store) (n : Fin 6) (k : Nat) : Option Segment :=
  (r.content 5 (segmentUnit n (Fin.ofNat 3 (k / 3)))).map fun b =>
    Segment.ofWord (BitVec.ofNat 32 (numberAt b (4 * (k % 3)) 4))

/-- The segment count and start time of a screen's header unit, when both are good (R188). -/
def Store.showHeader (r : Store) (n : Fin 6) : Option (Nat × Option Nat) :=
  match r.content 5 (headerUnit n) with
  | none => none
  | some b =>
    let count := numberAt b 0 1
    match startTime (BitVec.ofNat 24 (numberAt b 1 3)) with
    | some t => if 1 ≤ count ∧ count ≤ 8 then some (count, t) else none
    | none => none

/-- The segment units that a count of segments needs (R188). -/
def segmentUnits (n : Fin 6) (count : Nat) : List (Fin 384) :=
  ((List.finRange 3).take ((count + 2) / 3)).map fun j => unitIndex 5 (segmentUnit n j)

/-- The default show of a screen, when it is usable: its list and start time (R188). -/
def Store.defaultShow (r : Store) (n : Fin 6) : Option (List Segment × Option Nat) :=
  match r.showHeader n with
  | none => none
  | some (count, t) =>
    match (List.range count).mapM (r.showSegment n) with
    | some l => if goodList l then some (l, t) else none
    | none => none

/-- The units of a default show read: the header, and when it is good the segment units it needs (R184, assumption log
14). -/
def State.readShow (n : Fin 6) (s : State) : State :=
  let s := s.readUnits [unitIndex 5 (headerUnit n)]
  match s.store.showHeader n with
  | some (count, _) => s.readUnits (segmentUnits n count)
  | none => s

/-- A screen at step 5 of OPEN_NIGHT (R84, R160). -/
def State.openScreen (n : Fin 6) (s : State) : State :=
  if s.lot.fields[n].isNone then s
  else
    let s := s.readShow n
    match s.store.defaultShow n with
    | some (l, t) => ((s.storeShow n l t).leaveDark n).examineStart n
    | none => s

/-! ## The lanes at OPEN_NIGHT (R64) -/

/-- A lane with its binding, fault and timers cleared and RAISE low, PRESENT or IDLE by loop A (R64). A lane of role
UNUSED is IDLE. -/
def Lane.tearDown (l : Lane) : Lane :=
  { l with
    state := if l.role = .unused then .idle else l.restState
    bound := none, cause := none, faultedFrom := none, raise := false
    barrierTimer := none, stuckTimer := none, voidTimer := none, returnTimer := none }

/-- A lane at OPEN_NIGHT, with LANE_PRESENT when it is set PRESENT (R64). -/
def State.openLane (n : Fin 4) (s : State) : State :=
  (s.modLane n fun l =>
    { l with role := s.store.role n, passes := 0, tailgates := 0, voids := 0 }.tearDown).announcePresent n

/-- The lanes and the screens' counts at OPEN_NIGHT; unit 0 of SITE is read as the roles are loaded (R64, R184). -/
def State.openLanes (s : State) : State :=
  ((s.readUnits [unitIndex 2 0]).each (List.finRange 4) State.openLane).modGate fun g =>
    { g with live := Vector.replicate 6 0, admitted := Vector.replicate 6 0 }

end Sys2Proof.Machine
end

