-- ==== Sys2Proof/Machine/Night.lean ====
section
/-!
DEFINITION. The night commands: OPEN_NIGHT, CLOSE_NIGHT, FORCE_CLOSE and READ_TOTALS (R157 to R166).
-/

namespace Sys2Proof.Machine

open Sys2Proof

/-! ## OPEN_NIGHT (R159, R160) -/

/-- The four totals and the clock at 0 (R160 step 1). -/
def Night.opening (n : Night) : Night :=
  { n with clock := 0, takings := 0, writeOffs := 0, forced := 0, delivered := 0 }

/-- A screen at OPEN_NIGHT before its default show: its list, segment, start time and reasons cleared (R84). -/
def Screen.opening (c : Screen) : Screen :=
  { c with list := [], current := none, start := none, reasons := HoldReasons.none, remaining := none,
           overrun := false }

/-- The night becomes OPEN (R160 steps 8 and 9). -/
def State.nightOpens (s : State) : State :=
  (((s.modStore fun r => { r with locked := true }).modNight fun n =>
    { n with state := .opened, secondTimer := seconds 1 }).recomputeWindows).showAllWords

/-- The steps of OPEN_NIGHT in order (R160). -/
def State.openSteps (s : State) : State :=
  let s := (s.modNight Night.opening).buildLot.loadSettings.openRows
  let s := s.modOrds fun o => { o with runners := o.runners.map Runner.makeReady }
  let s := s.modShows fun c => { c with screens := c.screens.map Screen.opening }
  let s := s.each (List.finRange 6) State.openScreen
  s.openLanes.nightOpens

/-- OPEN_NIGHT at the night unit (R159, R160). Its checks read each unit of areas 1 to 4 once, whatever is found, and its
steps read again what they load (R184, assumption log 14). -/
def openNight (s : State) : Reply :=
  if s.night.state ≠ .closed then s.refuse .badState
  else if s.store.busy then s.refuse .busy
  else
    let s := s.readUnits (((List.finRange 384).drop 64).take 256)
    match s.store.nightFault with
    | some (area, unit) =>
      { state := s, status := .storeFault, data := [byte1 area.val, byte1 unit.val] }
    | none =>
      s.openSteps.ok (byte1 s.store.fieldCount :: bytes2 s.store.stallTotal)

/-! ## CLOSE_NIGHT (R161) -/

/-- CLOSE_NIGHT at the night unit (R161). -/
def closeNightCommand (s : State) : Reply :=
  match s.night.state with
  | .closed => s.refuse .badState
  | .closing => s.ok [byte1 NightState.closing.number]
  | .opened =>
    let s := ((s.modNight fun n => { n with state := .closing }).recomputeWindows).examineClose
    s.ok [byte1 s.night.state.number]

/-! ## FORCE_CLOSE (R163) -/

/-- Every live order retired, in ascending slots: the amount written off (R148, R163 step 1, assumption log 15). -/
def State.tearOrders : List (Fin 256) → State → Nat × State
  | [], s => (0, s)
  | k :: rest, s =>
    let (x, s) := s.readOrder k
    let (n, s) := (s.retireOrderSlot k).tearOrders rest
    (((x.map Order.unpaid).getD 0) + n, s)

/-- A held stall emptied: FREE, CLOSED for the operator when close pending was set, or as its rebuild leaves it
(R39). The close fields of a stall that becomes FREE are written as they were (assumption log 42). -/
def State.tearStall (i : Fin 1024) (s : State) : State :=
  if (s.lot.occupants[i]).isNone then s
  else
    let s := s.modLot fun l => { l with occupants := upd l.occupants i fun _ => none }
    let (x, s) := s.readStall i
    if x.closePending then
      s.writeStall i fun x => { x with closed := true, closePending := false, cause := some .operator }
    else if x.closed then s
    else s.writeStall i fun x => { x with cause := none }

/-- The lot at FORCE_CLOSE: the queues emptied and every held stall emptied, in ascending index (R39, assumption log
15). -/
def State.tearLot (s : State) : State :=
  (s.modLot fun l => { l with queues := Vector.replicate 6 [] }).each s.lot.stallsInUse State.tearStall

/-- A lane at FORCE_CLOSE; LANE_PRESENT when it comes to PRESENT from another state (R64, R164). -/
def State.tearLane (n : Fin 4) (s : State) : State :=
  let was := s.gate.lanes[n].state
  let s := s.modLane n Lane.tearDown
  if was = .present then s else s.announcePresent n

/-- A screen at FORCE_CLOSE becomes DARK (R84). -/
def State.tearScreen (n : Fin 6) (s : State) : State :=
  (s.modScreen n fun c =>
    { c with current := none, start := none, reasons := HoldReasons.none, remaining := none,
             overrun := false, startTimer := none }).setShow n .dark

/-- A channel at FORCE_CLOSE: one that is HELD becomes FREE (R104). -/
def Channel.letGo (c : Channel) : Channel :=
  match c.state with
  | .held _ _ => { c with state := .free }
  | .free | .quarantined _ => c

/-- A screen's sound at FORCE_CLOSE: it stops wanting and is OFF (R89, R104). -/
def State.tearSound (n : Fin 6) (s : State) : State :=
  (s.modSound n fun r => { r with wanting := false, announceTimer := none }).setSound n .off

/-- The orders, runners and admissions torn down (R163 steps 1 to 3): the amount written off and the forced count
added. -/
def State.tearRecords (s : State) : Nat × Nat × State :=
  let (n, s) := s.tearOrders s.liveOrders
  let s := (s.modOrds fun o =>
    { o with kitchen := [], runners := o.runners.map Runner.makeReady }).writeOff n
  let entered := s.liveAdms.countP fun a => (s.boundLane a .entry).isNone
  let s := s.tearLot.each s.liveAdms State.retireAdmSlot
  (n, entered, (s.modGate fun g => { g with live := Vector.replicate 6 0 }).modNight fun x =>
    { x with forced := x.forced + entered })

/-- The lanes, screens and sounds torn down (R163 steps 4 and 5). -/
def State.tearSite (s : State) : State :=
  let s := s.each (List.finRange 4) State.tearLane
  let s := s.each (List.finRange 6) State.tearScreen
  let s := s.modChans fun m => { m with channels := m.channels.map Channel.letGo }
  s.each (List.finRange 6) State.tearSound

/-- FORCE_CLOSE at the night unit (R163). Its ten bytes are the two counts in 2 bytes each, the amount in 4 and the
forced count added in 2 (assumption log 38). -/
def forceClose (s : State) : Reply :=
  if s.night.state = .closed then s.refuse .badState
  else
    let orders := 256 - s.mem.orderFree.length
    let adms := 1024 - s.mem.admFree.length
    let (n, entered, s) := s.tearRecords
    s.tearSite.closeNight.ok (bytes2 orders ++ bytes2 adms ++ bytes4 n ++ bytes2 entered)

/-! ## READ_TOTALS (R166) -/

/-- READ_TOTALS at the night unit (R166). -/
def readTotals (s : State) : Reply :=
  let n := s.night
  s.ok ([byte1 n.state.number] ++ bytes3 n.clock ++ bytes4 n.takings ++ bytes4 n.writeOffs ++
    bytes3 n.forced ++ bytes4 n.delivered ++ bytes2 (1024 - s.mem.admFree.length) ++
    bytes2 (256 - s.mem.orderFree.length) ++
    [byte1 (s.shows.screens.toList.countP fun c => c.state ≠ .dark)])

/-! ## Port commands -/

/-- OPEN_NIGHT (R159). -/
def execOpenNight (p : PortId) (s : State) : Host.Outcome State Fault Refusal :=
  .next (s.command p 0x58 true openNight)

/-- CLOSE_NIGHT (R161). -/
def execCloseNight (p : PortId) (s : State) : Host.Outcome State Fault Refusal :=
  .next (s.command p 0x59 true closeNightCommand)

/-- FORCE_CLOSE (R163). -/
def execForceClose (p : PortId) (s : State) : Host.Outcome State Fault Refusal :=
  .next (s.command p 0x5A true forceClose)

/-- READ_TOTALS (R166). -/
def execReadTotals (p : PortId) (s : State) : Host.Outcome State Fault Refusal :=
  .next (s.command p 0x5B true readTotals)

end Sys2Proof.Machine
end

