-- ==== Sys2Proof/Machine/Ports.lean ====
section
/-!
DEFINITION. The commands of the ports themselves (R200, R204, R208), the integrity commands (R19) and the patrol
(R11, R16).
-/

namespace Sys2Proof.Machine

open Sys2Proof

/-! ## Commands of the ports -/

/-- NOP (R200). -/
def nopCommand (s : State) : Reply := s.ok []

/-- READ_PORT: the identity and the flags, which are then cleared (R200). -/
def readPort (p : PortId) (s : State) : Reply :=
  (s.modPort p Port.clearFlags).ok [PortId.identity p, (s.port p).flagByte]

/-- READ_ATTENTION: the set, which is then emptied (R204). -/
def readAttention (p : PortId) (s : State) : Reply :=
  (s.modPort p Port.takeAttention).ok (bytes3 (s.port p).attention.toNat)

/-- SET_ATTENTION_MASK (R204). -/
def setAttentionMask (p : PortId) (mask : Word24) (s : State) : Reply :=
  if mask &&& ~~~PortId.kinds p ≠ 0 then s.refuse .badParam
  else (s.modPort p (Port.setMask mask)).ok (bytes3 mask.toNat)

/-- The start-up report as READ_REPORT returns it (R208, Formats). -/
def Report.bytes (r : Report) : List Byte :=
  [bitsByte [r.failing != 0, r.scan.identity.isNone]] ++ bytes2 r.failing ++ bytes2 r.scan.corrected ++
    (match r.scan.firstBad with
      | some (area, unit) => [byte1 area.val, byte1 unit.val]
      | none => [0xFF, 0xFF]) ++
    (r.scan.identity.getD (List.replicate 11 0))

/-- READ_REPORT (R208). -/
def readReport (s : State) : Reply := s.ok s.sys.report.bytes

/-- NOP (R200). -/
def execNop (p : PortId) (s : State) : Host.Outcome State Fault Refusal :=
  .next (s.command p 0x00 true nopCommand)

/-- READ_PORT (R200). -/
def execReadPort (p : PortId) (s : State) : Host.Outcome State Fault Refusal :=
  .next (s.command p 0x01 true (readPort p))

/-- READ_ATTENTION (R204). -/
def execReadAttention (p : PortId) (s : State) : Host.Outcome State Fault Refusal :=
  .next (s.command p 0x02 true (readAttention p))

/-- SET_ATTENTION_MASK (R204). -/
def execSetAttentionMask (p : PortId) (mask : Word24) (s : State) : Host.Outcome State Fault Refusal :=
  .next (s.command p 0x03 true (setAttentionMask p mask))

/-- READ_REPORT (R208). -/
def execReadReport (p : PortId) (s : State) : Host.Outcome State Fault Refusal :=
  .next (s.command p 0x04 true readReport)

/-! ## The integrity monitor (R18, R19) -/

/-- The number of an event's source: ADMISSION, ORDER, STALL, STORE (R18). -/
def EventPlace.source : EventPlace → Nat
  | .admission _ => 1
  | .order _ => 2
  | .stall _ => 3
  | .store _ _ => 4

/-- The location of an event: the slot, or the area and unit (R18). -/
def EventPlace.location : EventPlace → List Byte
  | .admission a => bytes2 a.val
  | .order o => bytes2 o.val
  | .stall i => bytes2 i.val
  | .store area unit => [byte1 area.val, byte1 unit.val]

/-- The number of an event's kind: SINGLE, DOUBLE (R18). -/
def EventKind.number : EventKind → Nat
  | .single => 1
  | .double => 2

/-- READ_INTEGRITY (R19). With an empty trap the source, the two location bytes and the kind are 0 (assumption log
35). -/
def readIntegrity (s : State) : Reply :=
  s.ok (bytes2 s.mon.count ++
    (match s.mon.trap with
      | none => [0, 0, 0, 0, 0]
      | some (place, kind) => [1, byte1 place.source] ++ place.location ++ [byte1 kind.number]) ++
    bytes2 s.mem.admMarks ++ bytes2 s.mem.orderMarks ++ bytes2 s.mem.stallMarks)

/-- CLEAR_INTEGRITY (R19). -/
def clearIntegrity (s : State) : Reply := (s.modMon fun _ => Monitor.reset).ok []

/-- READ_INTEGRITY (R19). -/
def execReadIntegrity (p : PortId) (s : State) : Host.Outcome State Fault Refusal :=
  .next (s.command p 0x08 true readIntegrity)

/-- CLEAR_INTEGRITY (R19). -/
def execClearIntegrity (p : PortId) (s : State) : Host.Outcome State Fault Refusal :=
  .next (s.command p 0x09 true clearIntegrity)

/-! ## The patrol (R11, R16) -/

/-- The health of a free or unused slot, found by the patrol: an error is reported, and the slot rewritten with its
clean pattern (R11). -/
def State.patrolFree (place : EventPlace) (h : Health) (rewrite : State → State) (s : State) : State :=
  match h with
  | .clean => s
  | .single => (rewrite s).event place .single
  | .double => (rewrite s).event place .double

/-- The patrol at an admission slot (R16). -/
def State.patrolAdm (a : Fin 1024) (s : State) : State :=
  if s.admLive a then (s.readAdm a).2
  else s.patrolFree (.admission a) s.mem.admissions[a].health
    (State.modAdmSlot a (Slot.write Admission.freePattern))

/-- The patrol at an order slot (R16). -/
def State.patrolOrder (o : Fin 256) (s : State) : State :=
  if s.orderLive o then (s.readOrder o).2
  else s.patrolFree (.order o) s.mem.orders[o].health
    (State.modOrderSlot o (Slot.write Order.freePattern))

/-- The patrol at a stall slot (R16). -/
def State.patrolStall (i : Fin 1024) (s : State) : State :=
  if s.lot.inUse i then (s.readStall i).2
  else s.patrolFree (.stall i) s.mem.stalls[i].health
    (State.modStallSlot i (Slot.write Stall.unusedPattern))

/-- The patrol at a position: admission slots, then stall slots, then order slots (R16). -/
def State.patrolAt (k : Fin 2304) (s : State) : State :=
  if k.val < 1024 then s.patrolAdm (Fin.ofNat 1024 k.val)
  else if k.val < 2048 then s.patrolStall (Fin.ofNat 1024 (k.val - 1024))
  else s.patrolOrder (Fin.ofNat 256 (k.val - 2048))

/-- The patrol moves on by one slot and its timer restarts (R16). -/
def RecordMemory.patrolNext (m : RecordMemory) : RecordMemory :=
  { m with patrolPosition := m.patrolPosition + 1, patrolTimer := some m.patrolPeriod }

/-- PATROL_READ (R16): the patrol timer expires. -/
def execPatrolRead (s : State) : Host.Outcome State Fault Refusal :=
  .next (s.whileRunning fun s =>
    if s.mem.patrolTimer.isSome then
      (s.patrolAt s.mem.patrolPosition).modMem RecordMemory.patrolNext
    else s)

end Sys2Proof.Machine
end

