-- ==== Sys2Proof/Machine/Resets.lean ====
section
/-!
DEFINITION. The resets and the start-up check (R205 to R207), and the completions of store operations, at which a
waiting PART_RESET is made.
-/

namespace Sys2Proof.Machine

open Sys2Proof

/-! ## After-reset values -/

/-- A select line through a reset: a frame in progress is abandoned (R205, R206). -/
def Link.abandon : Link → Link
  | .idle => .idle
  | .inFrame _ | .abandoned => .abandoned

/-- Every block at its after-reset values, the levels on the pins, the cells of the memories and the standing store as
they are (R205, R206). -/
def State.afterReset (s : State) : State :=
  { pending := s.pending
    sys := System.reset s.sys.interrupted
    booth := Port.reset boothKinds s.booth.link.abandon
    counter := Port.reset counterKinds s.counter.link.abandon
    mem := RecordMemory.reset (s.mem.admissions.map Slot.flaws) (s.mem.orders.map Slot.flaws)
      (s.mem.stalls.map Slot.flaws)
    mon := Monitor.reset
    lot := LotMap.reset
    gate := Gate.reset (s.gate.lanes.map fun l => Lane.reset l.loopA.raw l.loopB.raw l.up)
    shows := ShowControl.reset
      (s.shows.screens.map fun c => Screen.reset c.running.raw c.fault.raw c.mark.raw)
    chans := ChannelManager.reset (s.chans.sounds.map fun r => SoundRecord.reset r.carrierOk)
    disp := Display.reset
    posts := Posts.reset (s.posts.rows.map fun r => Row.reset r.finding)
    ords := OrderTable.reset
    night := Night.reset
    doms := DomainControl.reset (s.doms.domains.map fun d => Domain.reset d.ready.raw d.stopAck.raw)
    store := Store.reset s.store.units }

/-! ## The start-up check (R207) -/

/-- The pattern written to a slot, and written once more when it does not read back clean (R207). -/
def Slot.check {α : Type} (x : α) (slot : Slot α) : Slot α :=
  let once := slot.write x
  if once.health = .clean then once else once.write x

/-- The slot does not read back clean after the first write of the check (R207). -/
def Slot.fails {α : Type} (x : α) (slot : Slot α) : Bool := (slot.write x).health ≠ .clean

/-- The count of failing slots, those that read clean after the second write among them (R207). -/
def RecordMemory.failing (m : RecordMemory) : Nat :=
  m.admissions.toList.countP (Slot.fails Admission.freePattern) +
    m.orders.toList.countP (Slot.fails Order.freePattern) +
    m.stalls.toList.countP (Slot.fails Stall.unusedPattern)

/-- The record memory check: every slot written with its free or unused pattern, without an event (R207). -/
def RecordMemory.check (m : RecordMemory) : RecordMemory :=
  { m with
    admissions := m.admissions.map (Slot.check Admission.freePattern)
    orders := m.orders.map (Slot.check Order.freePattern)
    stalls := m.stalls.map (Slot.check Stall.unusedPattern) }

/-- The start-up check begins: every command is answered STARTING, the record memory is checked, and the store is
scanned (R194, R207, assumption log 20). -/
def State.startCheck (s : State) : State :=
  ((s.modSys fun y =>
    { y with phase := .checking, checkTimer := some Config.startUpTime, failing := s.mem.failing }).modMem
      RecordMemory.check).scanStore

/-- PART_RESET made (R205). -/
def State.partReset (s : State) : State := s.afterReset.startCheck

/-- POWER_ON_RESET (R194, R206): RESET_N falls, and the part is held in reset. -/
def State.powerOnReset (s : State) : State :=
  let k := s.sys.interrupted
  let s := if s.store.busy then
      (s.modStore (Store.interrupt k)).modSys fun y => { y with interrupted := k + 1 }
    else s
  s.afterReset

/-- POWER_ON_RESET (R206). -/
def execPowerOnReset (s : State) : Host.Outcome State Fault Refusal := .next s.powerOnReset

/-- RESET_RELEASE (R206): RESET_N rises, and the start-up check begins. -/
def execResetRelease (s : State) : Host.Outcome State Fault Refusal :=
  .next (if s.sys.phase = .held then s.startCheck else s)

/-! ## The end of the start-up check (R207) -/

/-- The inputs of a lane begin to be qualified (R41). -/
def Lane.startInputs (time : Nat) (l : Lane) : Lane :=
  { l with loopA := l.loopA.start time, loopB := l.loopB.start time }

/-- The inputs of a projector begin to be qualified (R68). -/
def Screen.startInputs (c : Screen) : Screen :=
  { c with
    running := c.running.start Config.projectorLevelTime
    fault := c.fault.start Config.projectorLevelTime
    mark := c.mark.start }

/-- The inputs begin to be qualified and taken, and each domain takes its first state (R207 step 3, R168). -/
def State.startInputs (s : State) : State :=
  let s := s.modGate fun g => { g with lanes := g.lanes.map (Lane.startInputs g.presenceTime) }
  let s := s.modShows fun c => { c with screens := c.screens.map Screen.startInputs }
  let s := s.modChans fun m =>
    { m with
      sounds := m.sounds.map fun r => { r with carrierLevel := r.carrierOk }
      secondTimer := seconds 1 }
  s.modDoms fun d => { d with domains := d.domains.map (Domain.first d.wakeTime) }

/-- The start-up check ends: the report is made, the patrol timer starts, and the part runs (R207). -/
def State.endCheck (s : State) : State :=
  let s := s.modSys fun y =>
    { y with phase := .running, checkTimer := none
             report := { failing := y.failing, scan := y.scan } }
  (s.modMem fun m => { m with patrolTimer := some m.patrolPeriod }).startInputs

/-- START_UP_CHECK_END (R207). -/
def execStartUpCheckEnd (s : State) : Host.Outcome State Fault Refusal :=
  .next (if s.sys.phase = .checking then s.endCheck else s)

/-! ## PART_RESET and the completions (R190, R191, R205) -/

/-- PART_RESET (R205): made at once, which clears its own answer, or left waiting for the store operation in
flight. -/
def execPartReset (p : PortId) (s : State) : Host.Outcome State Fault Refusal :=
  .next (if s.sys.phase ≠ .held ∧ s.portCheck p 0x05 true = none ∧ s.store.busy = false then s.partReset
    else s.command p 0x05 true fun s =>
      { state := s.modSys fun y => { y with resetWaiting := true }, status := .accepted, data := [] })

/-- A waiting PART_RESET is made when the store operation has completed (R205). -/
def State.makeWaitingReset (s : State) : State := if s.sys.resetWaiting then s.partReset else s

/-- STORE_PROGRAM_COMPLETE (R190). -/
def execStoreProgramComplete (s : State) : Host.Outcome State Fault Refusal :=
  .next (match s.store.op with
    | some (.program area unit content _) => (s.completeProgram area unit content).makeWaitingReset
    | _ => s)

/-- STORE_ERASE_COMPLETE (R191). -/
def execStoreEraseComplete (s : State) : Host.Outcome State Fault Refusal :=
  .next (match s.store.op with
    | some (.erase area _) => (s.completeErase area).makeWaitingReset
    | _ => s)

end Sys2Proof.Machine
end

