-- ==== Sys2Proof/Machine/Frames.lean ====
section
/-!
DEFINITION. Frames (R197 to R199): the select line, the clock edges, the data output, the checks at the end of a
frame, and the handing on of the command it carries.
-/

namespace Sys2Proof.Machine

open Sys2Proof

/-! ## The select line and the clock (R197, R198) -/

/-- The bytes a frame sends: the pending answer as it stood at the fall of select, zeros after it, and nothing beyond
the 48th byte (R197, Formats). -/
def Frame.outbound (f : Frame) : List Byte :=
  match f.image with
  | none => []
  | some a => [a.code, a.status.value, byte1 a.data.length] ++ a.data

/-- The bit on DOUT before the next clock edge: low outside a frame in progress (R197, R198, R206, assumption log 17). -/
def Port.dout (p : Port) : Bool :=
  match p.link with
  | .inFrame f =>
    let k := f.edges / 8
    k < 48 && (f.outbound[k]?.getD 0).getLsbD (7 - f.edges % 8)
  | .idle | .abandoned => false

/-- Select falls: a frame begins with the image of the pending answer (R197). While the part is held in reset no frame
is taken (R206). -/
def Port.select (held : Bool) (p : Port) : Port :=
  match p.link with
  | .idle =>
    { p with
      link := if held then .abandoned
        else .inFrame { image := p.answer, bytes := [], bits := [], edges := 0,
                        timer := some Config.frameTime } }
  | .inFrame _ | .abandoned => p

/-- The byte that eight bits form, the most significant first. -/
def byteOf (bits : List Bool) : Byte := bits.foldl (fun b x => (b <<< 1) ||| (if x then 1 else 0)) 0

/-- A rising clock edge inside a frame takes one bit; inbound bytes beyond the 48th are ignored (R197). -/
def Frame.clock (din : Bool) (f : Frame) : Frame :=
  let bits := f.bits ++ [din]
  if bits.length = 8 then
    { f with
      bits := [], edges := f.edges + 1
      bytes := if f.bytes.length < 48 then f.bytes ++ [byteOf bits] else f.bytes }
  else { f with bits := bits, edges := f.edges + 1 }

/-- A rising clock edge at a port (R197, R198). -/
def Port.clock (din : Bool) (p : Port) : Port :=
  match p.link with
  | .inFrame f => { p with link := .inFrame (f.clock din) }
  | .idle | .abandoned => p

/-- The frame timer expires with select low: FRAME_FAULT, and the frame abandoned (R198). -/
def Port.timeOut (p : Port) : Port :=
  match p.link with
  | .inFrame _ => { p with frameFault := true, link := .abandoned }
  | .idle | .abandoned => p

/-- FRAME_BEGIN (R197). -/
def execFrameBegin (p : PortId) (s : State) : Host.Outcome State Fault Refusal :=
  .next (s.modPort p (Port.select (s.sys.phase = .held)))

/-- PORT_CLOCK_RISING_EDGE (R197). -/
def execPortClockRisingEdge (p : PortId) (din : Bool) (s : State) : Host.Outcome State Fault Refusal :=
  .next (s.modPort p (Port.clock din))

/-- FRAME_TIMER_EXPIRY (R198). -/
def execFrameTimerExpiry (p : PortId) (s : State) : Host.Outcome State Fault Refusal :=
  .next (s.modPort p Port.timeOut)

/-! ## The end of a frame (R198, R199) -/

/-- The command of an admitted frame handed to the block that owns the record it names (R199). -/
def handOn (i : Instr) (s : State) : Host.Outcome State Fault Refusal :=
  match i with
  | .nop p => execNop p s
  | .readPort p => execReadPort p s
  | .readAttention p => execReadAttention p s
  | .setAttentionMask p mask => execSetAttentionMask p mask s
  | .readReport p => execReadReport p s
  | .partReset p => execPartReset p s
  | .readIntegrity p => execReadIntegrity p s
  | .clearIntegrity p => execClearIntegrity p s
  | .admitCar p lane screen cls stall => execAdmitCar p lane screen cls stall s
  | .void p handle => execVoid p handle s
  | .exit p lane handle => execExit p lane handle s
  | .clearLane p lane => execClearLane p lane s
  | .readLane p lane => execReadLane p lane s
  | .move p handle screen stall => execMove p handle screen stall s
  | .lookupAdmission p handle => execLookupAdmission p handle s
  | .repair p handle cls lane entryTime => execRepair p handle cls lane entryTime s
  | .forceRetireAdmission p handle => execForceRetireAdmission p handle s
  | .closeStall p screen stall => execCloseStall p screen stall s
  | .openStall p screen stall => execOpenStall p screen stall s
  | .lookupStall p screen stall => execLookupStall p screen stall s
  | .readField p screen => execReadField p screen s
  | .loadShow p screen count segments start => execLoadShow p screen count segments start s
  | .setStart p screen start => execSetStart p screen start s
  | .startNow p screen => execStartNow p screen s
  | .holdShow p screen => execHoldShow p screen s
  | .resumeShow p screen => execResumeShow p screen s
  | .endShow p screen => execEndShow p screen s
  | .readScreen p screen => execReadScreen p screen s
  | .retune p screen => execRetune p screen s
  | .quarantineChannel p channel => execQuarantineChannel p channel s
  | .readChannels p => execReadChannels p s
  | .abortRow p line => execAbortRow p line s
  | .readRow p line => execReadRow p line s
  | .place p screen stall count lines => execPlace p screen stall count lines s
  | .take p handle => execTake p handle s
  | .ready p handle => execReady p handle s
  | .dispatch p runner count handles => execDispatch p runner count handles s
  | .delivered p handle => execDelivered p handle s
  | .runnerBack p runner => execRunnerBack p runner s
  | .cancel p handle => execCancel p handle s
  | .handover p handle => execHandover p handle s
  | .runnerOn p runner => execRunnerOn p runner s
  | .runnerOff p runner => execRunnerOff p runner s
  | .readRunner p runner => execReadRunner p runner s
  | .queuePeek p => execQueuePeek p s
  | .lookupOrder p handle => execLookupOrder p handle s
  | .forceRetireOrder p handle => execForceRetireOrder p handle s
  | .settle p handle amount => execSettle p handle amount s
  | .openNight p => execOpenNight p s
  | .closeNight p => execCloseNight p s
  | .forceClose p => execForceClose p s
  | .readTotals p => execReadTotals p s
  | .setRestPlan p plan => execSetRestPlan p plan s
  | .rest p => execRest p s
  | .wake p domain => execWake p domain s
  | .readDomains p => execReadDomains p s
  | .storeRead p area unit => execStoreRead p area unit s
  | .storeProgram p area unit content => execStoreProgram p area unit content s
  | .storeErase p area => execStoreErase p area s
  | .storeStatus p => execStoreStatus p s
  | _ => .next s

/-- The bytes of a frame that came whole. -/
def Frame.complete (f : Frame) : Nat := f.edges / 8

/-- A pending answer existed and was not clocked out whole (R199). -/
def Frame.short (f : Frame) : Bool :=
  match f.image with
  | some a => f.complete < 3 + a.data.length
  | none => false

/-- The command code of a frame. -/
def Frame.code (f : Frame) : Byte := f.bytes[0]?.getD 0

/-- The parameter length *n* of a frame. -/
def Frame.paramLength (f : Frame) : Nat := (f.bytes[1]?.getD 0).toNat

/-- The command that a frame carries on a port, when its length is right (R199 check 5). -/
def Frame.command (p : PortId) (f : Frame) : Option Instr :=
  if f.paramLength ≤ 44 ∧ 2 + f.paramLength ≤ f.complete then
    decodeCommand p f.code ((f.bytes.drop 2).take f.paramLength)
  else none

/-- The checks made at the rise of select: the command handed on, or the status that refuses it (R199). -/
def State.frameCheck (s : State) (p : PortId) (f : Frame) : Except Status Instr :=
  if s.sys.phase = .checking then .error .starting
  else if s.sys.resetWaiting then .error .busy
  else if !commandCodes.contains f.code then .error .unknown
  else if !takenOn f.code p then .error .privilege
  else match f.command p with
    | some i => .ok i
    | none => .error .length

/-- A frame of two or more complete bytes (R199). -/
def State.admitFrame (p : PortId) (f : Frame) (s : State) : Host.Outcome State Fault Refusal :=
  let s := s.modPort p fun r => { r with shortRead := r.shortRead || f.short }
  match s.frameCheck p f with
  | .error status => .next (s.answer p f.code status [])
  | .ok i => handOn i s

/-- FRAME_END (R198): select rises. -/
def execFrameEnd (p : PortId) (s : State) : Host.Outcome State Fault Refusal :=
  match (s.port p).link with
  | .idle => .next s
  | .abandoned => .next (s.modPort p fun r => { r with link := .idle })
  | .inFrame f =>
    let s := s.modPort p fun r => { r with link := .idle }
    if f.edges % 8 ≠ 0 ∨ f.complete = 1 then .next (s.modPort p fun r => { r with frameFault := true })
    else if f.complete = 0 then .next s
    else s.admitFrame p f

end Sys2Proof.Machine
end

