-- ==== Sys2Proof/Machine/Tick.lean ====
section
/-!
DEFINITION. What the part does while no command waits (assumption log 1): the first of its own events that is due, or
one millisecond of every running timer.
-/

namespace Sys2Proof.Machine

open Sys2Proof

/-! ## One millisecond -/

/-- One millisecond of a timer. -/
def Timer.tick (t : Timer) : Timer := t.map (· - 1)

/-- One millisecond of a qualified input. -/
def Input.tick (i : Input) : Input := { i with timer := Timer.tick i.timer }

/-- One millisecond of a MARK input: the low that must come before the next mark has lasted when its timer runs out
(R68, assumption log 24). -/
def MarkInput.tick (m : MarkInput) : MarkInput :=
  if m.armed = false ∧ m.timer = some 1 then { m with armed := true, timer := none }
  else { m with timer := Timer.tick m.timer }

/-- One millisecond of a port. -/
def Port.tick (p : Port) : Port :=
  match p.link with
  | .inFrame f => { p with link := .inFrame { f with timer := Timer.tick f.timer } }
  | .idle | .abandoned => p

/-- One millisecond of a lane. -/
def Lane.tick (l : Lane) : Lane :=
  { l with
    loopA := l.loopA.tick, loopB := l.loopB.tick, barrierTimer := Timer.tick l.barrierTimer
    stuckTimer := Timer.tick l.stuckTimer, voidTimer := Timer.tick l.voidTimer
    returnTimer := Timer.tick l.returnTimer }

/-- One millisecond of a screen. -/
def Screen.tick (c : Screen) : Screen :=
  { c with running := c.running.tick, fault := c.fault.tick, mark := c.mark.tick
           startTimer := Timer.tick c.startTimer }

/-- One millisecond of a sound record. -/
def SoundRecord.tick (r : SoundRecord) : SoundRecord :=
  { r with faultTimer := Timer.tick r.faultTimer, announceTimer := Timer.tick r.announceTimer }

/-- One millisecond of a row. -/
def Row.tick (x : Row) : Row :=
  { x with
    onTimer := Timer.tick x.onTimer, cycleTimer := Timer.tick x.cycleTimer
    dropoutTimer := Timer.tick x.dropoutTimer, maxHoldTimer := Timer.tick x.maxHoldTimer
    offTimer := Timer.tick x.offTimer, interKey := Timer.tick x.interKey
    toneTimer := Timer.tick x.toneTimer }

/-- One millisecond of a domain. -/
def Domain.tick (d : Domain) : Domain :=
  { d with ready := d.ready.tick, stopAck := d.stopAck.tick, timer := Timer.tick d.timer }

/-- One millisecond of a store operation. -/
def StoreOp.tick : StoreOp → StoreOp
  | .program area unit content t => .program area unit content (Timer.tick t)
  | .erase area t => .erase area (Timer.tick t)

/-- One millisecond of every running timer of the part; nothing runs while it is held in reset (R206). -/
def State.tick (s : State) : State :=
  if s.sys.phase = .held then s
  else
    { s with
      sys := { s.sys with checkTimer := Timer.tick s.sys.checkTimer }
      booth := s.booth.tick
      counter := s.counter.tick
      mem := { s.mem with patrolTimer := Timer.tick s.mem.patrolTimer }
      gate := { s.gate with lanes := s.gate.lanes.map Lane.tick }
      shows := { s.shows with screens := s.shows.screens.map Screen.tick }
      chans := { s.chans with
        sounds := s.chans.sounds.map SoundRecord.tick
        secondTimer := Timer.tick s.chans.secondTimer }
      disp := { s.disp with
        bus := s.disp.bus.map fun b => { b with timer := Timer.tick b.timer } }
      posts := { s.posts with rows := s.posts.rows.map Row.tick }
      ords := { s.ords with
        runners := s.ords.runners.map fun r => { r with tripTimer := Timer.tick r.tripTimer } }
      night := { s.night with secondTimer := Timer.tick s.night.secondTimer }
      doms := { s.doms with domains := s.doms.domains.map Domain.tick }
      store := { s.store with op := s.store.op.map StoreOp.tick } }

/-! ## Events that are due -/

/-- A step that is due when a timer has run out. -/
def dueWhen (t : Timer) (i : Instr) : List Instr := if t = some 0 then [i] else []

/-- The oldest request of a row, as the step that hands it over. -/
def PostRequest.step (q : PostRequest) : Instr :=
  match q.body with
  | .place _ _ _ => .placeRequest q.row
  | .cancelNewest _ _ => .cancelNewest q.row
  | .confirm _ _ _ => .confirm q.row

/-- The messages on their way between blocks, in the order they are handed over (assumption log 9). -/
def State.dueMessages (s : State) : List Instr :=
  (s.posts.requests.map PostRequest.step) ++ (s.posts.answers.map fun a => .requestAnswer a.row) ++
    (s.ords.tabClears.map fun c => .tabClear c.1)

/-- The frame timer of a port. -/
def Port.frameTimer (p : Port) : Timer :=
  match p.link with
  | .inFrame f => f.timer
  | .idle | .abandoned => none

/-- The ports, the start-up check and the store. -/
def State.dueSystem (s : State) : List Instr :=
  dueWhen s.booth.frameTimer (.frameTimerExpiry .booth) ++
    dueWhen s.counter.frameTimer (.frameTimerExpiry .counter) ++
    dueWhen s.sys.checkTimer .startUpCheckEnd ++
    (match s.store.op with
      | some (.program _ _ _ t) => dueWhen t .storeProgramComplete
      | some (.erase _ t) => dueWhen t .storeEraseComplete
      | none => [])

/-- The timers of a lane. -/
def State.dueLane (s : State) (n : Fin 4) : List Instr :=
  let l := s.gate.lanes[n]
  dueWhen l.loopA.timer (.presenceTimerExpiry n .a) ++ dueWhen l.loopB.timer (.presenceTimerExpiry n .b) ++
    dueWhen l.barrierTimer (.barrierTimerExpiry n) ++ dueWhen l.stuckTimer (.stuckTimerExpiry n) ++
    dueWhen l.voidTimer (.voidTimerExpiry n) ++ dueWhen l.returnTimer (.returnTimerExpiry n)

/-- The timers of a screen, its segment timer at its end, and its transmitter's timers. -/
def State.dueScreen (s : State) (n : Fin 6) : List Instr :=
  let c := s.shows.screens[n]
  let r := s.chans.sounds[n]
  dueWhen c.running.timer (.projectorLevelChange n .running) ++
    dueWhen c.fault.timer (.projectorLevelChange n .fault) ++ dueWhen c.mark.timer (.markTaken n) ++
    dueWhen c.startTimer (.startTimerExpiry n) ++
    (if c.remaining = some 0 ∧ c.canOverrun then [.segmentOverrun n] else []) ++
    dueWhen r.faultTimer (.carrierFault n) ++ dueWhen r.announceTimer (.announceTimerExpiry n)

/-- The channels whose quarantine has reached 0 (R97). -/
def State.dueChannels (s : State) : List Instr :=
  (List.finRange 12).filterMap fun c =>
    if s.chans.channels[c].state = .quarantined 0 then some (.quarantineExpiry c) else none

/-- The timers of a row. -/
def State.dueRow (s : State) (r : Fin 48) : List Instr :=
  let x := s.posts.rows[r]
  dueWhen x.onTimer (.onTimerExpiry r) ++ dueWhen x.dropoutTimer (.dropoutTimerExpiry r) ++
    dueWhen x.maxHoldTimer (.maxHoldTimerExpiry r) ++ dueWhen x.offTimer (.offTimerExpiry r) ++
    dueWhen x.cycleTimer (.cycleTimerExpiry r) ++ dueWhen x.interKey (.interKeyTimeout r) ++
    dueWhen x.toneTimer (.answerToneEnd r)

/-- The timers of a domain. -/
def State.dueDomain (s : State) (d : Fin 8) : List Instr :=
  let x := s.doms.domains[d]
  dueWhen x.ready.timer (.domainLevelChange d .ready) ++
    dueWhen x.stopAck.timer (.domainLevelChange d .stopAck) ++
    dueWhen x.timer (if x.state = .stopping then .acknowledgeTimerExpiry d else .wakeTimerExpiry d)

/-- The seconds of the blocks and the patrol. -/
def State.dueSeconds (s : State) : List Instr :=
  dueWhen s.night.secondTimer .nightClockSecond ++ dueWhen s.chans.secondTimer .channelSecond ++
    dueWhen s.mem.patrolTimer .patrolRead

/-- The row display bus: the end of a sending, or the start of one (R103). -/
def State.dueBus (s : State) : List Instr :=
  match s.disp.bus with
  | some b => dueWhen b.timer .displayWordSent
  | none =>
    if s.sys.phase = .running ∧ s.disp.next.isSome then [.displayWordStart] else []

/-- The first of the part's own events that is due, in a fixed order (assumption log 1). -/
def State.due (s : State) : Option Instr :=
  s.dueMessages.head? <|> s.dueSystem.head? <|>
    ((List.finRange 4).flatMap s.dueLane).head? <|> ((List.finRange 6).flatMap s.dueScreen).head? <|>
    s.dueChannels.head? <|> ((List.finRange 48).flatMap s.dueRow).head? <|>
    ((List.finRange 12).filterMap fun r =>
      if s.ords.runners[r].tripTimer = some 0 then some (Instr.tripTimerExpiry r) else none).head? <|>
    ((List.finRange 8).flatMap s.dueDomain).head? <|> s.dueSeconds.head? <|> s.dueBus.head?

end Sys2Proof.Machine
end

