-- ==== Sys2Proof/Machine/Dispatch.lean ====
section
/-!
DEFINITION. One arm for each row of the table: the meaning of each command and event.
-/

namespace Sys2Proof.Machine

open Sys2Proof

/-- The meaning of a command or event: one meaning for each row of the table. -/
def exec (i : Instr) (s : State) : Host.Outcome State Fault Refusal :=
  match i with
  -- resets and frames
  | .powerOnReset => Sys2Proof.Machine.execPowerOnReset s
  | .resetRelease => Sys2Proof.Machine.execResetRelease s
  | .startUpCheckEnd => Sys2Proof.Machine.execStartUpCheckEnd s
  | .frameBegin p => Sys2Proof.Machine.execFrameBegin p s
  | .frameEnd p => Sys2Proof.Machine.execFrameEnd p s
  | .frameTimerExpiry p => Sys2Proof.Machine.execFrameTimerExpiry p s
  | .portClockRisingEdge p din => Sys2Proof.Machine.execPortClockRisingEdge p din s
  -- port commands of the ports and of the record memory
  | .nop p => Sys2Proof.Machine.execNop p s
  | .readPort p => Sys2Proof.Machine.execReadPort p s
  | .readAttention p => Sys2Proof.Machine.execReadAttention p s
  | .setAttentionMask p mask => Sys2Proof.Machine.execSetAttentionMask p mask s
  | .readReport p => Sys2Proof.Machine.execReadReport p s
  | .partReset p => Sys2Proof.Machine.execPartReset p s
  | .readIntegrity p => Sys2Proof.Machine.execReadIntegrity p s
  | .clearIntegrity p => Sys2Proof.Machine.execClearIntegrity p s
  | .patrolRead => Sys2Proof.Machine.execPatrolRead s
  -- gate lanes and admissions
  | .loopInputChange lane loop occupied => Sys2Proof.Machine.execLoopInputChange lane loop occupied s
  | .presenceTimerExpiry lane loop => Sys2Proof.Machine.execPresenceTimerExpiry lane loop s
  | .upChange lane high => Sys2Proof.Machine.execUpChange lane high s
  | .barrierTimerExpiry lane => Sys2Proof.Machine.execBarrierTimerExpiry lane s
  | .stuckTimerExpiry lane => Sys2Proof.Machine.execStuckTimerExpiry lane s
  | .voidTimerExpiry lane => Sys2Proof.Machine.execVoidTimerExpiry lane s
  | .returnTimerExpiry lane => Sys2Proof.Machine.execReturnTimerExpiry lane s
  | .tabClear lane => Sys2Proof.Machine.execTabClear lane s
  | .admitCar p lane screen cls stall => Sys2Proof.Machine.execAdmitCar p lane screen cls stall s
  | .void p handle => Sys2Proof.Machine.execVoid p handle s
  | .exit p lane handle => Sys2Proof.Machine.execExit p lane handle s
  | .clearLane p lane => Sys2Proof.Machine.execClearLane p lane s
  | .readLane p lane => Sys2Proof.Machine.execReadLane p lane s
  | .move p handle screen stall => Sys2Proof.Machine.execMove p handle screen stall s
  | .lookupAdmission p handle => Sys2Proof.Machine.execLookupAdmission p handle s
  | .repair p handle cls lane entryTime => Sys2Proof.Machine.execRepair p handle cls lane entryTime s
  | .forceRetireAdmission p handle => Sys2Proof.Machine.execForceRetireAdmission p handle s
  -- the lot
  | .closeStall p screen stall => Sys2Proof.Machine.execCloseStall p screen stall s
  | .openStall p screen stall => Sys2Proof.Machine.execOpenStall p screen stall s
  | .lookupStall p screen stall => Sys2Proof.Machine.execLookupStall p screen stall s
  | .readField p screen => Sys2Proof.Machine.execReadField p screen s
  -- screens and shows
  | .loadShow p screen count segments start => Sys2Proof.Machine.execLoadShow p screen count segments start s
  | .setStart p screen start => Sys2Proof.Machine.execSetStart p screen start s
  | .startNow p screen => Sys2Proof.Machine.execStartNow p screen s
  | .holdShow p screen => Sys2Proof.Machine.execHoldShow p screen s
  | .resumeShow p screen => Sys2Proof.Machine.execResumeShow p screen s
  | .endShow p screen => Sys2Proof.Machine.execEndShow p screen s
  | .readScreen p screen => Sys2Proof.Machine.execReadScreen p screen s
  | .projectorInputChange screen input high => Sys2Proof.Machine.execProjectorInputChange screen input high s
  | .projectorLevelChange screen which => Sys2Proof.Machine.execProjectorLevelChange screen which s
  | .markTaken screen => Sys2Proof.Machine.execMarkTaken screen s
  | .startTimerExpiry screen => Sys2Proof.Machine.execStartTimerExpiry screen s
  | .segmentOverrun screen => Sys2Proof.Machine.execSegmentOverrun screen s
  | .nightClockSecond => Sys2Proof.Machine.execNightClockSecond s
  -- carrier channels and row displays
  | .retune p screen => Sys2Proof.Machine.execRetune p screen s
  | .quarantineChannel p channel => Sys2Proof.Machine.execQuarantineChannel p channel s
  | .readChannels p => Sys2Proof.Machine.execReadChannels p s
  | .carrierOkChange screen high => Sys2Proof.Machine.execCarrierOkChange screen high s
  | .carrierFault screen => Sys2Proof.Machine.execCarrierFault screen s
  | .announceTimerExpiry screen => Sys2Proof.Machine.execAnnounceTimerExpiry screen s
  | .channelSecond => Sys2Proof.Machine.execChannelSecond s
  | .quarantineExpiry channel => Sys2Proof.Machine.execQuarantineExpiry channel s
  | .displayWordStart => Sys2Proof.Machine.execDisplayWordStart s
  | .displayWordSent => Sys2Proof.Machine.execDisplayWordSent s
  -- call posts
  | .toneFindingChange row tones => Sys2Proof.Machine.execToneFindingChange row tones s
  | .onTimerExpiry row => Sys2Proof.Machine.execOnTimerExpiry row s
  | .dropoutTimerExpiry row => Sys2Proof.Machine.execDropoutTimerExpiry row s
  | .maxHoldTimerExpiry row => Sys2Proof.Machine.execMaxHoldTimerExpiry row s
  | .offTimerExpiry row => Sys2Proof.Machine.execOffTimerExpiry row s
  | .cycleTimerExpiry row => Sys2Proof.Machine.execCycleTimerExpiry row s
  | .interKeyTimeout row => Sys2Proof.Machine.execInterKeyTimeout row s
  | .answerToneEnd row => Sys2Proof.Machine.execAnswerToneEnd row s
  | .requestAnswer row => Sys2Proof.Machine.execRequestAnswer row s
  | .abortRow p line => Sys2Proof.Machine.execAbortRow p line s
  | .readRow p line => Sys2Proof.Machine.execReadRow p line s
  -- orders, the kitchen and the runners
  | .place p screen stall count lines => Sys2Proof.Machine.execPlace p screen stall count lines s
  | .placeRequest row => Sys2Proof.Machine.execPlaceRequest row s
  | .cancelNewest row => Sys2Proof.Machine.execCancelNewest row s
  | .confirm row => Sys2Proof.Machine.execConfirm row s
  | .take p handle => Sys2Proof.Machine.execTake p handle s
  | .ready p handle => Sys2Proof.Machine.execReady p handle s
  | .dispatch p runner count handles => Sys2Proof.Machine.execDispatch p runner count handles s
  | .tripTimerExpiry runner => Sys2Proof.Machine.execTripTimerExpiry runner s
  | .delivered p handle => Sys2Proof.Machine.execDelivered p handle s
  | .runnerBack p runner => Sys2Proof.Machine.execRunnerBack p runner s
  | .cancel p handle => Sys2Proof.Machine.execCancel p handle s
  | .handover p handle => Sys2Proof.Machine.execHandover p handle s
  | .runnerOn p runner => Sys2Proof.Machine.execRunnerOn p runner s
  | .runnerOff p runner => Sys2Proof.Machine.execRunnerOff p runner s
  | .readRunner p runner => Sys2Proof.Machine.execReadRunner p runner s
  | .queuePeek p => Sys2Proof.Machine.execQueuePeek p s
  | .lookupOrder p handle => Sys2Proof.Machine.execLookupOrder p handle s
  | .forceRetireOrder p handle => Sys2Proof.Machine.execForceRetireOrder p handle s
  | .settle p handle amount => Sys2Proof.Machine.execSettle p handle amount s
  -- the night
  | .openNight p => Sys2Proof.Machine.execOpenNight p s
  | .closeNight p => Sys2Proof.Machine.execCloseNight p s
  | .forceClose p => Sys2Proof.Machine.execForceClose p s
  | .readTotals p => Sys2Proof.Machine.execReadTotals p s
  -- equipment domains
  | .setRestPlan p plan => Sys2Proof.Machine.execSetRestPlan p plan s
  | .rest p => Sys2Proof.Machine.execRest p s
  | .wake p domain => Sys2Proof.Machine.execWake p domain s
  | .readDomains p => Sys2Proof.Machine.execReadDomains p s
  | .domainInputChange domain input high => Sys2Proof.Machine.execDomainInputChange domain input high s
  | .domainLevelChange domain input => Sys2Proof.Machine.execDomainLevelChange domain input s
  | .acknowledgeTimerExpiry domain => Sys2Proof.Machine.execAcknowledgeTimerExpiry domain s
  | .wakeTimerExpiry domain => Sys2Proof.Machine.execWakeTimerExpiry domain s
  -- the standing store
  | .storeRead p area unit => Sys2Proof.Machine.execStoreRead p area unit s
  | .storeProgram p area unit content => Sys2Proof.Machine.execStoreProgram p area unit content s
  | .storeProgramComplete => Sys2Proof.Machine.execStoreProgramComplete s
  | .storeErase p area => Sys2Proof.Machine.execStoreErase p area s
  | .storeEraseComplete => Sys2Proof.Machine.execStoreEraseComplete s
  | .storeStatus p => Sys2Proof.Machine.execStoreStatus p s

end Sys2Proof.Machine
end

