-- ==== Sys2Proof/Machine/Step.lean ====
section
/-!
DEFINITION. One step: the command at the front of the queue, or with an empty queue the part's own next event or one
millisecond (assumption log 1).
-/

namespace Sys2Proof.Machine

open Sys2Proof

/-- One step of the part: the command at the front of the queue is taken, whole; with no command waiting, the first of
the part's own events that is due, and with none due one millisecond passes. -/
def step (s : State) : Host.Outcome State Fault Refusal :=
  match s.pending with
  | c :: rest => exec c { s with pending := rest }
  | [] =>
    match s.due with
    | some c => exec c s
    | none => .next s.tick

/-- The command that a table word spells put at the front of the queue; the table's rows have no bits, so none is. -/
def State.withFetchWord (s : State) (nbits w : Nat) : State :=
  match decodeTableWord nbits w with
  | some c => { s with pending := c :: s.pending }
  | none => s

end Sys2Proof.Machine
end

