-- ==== Sys2Proof/Safety.lean ====
section
/-!
DEFINITION. What the statements about the part are said with: when a port takes a command, what a clean record is,
and the invariants that every step keeps.
-/

namespace Sys2Proof.Machine

open Sys2Proof

/-! ## Conditions on a state -/

/-- The part runs, no PART_RESET waits, and the port takes commands of this code (R199, R201, R205, R207). -/
abbrev State.takes (s : State) (p : PortId) (code : Byte) : Prop :=
  s.sys.phase = .running ∧ s.sys.resetWaiting = false ∧ takenOn code p = true

/-- The checks of a command in their order, each with the status it refuses with: the status of the first that
fails. -/
def firstFailing (checks : List (Bool × Status)) : Option Status :=
  (checks.find? fun c => c.1).map Prod.snd

/-- An admission slot that a read finds as it was written (R8). -/
abbrev State.admClean (s : State) (a : Fin 1024) : Prop :=
  s.mem.admissions[a].marked = false ∧ s.mem.admissions[a].health = .clean

/-- An order slot that a read finds as it was written (R8). -/
abbrev State.orderClean (s : State) (o : Fin 256) : Prop :=
  s.mem.orders[o].marked = false ∧ s.mem.orders[o].health = .clean

/-- A stall slot that a read finds as it was written (R8). -/
abbrev State.stallClean (s : State) (i : Fin 1024) : Prop := s.mem.stalls[i].health = .clean

/-- The orders on an admission's list, as they were written. -/
def State.tabOrders (s : State) (a : Fin 1024) : List (Fin 256 × Order) :=
  (s.adm a).orders.map fun h => (h.slot, s.order h.slot)

/-- An admission and every order on its list that a read finds as they were written (R12). -/
abbrev State.tabClean (s : State) (a : Fin 1024) : Prop :=
  s.admClean a ∧ ∀ h ∈ (s.adm a).orders, s.orderClean h.slot

/-- From `s` to `t` the admission in slot `a` has left lane `n` and the lot for good: the lane is freed and rests by loop
A, the slot is free at its next generation, its screen's live count is one lower, and neither a stall nor a holding queue
names it. Every other lane, the rows, the domains, and the order table but for its windows, are as they were. -/
def State.gone (s t : State) (n : Fin 4) (a : Fin 1024) : Prop :=
  (t.gate.lanes[n].bound = none ∧ t.gate.lanes[n].raise = false ∧ t.gate.lanes[n].cause = none ∧
    t.gate.lanes[n].faultedFrom = none ∧ t.gate.lanes[n].voidTimer = none ∧
    t.gate.lanes[n].returnTimer = none ∧ t.gate.lanes[n].barrierTimer = none ∧
    t.gate.lanes[n].state = (if s.gate.lanes[n].loopA.level then .present else .idle)) ∧
  (∀ m : Fin 4, m ≠ n → t.gate.lanes[m] = s.gate.lanes[m]) ∧
  t.admLive a = false ∧ t.mem.admGen[a] = s.mem.admGen[a] + 1 ∧
  (∀ m, s.lot.screenOf a = some m → t.gate.live[m] = s.gate.live[m] - 1) ∧
  (∀ i, s.lot.stallHeldBy a = some i → (t.lot.occupants[i].map Occupant.slot) ≠ some a) ∧
  (∀ m : Fin 6, a ∉ t.lot.queues[m]) ∧
  t.posts = s.posts ∧ t.doms = s.doms ∧ t.sys = s.sys ∧ t.pending = s.pending ∧
  t.ords = { s.ords with windows := t.ords.windows }

/-! ## Invariants -/

/-- The attention line follows the set and the mask, which hold only kinds that the port has (R203, R204). -/
def Port.attentionGood (k : PortId) (p : Port) : Prop :=
  p.attn = (p.attention &&& p.mask != 0) ∧ p.attention &&& ~~~PortId.kinds k = 0 ∧ p.mask &&& ~~~PortId.kinds k = 0

/-- Both attention lines follow their sets and masks (R203). -/
def State.attentionGood (s : State) : Prop :=
  s.booth.attentionGood .booth ∧ s.counter.attentionGood .counter

/-- The states of a lane in which a vehicle may pass. -/
def LaneState.open : LaneState → Bool
  | .issued | .passing | .leaving => true
  | .idle | .present | .faulted | .paying => false

/-- RAISE stands exactly while a vehicle may pass (R40, R44, R47, R48). -/
def State.barriersGood (s : State) : Prop :=
  ∀ n : Fin 4, s.gate.lanes[n].raise = s.gate.lanes[n].state.open

/-- The lines of a projector follow the show state (R67). -/
def State.projectorLinesGood (s : State) : Prop :=
  ∀ n : Fin 6, s.shows.screens[n].runReq = s.shows.screens[n].state.runReq ∧
    s.shows.screens[n].pauseReq = s.shows.screens[n].state.pauseReq

/-- STOP_REQ follows the state of the domain (R168). -/
def State.stopLinesGood (s : State) : Prop :=
  ∀ d : Fin 8, s.doms.domains[d].stopReq = s.doms.domains[d].state.stopReq

/-- CHSEL follows the sound state (R87). -/
def State.carrierCodesGood (s : State) : Prop :=
  ∀ n : Fin 6, s.chans.sounds[n].chsel = s.chans.sounds[n].sound.code

/-- Every order window stands as its condition says, and the night is CLOSED while the part does not run (R128, R157,
R207). -/
def State.windowsGood (s : State) : Prop :=
  (∀ n : Fin 6, s.ords.windows[n] = s.windowCondition n) ∧
    (s.sys.phase ≠ .running → s.night.state = .closed)

/-- Counters and totals stay within the limits at which they hold (R18, R40, R59, R157, R158,
R165). -/
def State.limitsGood (s : State) : Prop :=
  s.mon.count ≤ Config.countLimit ∧ s.night.clock ≤ Config.lastSecond ∧
    s.night.takings ≤ Config.totalLimit ∧ s.night.writeOffs ≤ Config.totalLimit ∧
    s.night.delivered ≤ Config.totalLimit ∧
    (∀ n : Fin 4, s.gate.lanes[n].passes ≤ Config.countLimit ∧
      s.gate.lanes[n].tailgates ≤ Config.countLimit ∧ s.gate.lanes[n].voids ≤ Config.countLimit) ∧
    ∀ n : Fin 6, s.gate.admitted[n] ≤ Config.countLimit

/-- The counts of damage marks are those of the marked slots (R15). -/
def State.marksGood (s : State) : Prop :=
  s.mem.admMarks = s.mem.admissions.toList.countP Slot.marked ∧
    s.mem.orderMarks = s.mem.orders.toList.countP Slot.marked

end Sys2Proof.Machine
end

