-- ==== Sys2Proof/Certificates/Slice0/Obligations.lean ====
section
/-!
DEFINITION. The statements about the part, for the provers.

A statement about a command speaks of every state in which its port takes it (`State.takes`); what the port does in
every other state is said once, in `PortChecks`. What a read of a record can do is said
once, in `ReadsOfRecords`; the statements about commands name the outcome of their reads.
-/

open Sys2Proof Sys2Proof.Machine

/-! ## Steps, ports and frames (chapter 11) -/

/-- The command at the front of the queue is taken by the step, on the state with the rest of the queue. The queue of
commands is the model's own (log 1). -/
def Obligations.StepTakesFrontCommand : Prop :=
  ∀ (c : Instr) (rest : List Instr) (s : State),
    step { s with pending := c :: rest } = exec c { s with pending := rest }

/-- No command and no event stops the part: every one leaves it in a next state. That a step with an empty queue takes
a due event or lets 1 ms pass is the model's choice (log 1). -/
def Obligations.EveryStepCompletes : Prop :=
  (∀ (c : Instr) (s : State), ∃ t : State, exec c s = .next t) ∧ ∀ s : State, ∃ t, step s = .next t

/-- What a port does with a command before any block: held in reset, it takes none; while the start-up check runs,
every command is answered STARTING; then, in order, BUSY while a PART_RESET waits, PRIVILEGE on the wrong port, and
LENGTH when the parameters are not of the command's length. A refused command changes only its port's pending answer.
The commands of each port: the booth port takes all of the summary but eight, the counter port the order and runner
commands, SETTLE, two lookups and the commands of the port itself. -/
def Obligations.PortChecks : Prop :=
  (∀ (i : Instr) (p : PortId) (code : Byte) (l : List Byte) (s : State),
    encodeCommand i = some (p, code, l) →
    (s.sys.phase = .held → exec i s = .next s) ∧
    (s.sys.phase = .checking → exec i s = .next (s.answer p code .starting [])) ∧
    (s.sys.phase = .running →
      (s.sys.resetWaiting = true → exec i s = .next (s.answer p code .busy [])) ∧
      (s.sys.resetWaiting = false → takenOn code p = false →
        exec i s = .next (s.answer p code .privilege [])) ∧
      (s.takes p code → i.wf = false → exec i s = .next (s.answer p code .length [])))) ∧
  ((∀ code ∈ commandCodes, takenOn code .booth = true ↔
    code ∉ ([0x41, 0x42, 0x43, 0x44, 0x45, 0x47, 0x48, 0x49] : List Byte)) ∧
  (∀ code ∈ commandCodes, takenOn code .counter = true ↔
    code ∈ ([0x00, 0x01, 0x02, 0x03, 0x16, 0x22, 0x40, 0x41, 0x42, 0x43, 0x44, 0x45, 0x46, 0x47, 0x48, 0x49,
      0x4A, 0x4B, 0x4C, 0x4D, 0x50] : List Byte)))

/-- Decode and encode agree: the bytes that carry a well-formed command on a port spell that command there. -/
def Obligations.CommandBytesRoundTrip : Prop :=
  ∀ (i : Instr) (p : PortId) (code : Byte) (l : List Byte),
    encodeCommand i = some (p, code, l) → i.wf = true → decodeCommand p code l = some i

/-- The select line and the clock: select falling begins a frame with the image of the pending answer and 100 ms; each
clock edge takes one bit, and each eighth one completes a byte, the first bit the most significant, of which 48 are
kept; the expiry of the frame timer sets FRAME_FAULT and abandons the frame, after which clock edges do nothing and
select rising takes nothing. Only the port itself changes. The expiry acts whenever a frame is in progress (log 8). -/
def Obligations.FrameTaking : Prop :=
  (∀ w : Byte, byteOf ((List.range 8).map fun k => w.getLsbD (7 - k)) = w) ∧
  ∀ (p : PortId) (s : State),
    ((s.port p).link = .idle → s.sys.phase ≠ .held →
      exec (.frameBegin p) s = .next (s.modPort p fun r =>
        { r with
          link := .inFrame { image := r.answer, bytes := [], bits := [], edges := 0, timer := some 100 } })) ∧
    (∀ (f : Frame) (din : Bool), (s.port p).link = .inFrame f → f.bits.length < 7 →
      exec (.portClockRisingEdge p din) s = .next (s.modPort p fun r =>
        { r with link := .inFrame { f with bits := f.bits ++ [din], edges := f.edges + 1 } })) ∧
    (∀ (f : Frame) (din : Bool), (s.port p).link = .inFrame f → f.bits.length = 7 →
      exec (.portClockRisingEdge p din) s = .next (s.modPort p fun r =>
        { r with
          link := .inFrame
            { f with
              bits := [], edges := f.edges + 1
              bytes := if f.bytes.length < 48 then f.bytes ++ [byteOf (f.bits ++ [din])] else f.bytes } })) ∧
    (∀ f : Frame, (s.port p).link = .inFrame f →
      exec (.frameTimerExpiry p) s = .next (s.modPort p fun r =>
        { r with frameFault := true, link := .abandoned })) ∧
    ((s.port p).link = .abandoned →
      (∀ din, exec (.portClockRisingEdge p din) s = .next s) ∧
      exec (.frameTimerExpiry p) s = .next s ∧
      exec (.frameEnd p) s = .next (s.modPort p fun r => { r with link := .idle }))

/-- The bit on DOUT inside a frame: the bits of the command code answered, its status, its length and its data, most
significant first, then zeros. That the line shows the bit before the next edge, and zeros after the image, is the
model's reading (log 17). -/
def Obligations.FrameSendsPendingAnswer : Prop :=
  ∀ (r : Port) (f : Frame), r.link = .inFrame f →
    (f.image = none → r.dout = false) ∧
    ∀ a : Answer, f.image = some a → a.data.length ≤ 45 →
      (∀ k, f.edges < 8 * (3 + a.data.length) →
        ([a.code, a.status.value, BitVec.ofNat 8 a.data.length] ++ a.data)[f.edges / 8]? = some k →
        r.dout = k.getLsbD (7 - f.edges % 8)) ∧
      (8 * (3 + a.data.length) ≤ f.edges → r.dout = false)

/-- The end of a frame. A frame broken inside a byte, or of one byte, sets FRAME_FAULT and takes nothing; a frame of no
byte changes nothing but the line. A longer frame sets SHORT_READ when the pending answer was cut short; then its
command runs on its port, when its code is known and the frame carries that command's parameters, and is otherwise
answered UNKNOWN, PRIVILEGE or LENGTH, in that order. -/
def Obligations.FrameEnds : Prop :=
  ∀ (p : PortId) (f : Frame) (s : State), (s.port p).link = .inFrame f →
    let s' := s.modPort p fun r => { r with link := .idle }
    let u := s'.modPort p fun r =>
      { r with shortRead := r.shortRead || (match f.image with
          | some a => decide (f.edges / 8 < 3 + a.data.length)
          | none => false) }
    let params := (f.bytes.drop 2).take f.paramLength
    let whole := f.paramLength ≤ 44 ∧ 2 + f.paramLength ≤ f.edges / 8
    (f.edges % 8 ≠ 0 ∨ f.edges / 8 = 1 →
      exec (.frameEnd p) s = .next (s'.modPort p fun r => { r with frameFault := true })) ∧
    (f.edges = 0 → exec (.frameEnd p) s = .next s') ∧
    (f.edges % 8 = 0 → 2 ≤ f.edges / 8 →
      (s.sys.phase = .checking → exec (.frameEnd p) s = .next (u.answer p f.code .starting [])) ∧
      (s.sys.phase = .running → s.sys.resetWaiting = true →
        exec (.frameEnd p) s = .next (u.answer p f.code .busy [])) ∧
      (s.sys.phase = .running → s.sys.resetWaiting = false →
        (f.code ∉ commandCodes → exec (.frameEnd p) s = .next (u.answer p f.code .unknown [])) ∧
        (f.code ∈ commandCodes → takenOn f.code p = false →
          exec (.frameEnd p) s = .next (u.answer p f.code .privilege [])) ∧
        (f.code ∈ commandCodes → takenOn f.code p = true →
          (∀ i, whole → decodeCommand p f.code params = some i →
            ∃ t : State, exec (.frameEnd p) s = .next t ∧ exec i u = .next t) ∧
          (¬ whole ∨ decodeCommand p f.code params = none →
            exec (.frameEnd p) s = .next (u.answer p f.code .length [])))))

/-- NOP is answered OK and changes nothing; READ_PORT is answered with the port's identity and its flags as they
stood, and clears both. READ_REPORT is answered with the start-up report, whose 18 bytes give the failing slots, the
corrected units, the first UNCORRECTABLE unit and the identity; READ_INTEGRITY with the event count, the trap and the
mark counts; both change nothing else. CLEAR_INTEGRITY empties the count and the trap. That an empty trap is answered
with zeros is the model's choice (log 35). -/
def Obligations.PortAndReports : Prop :=
  (∀ (p : PortId) (s : State),
    (s.takes p 0x00 → exec (.nop p) s = .next (s.answer p 0x00 .ok [])) ∧
    (s.takes p 0x01 → exec (.readPort p) s =
      .next ((s.modPort p fun r => { r with frameFault := false, shortRead := false }).answer p 0x01 .ok
        [if p = .booth then 1 else 2,
          (if (s.port p).frameFault then 1 else 0) + (if (s.port p).shortRead then 2 else 0)]))) ∧
  (∀ s : State,
    (s.takes .booth 0x04 → exec (.readReport .booth) s =
      .next (s.answer .booth 0x04 .ok
        ([(if s.sys.report.failing ≠ 0 then 1 else 0) + (if s.sys.report.scan.identity = none then 2 else 0)] ++
          bytes2 s.sys.report.failing ++ bytes2 s.sys.report.scan.corrected ++
          (match s.sys.report.scan.firstBad with
            | some (a, u) => [BitVec.ofNat 8 a.val, BitVec.ofNat 8 u.val]
            | none => [0xFF, 0xFF]) ++
          s.sys.report.scan.identity.getD (List.replicate 11 0)))) ∧
    (s.takes .booth 0x08 → exec (.readIntegrity .booth) s =
      .next (s.answer .booth 0x08 .ok
        (bytes2 s.mon.count ++
          (match s.mon.trap with
            | none => [0, 0, 0, 0, 0]
            | some (place, kind) => [1, byte1 place.source] ++ place.location ++ [byte1 kind.number]) ++
          bytes2 s.mem.admMarks ++ bytes2 s.mem.orderMarks ++ bytes2 s.mem.stallMarks))) ∧
    (s.takes .booth 0x09 → exec (.clearIntegrity .booth) s =
      .next ({ s with mon := { count := 0, trap := none } }.answer .booth 0x09 .ok [])))

/-- READ_ATTENTION is answered with the set as it stands and empties it; SET_ATTENTION_MASK is refused for a bit that
stands for no kind of the port and otherwise becomes the mask; in each taking the line follows the set and the mask. A
raise before READ_ATTENTION is returned and removed, a raise after it drives the line, and a raise and a mask leave the
line that follows the final set and mask, in either order. -/
def Obligations.AttentionReadAndMask : Prop :=
  (∀ (p : PortId) (s : State), s.takes p 0x02 →
    exec (.readAttention p) s =
      .next ((s.modPort p fun r => { r with attention := 0, attn := false }).answer p 0x02 .ok
        (bytes3 (s.port p).attention.toNat))) ∧
  (∀ (p : PortId) (m : Word24) (s : State), s.takes p 0x03 →
    (m &&& ~~~(if p = .booth then 0x03FFFF#24 else 0x00003F#24) ≠ 0 →
      exec (.setAttentionMask p m) s = .next (s.answer p 0x03 .badParam [])) ∧
    (m &&& ~~~(if p = .booth then 0x03FFFF#24 else 0x00003F#24) = 0 →
      exec (.setAttentionMask p m) s =
        .next ((s.modPort p fun r => { r with mask := m, attn := r.attention &&& m != 0 }).answer p 0x03 .ok
          (bytes3 m.toNat)))) ∧
  ∀ (r : Port) (k m : Word24),
    (r.raise k).attention = r.attention ||| k ∧
    (r.raise k).attn = ((r.attention ||| k) &&& r.mask != 0) ∧
    (r.raise k).takeAttention.attention = 0 ∧ (r.raise k).takeAttention.attn = false ∧
    (r.takeAttention.raise k).attention = k ∧ (r.takeAttention.raise k).attn = (k &&& r.mask != 0) ∧
    ((r.raise k).setMask m).attn = ((r.attention ||| k) &&& m != 0) ∧
    ((r.setMask m).raise k).attn = ((r.attention ||| k) &&& m != 0)

/-- PART_RESET: with no store operation in flight the reset is made at once, its own answer cleared with the rest, and
the start-up check begins; with one in flight it is answered ACCEPTED and waits. That the check is due to end after
250 ms (log 20), and the values that the lot map and the order table take where the manual gives none (log 3), are the
model's choices. -/
def Obligations.PartResetMadeOrWaiting : Prop :=
  ∀ s : State, s.takes .booth 0x05 →
    (s.store.op = none →
      ∃ t : State, exec (.partReset .booth) s = .next t ∧ t.sys.phase = .checking ∧ t.sys.resetWaiting = false ∧
        t.sys.checkTimer = some 250 ∧ t.booth.answer = none ∧ t.counter.answer = none ∧
        t.night = Night.reset ∧ t.lot = LotMap.reset ∧ t.ords = OrderTable.reset ∧ t.disp = Display.reset ∧
        t.store = { s.store with op := none, last := none, locked := false } ∧ t.pending = s.pending) ∧
    (s.store.op ≠ none →
      exec (.partReset .booth) s =
        .next ({ s with sys := { s.sys with resetWaiting := true } }.answer .booth 0x05 .accepted []))

/-- POWER_ON_RESET holds the part in reset with every record at its after-reset value: no answer, no flag, an empty
attention set, every kind in the masks, every slot free with the free pattern, no layout, the lanes, screens, sounds,
channels, rows, runners and domains as after reset, every setting at its default, the night CLOSED, and every output
line low but RD_CLK, which rests high. The pins keep their levels, and the standing store keeps its content when no
operation was in flight. One in flight ends: its unit, or every unit of its area, reads UNCORRECTABLE and every other
unit keeps its content; what bytes such a unit holds is a free value (log 5), on which nothing here depends. The values
that the manual does not give, the WAKING state of the domains among them, are the model's choices (log 3). -/
def Obligations.PowerOnResetHoldsThePart : Prop :=
  ∀ s : State, ∃ t : State, exec .powerOnReset s = .next t ∧
    t.sys.phase = .held ∧ t.sys.resetWaiting = false ∧ t.pending = s.pending ∧
    (∀ p, (t.port p).answer = none ∧ (t.port p).frameFault = false ∧ (t.port p).shortRead = false ∧
      (t.port p).attention = 0 ∧ (t.port p).mask = PortId.kinds p ∧ (t.port p).attn = false ∧
      (∀ f, (t.port p).link ≠ .inFrame f)) ∧
    (∀ p, (t.port p).dout = false) ∧
    t.sys.checkTimer = none ∧ t.sys.failing = 0 ∧ t.sys.scan = ScanResult.none ∧
    t.sys.report = { failing := 0, scan := ScanResult.none } ∧
    (∀ a : Fin 1024, t.admLive a = false ∧ t.mem.admGen[a] = 0 ∧ t.mem.admissions[a] =
      { content := Admission.freePattern, health := .clean
        flaws := s.mem.admissions[a].flaws, marked := false }) ∧
    (∀ o : Fin 256, t.orderLive o = false ∧ t.mem.orderGen[o] = 0 ∧ t.mem.orders[o] =
      { content := Order.freePattern, health := .clean
        flaws := s.mem.orders[o].flaws, marked := false }) ∧
    (∀ i : Fin 1024, t.mem.stalls[i] =
      { content := Stall.unusedPattern, health := .clean
        flaws := s.mem.stalls[i].flaws, marked := false }) ∧
    t.mem.admFree = List.finRange 1024 ∧ t.mem.orderFree = List.finRange 256 ∧
    t.mem.admMarks = 0 ∧ t.mem.orderMarks = 0 ∧ t.mem.stallMarks = 0 ∧
    t.mem.patrolPosition = 0 ∧ t.mem.patrolPeriod = 20 ∧ t.mem.patrolTimer = none ∧
    t.mon = { count := 0, trap := none } ∧ t.lot = LotMap.reset ∧ t.night = Night.reset ∧
    t.ords = OrderTable.reset ∧ t.disp = Display.reset ∧ t.disp.rdClk = true ∧ t.disp.rdDat = false ∧
    (∀ n : Fin 4, t.gate.lanes[n] =
      { role := .unused, state := .idle, bound := none, cause := none, faultedFrom := none
        loopA := { raw := s.gate.lanes[n].loopA.raw, level := false, timer := none }
        loopB := { raw := s.gate.lanes[n].loopB.raw, level := false, timer := none }
        raise := false, up := s.gate.lanes[n].up, passes := 0, tailgates := 0, voids := 0
        barrierTimer := none, stuckTimer := none, voidTimer := none, returnTimer := none }) ∧
    (∀ n : Fin 6, t.gate.live[n] = 0 ∧ t.gate.admitted[n] = 0) ∧
    t.gate.presenceTime = 150 ∧ t.gate.barrierTime = 4 ∧ t.gate.voidTime = 60 ∧ t.gate.stuckTime = 90 ∧
    (∀ n : Fin 6, t.shows.screens[n] =
      { state := .dark, list := [], current := none, start := none
        reasons := { sound := false, projector := false, operator := false }
        remaining := none, overrun := false, runReq := false, pauseReq := false
        running := { raw := s.shows.screens[n].running.raw, level := false, timer := none }
        fault := { raw := s.shows.screens[n].fault.raw, level := false, timer := none }
        mark := { raw := s.shows.screens[n].mark.raw, armed := true, timer := none }
        startTimer := none }) ∧
    t.shows.startTimeout = 30 ∧ t.shows.graceTime = 120 ∧
    (∀ n : Fin 6, t.chans.sounds[n] =
      { sound := .off, wanting := false, chsel := 0, carrierOk := s.chans.sounds[n].carrierOk
        carrierLevel := false, faultTimer := none, spent := false, announceTimer := none }) ∧
    (∀ c : Fin 12, t.chans.channels[c] = { permitted := false, state := .free }) ∧
    t.chans.faultTime = 2000 ∧ t.chans.announceTime = 20 ∧ t.chans.quarantineTime = 1800 ∧
    t.chans.secondTimer = none ∧
    (∀ r : Fin 48, t.posts.rows[r] = Row.reset s.posts.rows[r].finding) ∧
    t.posts.onTime = 40 ∧ t.posts.dropoutTime = 12 ∧ t.posts.maximumHold = 3000 ∧ t.posts.offTime = 40 ∧
    t.posts.cycleTime = 100 ∧ t.posts.interKeyTime = 8000 ∧ t.posts.requests = [] ∧ t.posts.answers = [] ∧
    (∀ d : Fin 8, t.doms.domains[d] =
      { state := .waking, plan := false, status := false, stopReq := false
        ready := { raw := s.doms.domains[d].ready.raw, level := false, timer := none }
        stopAck := { raw := s.doms.domains[d].stopAck.raw, level := false, timer := none }
        timer := none }) ∧
    t.doms.acknowledgeTime = 5 ∧ t.doms.wakeTime = 30 ∧
    t.store.op = none ∧ t.store.last = none ∧ t.store.locked = false ∧
    (s.store.op = none → t.store.units = s.store.units) ∧
    (∀ area unit content timer, s.store.op = some (.program area unit content timer) →
      ∀ i : Fin 384, if i = unitIndex area unit then t.store.units[i].status = .uncorrectable
        else t.store.units[i] = s.store.units[i]) ∧
    (∀ area timer, s.store.op = some (.erase area timer) →
      ∀ i : Fin 384, if i.val / 64 = area.val then t.store.units[i].status = .uncorrectable
        else t.store.units[i] = s.store.units[i])

/-- RESET_RELEASE begins the start-up check: its time runs; every slot is written with its pattern, once more when it does
not read back clean, and the slots that did not are counted, whatever their second write leaves; the store is scanned
with its events at the monitor; and nothing but the record slots, the booth port, the monitor and the system record
changes. What each write of a slot leaves is the model's list of flaws (log 6), and both parts of the check taken whole
at its beginning are the model's choice (log 20). START_UP_CHECK_END: the report is made, the
patrol timer starts with its period, the carrier levels are taken, each domain takes its first state by READY, and the
part runs; nothing else changes but the timers of the qualified inputs, which run where the pin differs from the level.
The 250 ms of the check (log 20), the beginning of the channel manager's first second (log 21), an input that takes its
first level without a mark before it (log 3), and the end of the check taken whenever the check runs (log 8) are the
model's choices. -/
def Obligations.StartUpCheck : Prop :=
  (∀ s : State,
    (s.sys.phase = .held → ∃ t : State, exec .resetRelease s = .next t ∧
      (let fails (flaws : List Health) : Bool := flaws.headD .clean ≠ .clean;
        t.sys = { s.sys with
          phase := .checking, checkTimer := some 250, scan := t.sys.scan
          failing := s.mem.admissions.toList.countP (fun x => fails x.flaws) +
            s.mem.orders.toList.countP (fun x => fails x.flaws) +
            s.mem.stalls.toList.countP (fun x => fails x.flaws) }) ∧
      (let last (flaws : List Health) : Health :=
        if flaws.headD .clean = .clean then .clean else flaws.tail.headD .clean;
      let left (flaws : List Health) : List Health :=
        if flaws.headD .clean = .clean then flaws.tail else flaws.tail.tail;
      (∀ a : Fin 1024, t.mem.admissions[a] = { s.mem.admissions[a] with
        content := Admission.freePattern, health := last s.mem.admissions[a].flaws
        flaws := left s.mem.admissions[a].flaws }) ∧
      (∀ o : Fin 256, t.mem.orders[o] = { s.mem.orders[o] with
        content := Order.freePattern, health := last s.mem.orders[o].flaws
        flaws := left s.mem.orders[o].flaws }) ∧
      (∀ i : Fin 1024, t.mem.stalls[i] = { s.mem.stalls[i] with
        content := Stall.unusedPattern, health := last s.mem.stalls[i].flaws
        flaws := left s.mem.stalls[i].flaws })) ∧
      t.mem = { s.mem with
        admissions := t.mem.admissions, orders := t.mem.orders, stalls := t.mem.stalls } ∧
      t.sys.scan.corrected = s.store.units.toList.countP (fun u => u.health = .single) ∧
      (t.sys.scan.firstBad = none ↔ ∀ i : Fin 384, s.store.units[i].health ≠ .double) ∧
      (∀ area unit, t.sys.scan.firstBad = some (area, unit) →
        s.store.units[unitIndex area unit].health = .double ∧
        ∀ j : Fin 384, j < unitIndex area unit → s.store.units[j].health ≠ .double) ∧
      t.sys.scan.identity = (if (s.store.unit 0 0).health = .double then none
        else some ((s.store.unit 0 0).bytes.toList.take 11)) ∧
      (s.mon.count ≤ 65535 → t.mon.count =
        min (s.mon.count + s.store.units.toList.countP (fun u => u.health ≠ .clean)) 65535) ∧
      (s.mon.trap ≠ none ∨ (∀ i : Fin 384, s.store.units[i].health = .clean) → t.mon.trap = s.mon.trap) ∧
      (∀ i : Fin 384, s.mon.trap = none → s.store.units[i].health ≠ .clean →
        (∀ j : Fin 384, j < i → s.store.units[j].health = .clean) →
        t.mon.trap = some (.store (areaOf i) (unitOf i),
          if s.store.units[i].health = .single then .single else .double)) ∧
      t.booth = (if t.sys.scan.firstBad = none then s.booth else s.booth.raise (kindSet 14)) ∧
      t = { s with sys := t.sys, mem := t.mem, mon := t.mon, booth := t.booth }) ∧
    (s.sys.phase ≠ .held → exec .resetRelease s = .next s)) ∧
  ∀ s : State, s.sys.phase = .checking → ∃ t : State, exec .startUpCheckEnd s = .next t ∧
    t.sys = { s.sys with
      phase := .running, checkTimer := none
      report := { failing := s.sys.failing, scan := s.sys.scan } } ∧
    t.mem = { s.mem with patrolTimer := some s.mem.patrolPeriod } ∧
    (let begun (time : Nat) (x : Input) : Input :=
        { x with timer := if x.raw = x.level then none else some time };
      (∀ n : Fin 4, t.gate.lanes[n] = { s.gate.lanes[n] with
        loopA := begun s.gate.presenceTime s.gate.lanes[n].loopA
        loopB := begun s.gate.presenceTime s.gate.lanes[n].loopB }) ∧
      (∀ n : Fin 6, t.shows.screens[n] = { s.shows.screens[n] with
        running := begun 50 s.shows.screens[n].running, fault := begun 50 s.shows.screens[n].fault
        mark := { s.shows.screens[n].mark with
          timer := if s.shows.screens[n].mark.raw = s.shows.screens[n].mark.armed then some 20
            else none } })) ∧
    (∀ n : Fin 6, t.chans.sounds[n] = { s.chans.sounds[n] with carrierLevel := s.chans.sounds[n].carrierOk }) ∧
    (∀ d : Fin 8, let x := s.doms.domains[d]
      t.doms.domains[d] = { x with
        state := if x.ready.raw then .active else .waking, stopReq := false
        ready := { raw := x.ready.raw, level := x.ready.raw, timer := none }
        stopAck := { raw := x.stopAck.raw, level := x.stopAck.raw, timer := none }
        timer := if x.ready.raw then none else some (s.doms.wakeTime * 1000) }) ∧
    t = { s with
      sys := t.sys, mem := t.mem, gate := { s.gate with lanes := t.gate.lanes }
      shows := { s.shows with screens := t.shows.screens }
      chans := { s.chans with sounds := t.chans.sounds, secondTimer := some 1000 }
      doms := { s.doms with domains := t.doms.domains } }

/-! ## Records and check words (chapter 1) -/

/-- An event at the monitor raises the count by one unless it stands at 65,535, and fills an empty trap. A read of an
admission or order slot: a marked slot is not checked and is found damaged; a clean one gives its content; a single
error is corrected, written back and counted; a double error sets the mark, counts the event, raises RECORD_DAMAGED on
both ports and gives no content. No other slot changes.
What a write of a slot leaves is the model's list of flaws (log 6). -/
def Obligations.ReadsOfRecords : Prop :=
  (∀ (place : EventPlace) (kind : EventKind) (s : State),
    s.event place kind =
      { s with
        mon :=
          { count := if s.mon.count < 65535 then s.mon.count + 1 else s.mon.count
            trap := match s.mon.trap with
              | none => some (place, kind)
              | some x => some x } }) ∧
  (∀ (a : Fin 1024) (s : State),
    (s.mem.admissions[a].marked = true → s.readAdm a = (none, s)) ∧
    (s.mem.admissions[a].marked = false → s.mem.admissions[a].health = .clean →
      s.readAdm a = (some s.mem.admissions[a].content, s)) ∧
    (s.mem.admissions[a].marked = false → s.mem.admissions[a].health = .single →
      s.readAdm a = (some s.mem.admissions[a].content,
        ({ s with mem := { s.mem with
          admissions := upd s.mem.admissions a fun x =>
            { x with health := x.flaws.headD .clean, flaws := x.flaws.tail } } }).event (.admission a) .single)) ∧
    (s.mem.admissions[a].marked = false → s.mem.admissions[a].health = .double →
      s.readAdm a = (none,
        ((({ s with mem := { s.mem with
          admissions := upd s.mem.admissions a fun x => { x with marked := true }
          admMarks := s.mem.admMarks + 1 } }).event (.admission a) .double).raiseBooth
            .recordDamaged).raiseCounter .recordDamaged))) ∧
  ∀ (o : Fin 256) (s : State),
    (s.mem.orders[o].marked = true → s.readOrder o = (none, s)) ∧
    (s.mem.orders[o].marked = false → s.mem.orders[o].health = .clean →
      s.readOrder o = (some s.mem.orders[o].content, s)) ∧
    (s.mem.orders[o].marked = false → s.mem.orders[o].health = .single →
      s.readOrder o = (some s.mem.orders[o].content,
        ({ s with mem := { s.mem with
          orders := upd s.mem.orders o fun x =>
            { x with health := x.flaws.headD .clean, flaws := x.flaws.tail } } }).event (.order o) .single)) ∧
    (s.mem.orders[o].marked = false → s.mem.orders[o].health = .double →
      s.readOrder o = (none,
        ((({ s with mem := { s.mem with
          orders := upd s.mem.orders o fun x => { x with marked := true }
          orderMarks := s.mem.orderMarks + 1 } }).event (.order o) .double).raiseBooth
            .recordDamaged).raiseCounter .recordDamaged))

/-- The record that a retirement leaves: the slot holds the free pattern, unmarked, at the next generation and at the tail
of the free list, so that the handle it had names nothing any more; creation of an admission or an order takes the head
of the free list and leaves the generation. An order that retires leaves the kitchen queue and its runner, and the
retirement of an admission lowers its screen's live count. Each of them, and a screen that goes DARK, closes a night in
CLOSING once nothing is live and every screen is DARK: the clock stops, the store is unlocked, NIGHT_CLOSED is raised
and no window is open. -/
def Obligations.RetirementAndCreation : Prop :=
  (∀ (a : Fin 1024) (s : State),
    let t := s.retireAdmSlot a
    t.mem.admissions[a].content = Admission.freePattern ∧ t.mem.admissions[a].marked = false ∧
    t.mem.admGen[a] = s.mem.admGen[a] + 1 ∧ t.mem.admFree = s.mem.admFree ++ [a] ∧
    t.admCurrent (s.admHandle a) = false ∧
    (∀ b : Fin 1024, b ≠ a → t.mem.admissions[b] = s.mem.admissions[b] ∧
      t.mem.admGen[b] = s.mem.admGen[b]) ∧
    t = { s with mem := t.mem }) ∧
  (∀ (o : Fin 256) (s : State),
    let t := s.retireOrderSlot o
    t.mem.orders[o].content = Order.freePattern ∧ t.mem.orders[o].marked = false ∧
    t.mem.orderGen[o] = s.mem.orderGen[o] + 1 ∧ t.mem.orderFree = s.mem.orderFree ++ [o] ∧
    t.orderCurrent (s.orderHandle o) = false ∧
    (∀ b : Fin 256, b ≠ o → t.mem.orders[b] = s.mem.orders[b] ∧ t.mem.orderGen[b] = s.mem.orderGen[b]) ∧
    t = { s with mem := t.mem }) ∧
  (∀ (a : Fin 1024) (rest : List (Fin 1024)) (x : Admission) (s : State), s.mem.admFree = a :: rest →
    let t := s.createAdm a x
    t.mem.admissions[a].content = x ∧ t.mem.admFree = rest ∧ t.mem.admGen = s.mem.admGen ∧
    (a ∉ rest → t.admCurrent (s.admHandle a) = true) ∧
    (∀ b : Fin 1024, b ≠ a → t.mem.admissions[b] = s.mem.admissions[b]) ∧ t = { s with mem := t.mem }) ∧
  (∀ (o : Fin 256) (rest : List (Fin 256)) (x : Order) (s : State), s.mem.orderFree = o :: rest →
    let t := s.createOrder o x
    t.mem.orders[o].content = x ∧ t.mem.orderFree = rest ∧ t.mem.orderGen = s.mem.orderGen ∧
    (o ∉ rest → t.orderCurrent (s.orderHandle o) = true) ∧
    (∀ b : Fin 256, b ≠ o → t.mem.orders[b] = s.mem.orders[b]) ∧ t = { s with mem := t.mem }) ∧
  (∀ (o : Fin 256) (s : State),
    let kept (r : Runner) : List (Fin 256) := r.carried.filter fun k => k ≠ o
    s.retireOrder o = { s.retireOrderSlot o with ords := { s.ords with
      kitchen := s.ords.kitchen.filter fun k => k ≠ o
      runners := s.ords.runners.map fun (r : Runner) =>
        if o ∈ r.carried then { r with carried := kept r, tripTimer := if kept r = [] then none else r.tripTimer }
        else r } }.examineClose) ∧
  (∀ (a : Fin 1024) (s : State), let u := s.retireAdmSlot a
    s.retireAdm a none = u.examineClose ∧
    ∀ n : Fin 6, let v := { u with gate := { u.gate with live := upd u.gate.live n fun k => k - 1 } }
      s.retireAdm a (some n) =
        if u.shows.screens[n].state = .ended ∧ v.gate.live[n] = 0 then (v.goDark n).examineClose
        else v.examineClose) ∧
  (∀ s : State,
    let gone := s.mem.admFree.length = 1024 ∧ s.mem.orderFree.length = 256 ∧
      ∀ n : Fin 6, s.shows.screens[n].state = .dark
    (¬ (s.night.state = .closing ∧ gone) → s.examineClose = s) ∧
    (s.night.state = .closing → gone →
      let t := s.examineClose
      t.night = { s.night with state := .closed, secondTimer := none } ∧
      t.store = { s.store with locked := false } ∧ t.booth = s.booth.raise (kindSet 17) ∧
      (∀ n : Fin 6, t.ords.windows[n] = false) ∧
      t = { s with night := t.night, store := t.store, booth := t.booth, disp := t.disp
                   ords := { s.ords with windows := t.ords.windows } })) ∧
  ∀ (n : Fin 6) (s : State),
    let t := s.goDark n
    let gone := s.mem.admFree.length = 1024 ∧ s.mem.orderFree.length = 256 ∧
      ∀ m : Fin 6, m ≠ n → s.shows.screens[m].state = .dark
    t.shows.screens[n].state = .dark ∧ t.shows.screens[n].current = none ∧
    t.shows.screens[n].start = none ∧ t.chans.sounds[n].wanting = false ∧
    (s.night.state = .closing → gone → t.night = { s.night with state := .closed, secondTimer := none } ∧
      t.store = { s.store with locked := false } ∧ t.booth.attention &&& kindSet 17 ≠ 0) ∧
    (¬ (s.night.state = .closing ∧ gone) → t.night = s.night ∧ t.store = s.store)

/-- PATROL_READ: the slot at the patrol position is read as a live record, skipped when it is marked, and as a free or
unused slot is rewritten and its error counted, without a mark and without an attention; the position moves on by one
in the round of 2,304 slots, and the timer restarts with its period. The expiry acts whenever its timer runs
(log 8).
What a write of a slot leaves is the model's list of flaws (log 6). -/
def Obligations.PatrolReadsNextSlot : Prop :=
  ∀ s : State, s.sys.phase = .running → s.mem.patrolTimer ≠ none →
    let k := s.mem.patrolPosition
    let next (u : State) : State :=
      { u with mem := { u.mem with patrolPosition := k + 1, patrolTimer := some s.mem.patrolPeriod } }
    (∀ a : Fin 1024, k.val = a.val →
      (s.admLive a = true → exec .patrolRead s = .next (next (s.readAdm a).2)) ∧
      (s.admLive a = false → s.mem.admissions[a].health = .clean → exec .patrolRead s = .next (next s)) ∧
      (s.admLive a = false → s.mem.admissions[a].health ≠ .clean →
        exec .patrolRead s = .next (next
          ((s.modAdmSlot a fun x => { x with
            content := Admission.freePattern, health := x.flaws.headD .clean, flaws := x.flaws.tail }).event
            (.admission a) (if s.mem.admissions[a].health = .single then .single else .double))))) ∧
    (∀ i : Fin 1024, k.val = 1024 + i.val →
      (s.lot.inUse i = true → exec .patrolRead s = .next (next (s.readStall i).2)) ∧
      (s.lot.inUse i = false → s.mem.stalls[i].health = .clean → exec .patrolRead s = .next (next s)) ∧
      (s.lot.inUse i = false → s.mem.stalls[i].health ≠ .clean →
        exec .patrolRead s = .next (next
          ((s.modStallSlot i fun x => { x with
            content := Stall.unusedPattern, health := x.flaws.headD .clean, flaws := x.flaws.tail }).event
            (.stall i) (if s.mem.stalls[i].health = .single then .single else .double))))) ∧
    ∀ o : Fin 256, k.val = 2048 + o.val →
      (s.orderLive o = true → exec .patrolRead s = .next (next (s.readOrder o).2)) ∧
      (s.orderLive o = false → s.mem.orders[o].health = .clean → exec .patrolRead s = .next (next s)) ∧
      (s.orderLive o = false → s.mem.orders[o].health ≠ .clean →
        exec .patrolRead s = .next (next
          ((s.modOrderSlot o fun x => { x with
            content := Order.freePattern, health := x.flaws.headD .clean, flaws := x.flaws.tail }).event
            (.order o) (if s.mem.orders[o].health = .single then .single else .double))))

/-! ## The lot (chapter 2) -/

/-- A good field stall number has one row, within the field, and one position, within that row's length; the numbers run
row by row. A command's name of a stall is refused BAD_STATE with no layout and BAD_PARAM for a screen outside 1 to 6,
a screen with no field or a number outside the field, and otherwise reaches the stall's slot. -/
def Obligations.StallNames : Prop :=
  (∀ (f : Field) (screen : Fin 6) (n : Nat), f.pattern.leastRows ≤ f.rowCount → f.rowCount ≤ 8 →
    1 ≤ n → n ≤ f.pattern.stallCount f.rowCount →
    let x := f.stall screen n
    x.number = n ∧ x.screen = screen ∧ 1 ≤ x.row ∧ x.row ≤ f.rowCount ∧
    1 ≤ x.position ∧ x.position ≤ x.kind.rowLength ∧
    n = f.pattern.stallsBefore f.rowCount x.row + x.position) ∧
  ∀ (l : LotMap) (screen : Byte) (stall : Word16),
    ((∀ n : Fin 6, l.fields[n] = none) → l.named screen stall = .error .badState) ∧
    ((∃ n : Fin 6, l.fields[n] ≠ none) →
      (¬ (1 ≤ screen.toNat ∧ screen.toNat ≤ 6) → l.named screen stall = .error .badParam) ∧
      ∀ n : Fin 6, screen.toNat = n.val + 1 →
        (l.fields[n] = none → l.named screen stall = .error .badParam) ∧
        ∀ f, l.fields[n] = some f →
          (¬ (1 ≤ stall.toNat ∧ stall.toNat ≤ f.stallCount) → l.named screen stall = .error .badParam) ∧
          (1 ≤ stall.toNat ∧ stall.toNat ≤ f.stallCount →
            l.named screen stall = .ok (n, Fin.ofNat 1024 (f.firstIndex + stall.toNat - 1))))

/-- A change of a stall's state moves one count, within the stall's kind, from the state it was counted under to the
new one; every other tally and every other stall's counted state stays. A read of a stall: clean, its content; with a
single error, its content, written back and counted; with a double error, the stall rebuilt from the field records and
the occupant entry, its mark set and cleared again, the event counted, RECORD_DAMAGED raised on both ports, and the
tallies moved.
What a write of a slot leaves is the model's list of flaws (log 6). -/
def Obligations.StallReadsAndTallies : Prop :=
  (∀ (i : Fin 1024) (st : StallState) (l : LotMap) (x : Stall), l.place i = some x →
    0 < l.tally x.screen x.kind l.counted[i] →
    let t := l.recount i st
    t.counted[i] = st ∧ (∀ j : Fin 1024, j ≠ i → t.counted[j] = l.counted[j]) ∧
    (st = l.counted[i] → ∀ n k y, t.tally n k y = l.tally n k y) ∧
    (st ≠ l.counted[i] →
      t.tally x.screen x.kind l.counted[i] + 1 = l.tally x.screen x.kind l.counted[i] ∧
      t.tally x.screen x.kind st = l.tally x.screen x.kind st + 1 ∧
      ∀ n k y, ¬ (n = x.screen ∧ k = x.kind ∧ (y = st ∨ y = l.counted[i])) →
        t.tally n k y = l.tally n k y) ∧
    t.fields = l.fields ∧ t.occupants = l.occupants ∧ t.queues = l.queues) ∧
  (∀ (i : Fin 1024) (s : State),
    (s.mem.stalls[i].health = .clean → s.readStall i = (s.mem.stalls[i].content, s)) ∧
    (s.mem.stalls[i].health = .single →
      s.readStall i = (s.mem.stalls[i].content,
        (s.modStallSlot i fun x =>
          { x with health := x.flaws.headD .clean, flaws := x.flaws.tail }).event (.stall i) .single)) ∧
    (s.mem.stalls[i].health = .double → ∀ x, s.lot.place i = some x →
      let y : Stall :=
        if s.lot.occupants[i] = none then
          { x with closed := true, closePending := false, cause := some .damage }
        else { x with closed := false, closePending := false, cause := none }
      s.readStall i = (y,
        ((((s.modStallSlot i fun z => { z with
          content := y, health := z.flaws.headD .clean, flaws := z.flaws.tail, marked := false }).event
          (.stall i) .double).raiseBooth .recordDamaged).raiseCounter .recordDamaged).modLot
            (LotMap.recount i (y.state s.lot.occupants[i])))))

/-- CLOSE_STALL and OPEN_STALL on a good name, by the state of the stall as read; a bad name is answered with the status of
its naming and changes nothing. -/
def Obligations.StallCommands : Prop :=
  ∀ (screen : Byte) (stall : Word16) (s : State),
    (∀ status, s.lot.named screen stall = .error status →
      (s.takes .booth 0x20 →
        exec (.closeStall .booth screen stall) s = .next (s.answer .booth 0x20 status [])) ∧
      (s.takes .booth 0x21 →
        exec (.openStall .booth screen stall) s = .next (s.answer .booth 0x21 status []))) ∧
    ∀ (n : Fin 6) (i : Fin 1024) (x : Stall) (u : State), s.lot.named screen stall = .ok (n, i) →
      s.readStall i = (x, u) →
      (s.takes .booth 0x20 →
        (x.state u.lot.occupants[i] = .free →
          exec (.closeStall .booth screen stall) s =
            .next ((u.writeStall i fun y => { y with closed := true, cause := some .operator }).answer .booth
              0x20 .ok [1, flagByte x.closePending])) ∧
        (∀ st, st = .reserved ∨ st = .occupied → x.state u.lot.occupants[i] = st →
          exec (.closeStall .booth screen stall) s =
            .next ((if x.closePending then u
              else u.writeStall i fun y => { y with closePending := true }).answer .booth 0x20 .ok
                [byte1 st.number, 1])) ∧
        (x.state u.lot.occupants[i] = .closed →
          exec (.closeStall .booth screen stall) s =
            .next (u.answer .booth 0x20 .ok [1, flagByte x.closePending]))) ∧
      (s.takes .booth 0x21 →
        (x.state u.lot.occupants[i] = .closed →
          let v := u.writeStall i fun y => { y with closed := false, cause := none }
          let w := v.examineQueue i x.kind v.lot.queues[x.screen]
          exec (.openStall .booth screen stall) s =
            .next (w.answer .booth 0x21 .ok
              [byte1 (w.stallState i).number, flagByte (w.stall i).closePending])) ∧
        (∀ st, st = .reserved ∨ st = .occupied → x.state u.lot.occupants[i] = st →
          exec (.openStall .booth screen stall) s =
            .next ((if x.closePending then u.writeStall i fun y => { y with closePending := false }
              else u).answer .booth 0x21 .ok [byte1 st.number, 0])) ∧
        (x.state u.lot.occupants[i] = .free →
          exec (.openStall .booth screen stall) s =
            .next (u.answer .booth 0x21 .ok [2, flagByte x.closePending])))

/-- The release examination: the members of the queue are read from the head; one that is damaged, PAYING, LEAVING or
does not fit is skipped; the first that fits is given the stall, as a reservation while ISSUED, and seated in it with
SEATED_FROM_QUEUE while WAITING; it leaves the queue. -/
def Obligations.ReleaseExamination : Prop :=
  ∀ (i a : Fin 1024) (kind : StallKind) (rest : List (Fin 1024)) (s u : State),
    s.examineQueue i kind [] = s ∧
    (s.readAdm a = (none, u) → s.examineQueue i kind (a :: rest) = u.examineQueue i kind rest) ∧
    ∀ x, s.readAdm a = (some x, u) →
      ((x.state ≠ .issued ∧ x.state ≠ .waiting) ∨ x.cls.fits kind = false →
        s.examineQueue i kind (a :: rest) = u.examineQueue i kind rest) ∧
      (x.state = .issued → x.cls.fits kind = true →
        s.examineQueue i kind (a :: rest) =
          ((u.modLot (LotMap.leaveQueue a)).holdStall i a .reservation).writeAdm a fun y =>
            { y with stall := some (u.lot.numberOf i) }) ∧
      (x.state = .waiting → x.cls.fits kind = true →
        s.examineQueue i kind (a :: rest) =
          (((u.modLot (LotMap.leaveQueue a)).holdStall i a .occupation).writeAdm a fun y =>
            { y with stall := some (u.lot.numberOf i), state := .seated }).raiseBooth .seatedFromQueue)

/-- An allocation. A named stall is refused as its name is, or read: it is the result when it is FREE and fits the
class, and otherwise the answer is BAD_PARAM. With no stall named, the search of the field's stall is the result; when
it finds none, a place in the holding queue while the queue is below its capacity, and FULL otherwise. The search of a
field whose stalls read clean changes nothing and finds, for a CAR, the lowest FREE stall of the FRONT
and STANDARD kinds that have a FREE tally, or else the lowest FREE HIGH stall; for a TALL vehicle the lowest FREE HIGH
stall. -/
def Obligations.Allocation : Prop :=
  (∀ (screen : Byte) (n : Fin 6) (stall : Word16) (c : VehicleClass) (s : State),
    (stall ≠ 0 → ∀ status, s.lot.named screen stall = .error status →
      s.allocate screen n stall c = (.refused status, s)) ∧
    (∀ m i x u, stall ≠ 0 → s.lot.named screen stall = .ok (m, i) → s.readStall i = (x, u) →
      (x.state s.lot.occupants[i] = .free → (c = .car ∨ x.kind = .high) →
        s.allocate screen n stall c = (.stall i, u)) ∧
      (x.state s.lot.occupants[i] ≠ .free ∨ (c = .tall ∧ x.kind ≠ .high) →
        s.allocate screen n stall c = (.refused .badParam, u))) ∧
    (∀ i u, stall = 0 → s.searchField n c = (some i, u) → s.allocate screen n stall c = (.stall i, u)) ∧
    ∀ u, stall = 0 → s.searchField n c = (none, u) →
      (s.lot.queues[n].length < s.lot.capacity n → s.allocate screen n stall c = (.queued, u)) ∧
      (s.lot.capacity n ≤ s.lot.queues[n].length → s.allocate screen n stall c = (.refused .full, u))) ∧
  ∀ (n : Fin 6) (s : State),
    (∀ i ∈ s.lot.stallsOf n [.front, .standard, .high], s.stallClean i) →
    let free (kinds : List StallKind) :=
      (s.lot.stallsOf n (kinds.filter fun k => 0 < s.lot.tally n k .free)).find?
        fun i => s.stallState i = .free
    s.searchField n .car = (free [.front, .standard] <|> free [.high], s) ∧
    s.searchField n .tall = (free [.high], s)

/-- LOOKUP_STALL is answered with the 14 bytes of the stall as read, its occupant from the index store; READ_FIELD with the
43 bytes of the field record, the twelve tallies and the queue. Neither changes anything but what the read does. The order
of the tallies (log 36), and the zeros of a screen with no field (log 12), are the model's reading. -/
def Obligations.LotLookups : Prop :=
  (∀ (p : PortId) (screen : Byte) (stall : Word16) (s : State), s.takes p 0x22 →
    (∀ status, s.lot.named screen stall = .error status →
      exec (.lookupStall p screen stall) s = .next (s.answer p 0x22 status [])) ∧
    ∀ (n : Fin 6) (i : Fin 1024) (x : Stall) (u : State), s.lot.named screen stall = .ok (n, i) →
      s.readStall i = (x, u) →
      exec (.lookupStall p screen stall) s =
        .next (u.answer p 0x22 .ok
          (bytes2 x.number ++ [numberByte x.screen, byte1 x.row, byte1 x.position, byte1 x.kind.number] ++
            bytes2 i.val ++ [byte1 (x.state u.lot.occupants[i]).number] ++
            (match u.lot.occupants[i] with
              | none => [0, 0, 0]
              | some o => 1 :: (u.admHandle o.slot).bytes) ++
            [flagByte x.closePending, byte1 ((x.cause.map CloseCause.number).getD 0)]))) ∧
  ∀ (screen : Byte) (s : State), s.takes .booth 0x23 →
    (s.lot.loaded = false →
      exec (.readField .booth screen) s = .next (s.answer .booth 0x23 .badState [])) ∧
    (s.lot.loaded = true → ¬ (1 ≤ screen.toNat ∧ screen.toNat ≤ 6) →
      exec (.readField .booth screen) s = .next (s.answer .booth 0x23 .badParam [])) ∧
    (s.lot.loaded = true → ∀ n : Fin 6, screen.toNat = n.val + 1 →
      exec (.readField .booth screen) s =
        .next (s.answer .booth 0x23 .ok
          (s.lot.fieldBytes n ++ s.lot.tallyBytes n ++
            listBytes 8 2 (fun a => (s.admHandle a).bytes) s.lot.queues[n])) ∧
      (s.lot.queues[n].length ≤ 8 →
        (s.lot.fieldBytes n ++ s.lot.tallyBytes n ++
          listBytes 8 2 (fun a => (s.admHandle a).bytes) s.lot.queues[n]).length = 43) ∧
      (∀ f, s.lot.fields[n] = some f → s.lot.fieldBytes n =
        [byte1 (n.val + 1), byte1 f.rowCount, byte1 f.pattern.number, byte1 (f.home.val + 1), byte1 f.capacity,
          if f.ordersDuringFeature then 1 else 0] ++ bytes2 f.stallCount ++ bytes2 f.firstIndex) ∧
      (s.lot.fields[n] = none → s.lot.fieldBytes n = byte1 (n.val + 1) :: List.replicate 9 0) ∧
      s.lot.tallyBytes n =
        ([StallState.closed, .free, .reserved, .occupied].map fun st => byte1 (s.lot.tally n .front st)) ++
        ([StallState.closed, .free, .reserved, .occupied].flatMap fun st => bytes2 (s.lot.tally n .standard st)) ++
        [StallState.closed, .free, .reserved, .occupied].map fun st => byte1 (s.lot.tally n .high st))

/-! ## Gate lanes and admissions (chapter 3) -/

/-- The inputs of a lane. A new level on a loop input runs the presence timer while it differs from the qualified
level, while the part runs, and is only kept otherwise; UP high stops the barrier timer. The expiry of a presence
timer qualifies the level, and the lane takes the event by its state: arriving and leaving on loop A, the stop and
start of the void and return timers, tailgates and the beginning of a pass on loop B. A lane of role UNUSED keeps its
level only. That an expiry row acts whenever its timer runs (log 8), what a loop event does that the state tables do
not list, as in ISSUED, LEAVING and FAULTED (log 16), and that loop A clearing in ISSUED or LEAVING starts the timer also
when loop B was occupied as the lane entered that state and has stayed so (log 43), are the model's choices. -/
def Obligations.LaneInputs : Prop :=
  ∀ (n : Fin 4) (s : State),
    (∀ (loop : Loop) (occupied : Bool),
      exec (.loopInputChange n loop occupied) s =
        .next (s.modLane n (Lane.modLoop loop fun i =>
          if s.sys.phase = .running then
            if i.raw = occupied then i
            else { i with
              raw := occupied
              timer := if occupied = i.level then none else some s.gate.presenceTime }
          else { i with raw := occupied }))) ∧
    (∀ high, exec (.upChange n high) s = .next (s.modLane n fun l =>
      { l with up := high, barrierTimer := if high then none else l.barrierTimer })) ∧
    ∀ loop : Loop, s.sys.phase = .running → (s.gate.lanes[n].loop loop).timer ≠ none →
      let l := s.gate.lanes[n]
      let q := s.modLane n (Lane.modLoop loop fun i => { i with level := i.raw, timer := none })
      let result (t : State) : Prop := exec (.presenceTimerExpiry n loop) s = .next t
      (l.role = .unused → result q) ∧
      (l.role ≠ .unused → loop = .a → l.loopA.raw = true →
        (l.state = .idle →
          result ((q.modLane n fun x => { x with state := .present }).raiseBooth .lanePresent)) ∧
        (l.state = .issued → result (q.modLane n fun x => { x with voidTimer := none })) ∧
        (l.state = .leaving → result (q.modLane n fun x => { x with returnTimer := none })) ∧
        (l.state = .present ∨ l.state = .passing ∨ l.state = .faulted ∨ l.state = .paying → result q)) ∧
      (l.role ≠ .unused → loop = .a → l.loopA.raw = false →
        (l.state = .present → result (q.modLane n fun x => { x with state := .idle })) ∧
        (l.state = .issued →
          result (q.modLane n fun x => { x with voidTimer := some (s.gate.voidTime * 1000) })) ∧
        (l.state = .leaving →
          result (q.modLane n fun x => { x with returnTimer := some (s.gate.voidTime * 1000) })) ∧
        (l.state = .idle ∨ l.state = .passing ∨ l.state = .faulted → result q)) ∧
      (l.role ≠ .unused → loop = .b → l.loopB.raw = true →
        (l.state = .idle ∨ l.state = .present ∨ l.state = .paying →
          result ((q.modLane n fun x =>
            { x with
              stuckTimer := some (s.gate.stuckTime * 1000)
              tailgates := min (x.tailgates + 1) 65535 }).raiseBooth .tailgate)) ∧
        (l.state = .issued ∨ l.state = .leaving →
          result (q.modLane n fun x =>
            { x with
              stuckTimer := some (s.gate.stuckTime * 1000), state := .passing
              voidTimer := none, returnTimer := none })) ∧
        (l.state = .passing →
          result (q.modLane n fun x => { x with stuckTimer := some (s.gate.stuckTime * 1000) })) ∧
        (l.state = .faulted → result q)) ∧
      (l.role ≠ .unused → loop = .b → l.loopB.raw = false → l.state ≠ .passing →
        result (q.modLane n fun x => { x with stuckTimer := none }))

/-- Loop B clears on a lane in PASSING. At an ENTRY lane the admission is parked: its binding ends, a held stall
becomes OCCUPIED, a queued one keeps its place, its state becomes SEATED or WAITING when its record is readable, and
the pass and admitted counts rise. At an EXIT lane an admission that is not marked has gone and the pass count rises;
a marked one faults the lane with cause RECORD and keeps everything else. That an expiry row acts whenever its timer runs
(log 8), that the EXIT pass goes by the damage mark and reads no record (log 22), and that an admitted count at 65,535
stays there (log 27), are the model's choices. -/
def Obligations.LanePasses : Prop :=
  ∀ (n : Fin 4) (a : Fin 1024) (s : State), s.sys.phase = .running →
    s.gate.lanes[n].loopB.timer ≠ none → s.gate.lanes[n].loopB.raw = false →
    s.gate.lanes[n].state = .passing → s.gate.lanes[n].bound = some a →
    (s.gate.lanes[n].role = .entry → ∃ t : State, exec (.presenceTimerExpiry n .b) s = .next t ∧
      t.gate.lanes[n].bound = none ∧ t.gate.lanes[n].raise = false ∧
      t.gate.lanes[n].state = (if s.gate.lanes[n].loopA.level then .present else .idle) ∧
      t.gate.lanes[n].passes = min (s.gate.lanes[n].passes + 1) 65535 ∧
      (∀ m : Fin 4, m ≠ n → t.gate.lanes[m] = s.gate.lanes[m]) ∧
      (∀ i, s.lot.stallHeldBy a = some i →
        t.lot.occupants[i] = some { slot := a, hold := .occupation } ∧
        ∀ j : Fin 1024, j ≠ i → t.lot.occupants[j] = s.lot.occupants[j]) ∧
      t.lot.queues = s.lot.queues ∧ t.gate.live = s.gate.live ∧
      (∀ m, s.lot.screenOf a = some m →
        t.gate.admitted = upd s.gate.admitted m fun k => min (k + 1) 65535) ∧
      (s.admClean a → t.adm a =
        { s.adm a with state := if s.lot.stallHeldBy a = none then .waiting else .seated }) ∧
      (s.mem.admissions[a].marked = true → t.mem = s.mem) ∧
      t = { s with gate := t.gate, mem := t.mem, lot := t.lot, mon := t.mon, booth := t.booth,
                   counter := t.counter }) ∧
    (s.gate.lanes[n].role = .exit → s.mem.admissions[a].marked = false →
      ∃ t : State, exec (.presenceTimerExpiry n .b) s = .next t ∧ s.gone t n a ∧
        t.gate.lanes[n].passes = min (s.gate.lanes[n].passes + 1) 65535) ∧
    (s.gate.lanes[n].role = .exit → s.mem.admissions[a].marked = true →
      exec (.presenceTimerExpiry n .b) s =
        .next ((s.modLane n fun l =>
          { l with
            loopB := { l.loopB with level := false, timer := none }
            state := .faulted, cause := some .record, faultedFrom := some .passing, raise := false
            barrierTimer := none, stuckTimer := none, voidTimer := none, returnTimer := none }).raiseBooth
              .laneFault))

/-- The barrier timer faults its lane with cause BARRIER and the stuck timer with cause STUCK, but a lane already
FAULTED keeps its fault; each fault drops RAISE, stops the barrier, void and return timers, keeps the binding and
raises LANE_FAULT. The void of an ISSUED admission, at the expiry of its lane's void timer or by VOID: the admission
has gone, the void-or-return count rises, and VOIDED is raised. At the timer a marked admission faults the lane with
cause RECORD; VOID is answered STALE, DAMAGED or BAD_STATE by its checks in order. That an expiry row acts whenever its
timer runs, a barrier timer in a FAULTED lane among them (log 8), and that the void timer goes by the damage mark and
reads no record (log 22), are the model's choices. -/
def Obligations.LaneTimersAndVoids : Prop :=
  (∀ (n : Fin 4) (s : State), s.sys.phase = .running →
    (s.gate.lanes[n].barrierTimer ≠ none → s.gate.lanes[n].state ≠ .faulted →
      exec (.barrierTimerExpiry n) s =
        .next ((s.modLane n fun l =>
          { l with
            state := .faulted, cause := some .barrier, faultedFrom := some l.state, raise := false
            barrierTimer := none, voidTimer := none, returnTimer := none }).raiseBooth .laneFault)) ∧
    (s.gate.lanes[n].barrierTimer ≠ none → s.gate.lanes[n].state = .faulted →
      exec (.barrierTimerExpiry n) s = .next (s.modLane n fun l => { l with barrierTimer := none })) ∧
    (s.gate.lanes[n].stuckTimer ≠ none → s.gate.lanes[n].state ≠ .faulted →
      exec (.stuckTimerExpiry n) s =
        .next ((s.modLane n fun l =>
          { l with
            state := .faulted, cause := some .stuck, faultedFrom := some l.state, raise := false
            barrierTimer := none, stuckTimer := none, voidTimer := none
            returnTimer := none }).raiseBooth .laneFault)) ∧
    (s.gate.lanes[n].stuckTimer ≠ none → s.gate.lanes[n].state = .faulted →
      exec (.stuckTimerExpiry n) s = .next (s.modLane n fun l => { l with stuckTimer := none }))) ∧
  (∀ (n : Fin 4) (a : Fin 1024) (s : State), s.sys.phase = .running →
    s.gate.lanes[n].voidTimer ≠ none → s.gate.lanes[n].state = .issued →
    s.gate.lanes[n].bound = some a → s.gate.lanes[n].role = .entry →
    (s.mem.admissions[a].marked = false → ∃ t : State, exec (.voidTimerExpiry n) s = .next t ∧ s.gone t n a ∧
      t.gate.lanes[n].voids = min (s.gate.lanes[n].voids + 1) 65535 ∧
      t.booth.attention &&& kindSet 3 ≠ 0) ∧
    (s.mem.admissions[a].marked = true →
      exec (.voidTimerExpiry n) s =
        .next ((s.modLane n fun l =>
          { l with
            state := .faulted, cause := some .record, faultedFrom := some .issued, raise := false
            barrierTimer := none, voidTimer := none, returnTimer := none }).raiseBooth .laneFault))) ∧
  ∀ (handle : Word16) (s u : State), s.takes .booth 0x11 →
    let h := AdmHandle.ofWord handle
    (s.admCurrent h = false → exec (.void .booth handle) s = .next (s.answer .booth 0x11 .stale [])) ∧
    (s.admCurrent h = true → s.readAdm h.slot = (none, u) →
      exec (.void .booth handle) s = .next (u.answer .booth 0x11 .damaged [])) ∧
    ∀ x, s.admCurrent h = true → s.readAdm h.slot = (some x, u) →
      (x.state ≠ .issued ∨ u.gate.laneOf h.slot = none →
        exec (.void .booth handle) s = .next (u.answer .booth 0x11 .badState [])) ∧
      (∀ n, x.state = .issued → u.gate.laneOf h.slot = some n → u.gate.lanes[n].role = .entry →
        ∃ t : State, exec (.void .booth handle) s = .next (t.answer .booth 0x11 .ok []) ∧ u.gone t n h.slot ∧
          t.gate.lanes[n].voids = min (u.gate.lanes[n].voids + 1) 65535 ∧
          t.booth.attention &&& kindSet 3 ≠ 0)

/-- The returns of an EXIT lane. At the return timer in LEAVING, and when loop A clears in PAYING, the lane goes IDLE
with nothing bound; a readable admission loses its exit lane and is SEATED again in the stall it holds, or WAITING,
unless the field then has a stall for it. Each return raises the void-or-return count, and loop A's return clears COLLECT
on the admission's orders. A tab clear takes a lane PAYING for that very admission to LEAVING, with RAISE and
EXIT_CLEARED, and is ignored otherwise. The step takes the oldest tab clear under way to its lane (log 9), the return of
R54 is one of those R59 counts (log 29), and an expiry row acts whenever its timer runs (log 8): the model's choices. -/
def Obligations.ReturnsAndTabClear : Prop :=
  (∀ (n : Fin 4) (a : Fin 1024) (s : State), s.sys.phase = .running →
    s.gate.lanes[n].returnTimer ≠ none → s.gate.lanes[n].state = .leaving →
    s.gate.lanes[n].bound = some a → ∃ t : State, exec (.returnTimerExpiry n) s = .next t ∧
      t.gate.lanes[n] = { s.gate.lanes[n] with
        state := .idle, bound := none, raise := false, barrierTimer := none, voidTimer := none
        returnTimer := none, voids := min (s.gate.lanes[n].voids + 1) 65535 } ∧
      (∀ m : Fin 4, m ≠ n → t.gate.lanes[m] = s.gate.lanes[m]) ∧
      (s.admClean a → (t.adm a).exitLane = none ∧
        ((t.adm a).state = .seated ∨ (t.adm a).state = .waiting)) ∧
      (s.admClean a → s.lot.stallHeldBy a ≠ none →
        t.adm a = { s.adm a with state := .seated, exitLane := none } ∧ t.lot = s.lot) ∧
      t = { s with gate := t.gate, mem := t.mem, lot := t.lot, mon := t.mon, booth := t.booth,
                   counter := t.counter }) ∧
  (∀ (n : Fin 4) (a : Fin 1024) (s : State), s.sys.phase = .running →
    s.gate.lanes[n].loopA.timer ≠ none → s.gate.lanes[n].loopA.raw = false →
    s.gate.lanes[n].role = .exit → s.gate.lanes[n].state = .paying →
    s.gate.lanes[n].bound = some a → ∃ t : State, exec (.presenceTimerExpiry n .a) s = .next t ∧
      t.gate.lanes[n] = { s.gate.lanes[n] with
        loopA := { s.gate.lanes[n].loopA with level := false, timer := none }
        state := .idle, bound := none, raise := false, barrierTimer := none, voidTimer := none
        returnTimer := none, voids := min (s.gate.lanes[n].voids + 1) 65535 } ∧
      (∀ m : Fin 4, m ≠ n → t.gate.lanes[m] = s.gate.lanes[m]) ∧
      (s.tabClean a → (t.adm a).exitLane = none ∧
        ((t.adm a).state = .seated ∨ (t.adm a).state = .waiting) ∧
        ∀ h ∈ (s.adm a).orders, t.order h.slot = { s.order h.slot with collect := false }) ∧
      t = { s with gate := t.gate, mem := t.mem, lot := t.lot, mon := t.mon, booth := t.booth,
                   counter := t.counter }) ∧
  ∀ (n : Fin 4) (h : AdmHandle) (before after : List (Fin 4 × AdmHandle)) (s : State),
    s.sys.phase = .running → s.ords.tabClears = before ++ (n, h) :: after → (∀ c ∈ before, c.1 ≠ n) →
    let u : State := { s with ords := { s.ords with tabClears := before ++ after } }
    (s.gate.lanes[n].state = .paying → s.gate.lanes[n].bound = some h.slot →
      s.mem.admGen[h.slot] = h.gen →
      exec (.tabClear n) s =
        .next (((u.updateAdm h.slot fun x => { x with state := .leaving }).modLane n fun l =>
          { l with
            state := .leaving, raise := true
            barrierTimer := if l.up then none else some (s.gate.barrierTime * 1000) }).raiseBooth
              .exitCleared)) ∧
    (¬ (s.gate.lanes[n].state = .paying ∧ s.gate.lanes[n].bound = some h.slot ∧
        s.mem.admGen[h.slot] = h.gen) →
      exec (.tabClear n) s = .next u)

/-- ADMIT: its checks in order, and then the admission created ISSUED in the head of the free list, its stall RESERVED or
its place taken at the tail of the holding queue, the lane ISSUED with RAISE, and the screen's live count one higher. A
refusal changes nothing but what the reads of the allocation do. A show that is DARK is answered CLOSED before the domain
is looked at, as R47 and not R182 has it (log 33). -/
def Obligations.Admit : Prop :=
  ∀ (lane screen cls : Byte) (stall : Word16) (s : State), s.takes .booth 0x10 →
    (numbered 4 lane = none ∨ numbered 6 screen = none ∨ VehicleClass.ofByte cls = none →
      exec (.admitCar .booth lane screen cls stall) s = .next (s.answer .booth 0x10 .badParam [])) ∧
    ∀ (l : Fin 4) (n : Fin 6) (c : VehicleClass), numbered 4 lane = some l → numbered 6 screen = some n →
      VehicleClass.ofByte cls = some c →
      let r := s.gate.lanes[l]
      let refused := firstFailing
        [(decide (s.night.state ≠ .opened), .closed), (decide (r.role ≠ .entry), .badState),
          (decide (r.bound ≠ none), .busy), (decide (r.state ≠ .present), .noVehicle),
          (decide (r.passes = 65535), .full),
          (decide (s.lot.fields[n] = none ∨ s.shows.screens[n].state = .dark ∨
            s.shows.screens[n].state = .ended), .closed),
          (decide (s.doms.domains[screenDomain n].state ≠ .active ∨ s.doms.domains[gates].state ≠ .active),
            .domainDown),
          (decide (s.mem.admFree = []), .full)]
      (∀ status, refused = some status →
        exec (.admitCar .booth lane screen cls stall) s = .next (s.answer .booth 0x10 status [])) ∧
      (refused = none → ∀ (a : Fin 1024) (rest : List (Fin 1024)) (u : State), s.mem.admFree = a :: rest →
        let new (k : Option Nat) : Admission :=
          { state := .issued, cls := c, screen := n, stall := k, entryLane := l, entryTime := s.night.clock,
            exitLane := none, owed := 0, orders := [] }
        let bind (v : State) : State :=
          (v.modLane l fun x =>
            { x with
              state := .issued, bound := some a, raise := true
              barrierTimer := if x.up then none else some (s.gate.barrierTime * 1000) }).modGate fun g =>
            { g with live := upd g.live n (· + 1) }
        let channel : Byte := match s.chans.sounds[n].sound with
          | .live k => byte1 (k.val + 1)
          | .announce _ k _ => byte1 (k.val + 1)
          | .off | .failed => 0
        (∀ status, s.allocate screen n stall c = (.refused status, u) →
          exec (.admitCar .booth lane screen cls stall) s = .next (u.answer .booth 0x10 status [])) ∧
        (∀ i, s.allocate screen n stall c = (.stall i, u) →
          exec (.admitCar .booth lane screen cls stall) s =
            .next ((bind ((u.createAdm a (new (some (u.lot.numberOf i)))).holdStall i a
              .reservation)).answer .booth 0x10 .ok
                ((u.admHandle a).bytes ++ bytes2 (u.lot.numberOf i) ++ [channel]))) ∧
        (s.allocate screen n stall c = (.queued, u) →
          exec (.admitCar .booth lane screen cls stall) s =
            .next ((bind ((u.createAdm a (new none)).modLot fun m =>
              { m with queues := upd m.queues n (· ++ [a]) })).answer .booth 0x10 .ok
                ((u.admHandle a).bytes ++ [0, 0] ++ [channel]))))

/-- EXIT: its checks in order; then every PLACED order of the admission is cancelled, and the admission is bound to the
lane, LEAVING with RAISE when its tab is clear and otherwise PAYING with TAB_OPEN and COLLECT on the orders that are
left. A cancelled order is retired, off the kitchen queue and off the admission's list, without a change of owed or of
the counter's attention; an order that is left keeps everything but COLLECT. CLEAR_LANE takes a FAULTED lane back to
what it was doing, by the state it faulted from. The return of a lane that faulted in PAYING and the examination for tab
clear, which sends the event to the exit lane of a PAYING admission with nothing owed and no order and otherwise only
reads the record. That such a return raises the void-or-return count, as R59 and not the table of R54 says (log 29), that
the event joins the tail of the list of tab clears until the lane takes it (log 9), and the numbers of the lane states in the
answer of CLEAR_LANE (log 12) are the model's choices. -/
def Obligations.ExitAndClearLane : Prop :=
  (∀ (lane : Byte) (handle : Word16) (s : State), s.takes .booth 0x12 →
    let h := AdmHandle.ofWord handle
    let a := h.slot
    (s.admCurrent h = false → exec (.exit .booth lane handle) s = .next (s.answer .booth 0x12 .stale [])) ∧
    (s.admCurrent h = true → numbered 4 lane = none →
      exec (.exit .booth lane handle) s = .next (s.answer .booth 0x12 .badParam [])) ∧
    ∀ n : Fin 4, s.admCurrent h = true → numbered 4 lane = some n →
      let l := s.gate.lanes[n]
      let refused := firstFailing
        [(decide (l.role ≠ .exit), .badState), (decide (s.gate.laneOf a ≠ none), .busy),
          (decide (l.bound ≠ none), .busy), (decide (l.state ≠ .present), .noVehicle),
          (decide (l.passes = 65535), .full), (decide (s.doms.domains[gates].state ≠ .active), .domainDown)]
      (∀ status, refused = some status →
        exec (.exit .booth lane handle) s = .next (s.answer .booth 0x12 status [])) ∧
      (refused = none →
        (∀ u, s.readTab a = (none, u) →
          exec (.exit .booth lane handle) s = .next (u.answer .booth 0x12 .damaged [])) ∧
        ∀ (x : Admission) (orders : List (Fin 256 × Order)) (u : State), s.readTab a = (some (x, orders), u) →
          let left := (orders.filter fun o => o.2.state ≠ .placed).length
          let v := u.exitOrders a orders
          (x.owed = 0 ∧ left = 0 →
            exec (.exit .booth lane handle) s =
              .next (((v.writeAdm a fun y => { y with exitLane := some n, state := .leaving }).modLane n
                fun y =>
                  { y with
                    state := .leaving, bound := some a, raise := true
                    barrierTimer := if y.up then none else some (v.gate.barrierTime * 1000) }).answer .booth
                      0x12 .ok [0, 0, 0, 0])) ∧
          (¬ (x.owed = 0 ∧ left = 0) →
            exec (.exit .booth lane handle) s =
              .next ((((v.writeAdm a fun y => { y with exitLane := some n, state := .paying }).modLane n
                fun y => { y with state := .paying, bound := some a }).raiseCounter .tabOpen).answer .booth
                  0x12 .tabOpen (bytes3 x.owed ++ [byte1 left]))))) ∧
  (∀ (lane : Byte) (s : State), s.takes .booth 0x13 →
    (numbered 4 lane = none →
      exec (.clearLane .booth lane) s = .next (s.answer .booth 0x13 .badParam [])) ∧
    ∀ n : Fin 4, numbered 4 lane = some n →
      let l := s.gate.lanes[n]
      let resumed (st : LaneState) : State := s.modLane n fun y =>
        { y with
          state := if l.loopB.level then .passing else st, cause := none, faultedFrom := none, raise := true
          barrierTimer := if y.up then none else some (s.gate.barrierTime * 1000)
          stuckTimer := if y.loopB.level then some (s.gate.stuckTime * 1000) else none
          voidTimer := if st = .issued ∧ l.loopA.level = false ∧ l.loopB.level = false then
            some (s.gate.voidTime * 1000) else y.voidTimer
          returnTimer := if st = .leaving ∧ l.loopA.level = false ∧ l.loopB.level = false then
            some (s.gate.voidTime * 1000) else y.returnTimer }
      (l.state ≠ .faulted →
        exec (.clearLane .booth lane) s = .next (s.answer .booth 0x13 .badState [])) ∧
      (l.state = .faulted → l.bound = none → l.role ≠ .unused →
        ∃ t : State, exec (.clearLane .booth lane) s =
            .next (t.answer .booth 0x13 .ok [if l.loopA.level then 2 else 1]) ∧
          t.gate.lanes[n].state = (if l.loopA.level then .present else .idle) ∧
          t.gate.lanes[n].cause = none ∧ t.gate.lanes[n].faultedFrom = none ∧
          t.gate.lanes[n].raise = false ∧ (∀ m : Fin 4, m ≠ n → t.gate.lanes[m] = s.gate.lanes[m]) ∧
          t = { s with gate := t.gate, booth := t.booth }) ∧
      (l.state = .faulted → l.bound ≠ none →
        (l.faultedFrom = some .issued ∨ (l.faultedFrom = some .passing ∧ l.role = .entry) →
          exec (.clearLane .booth lane) s =
            .next ((resumed .issued).answer .booth 0x13 .ok [if l.loopB.level then 4 else 3])) ∧
        (l.faultedFrom = some .leaving ∨ (l.faultedFrom = some .passing ∧ l.role = .exit) →
          exec (.clearLane .booth lane) s =
            .next ((resumed .leaving).answer .booth 0x13 .ok [if l.loopB.level then 4 else 7]))) ∧
      (∀ a, l.state = .faulted → l.bound = some a → l.faultedFrom = some .paying →
        let v := s.modLane n fun y =>
          { y with
            state := .paying, cause := none, faultedFrom := none
            stuckTimer := if y.loopB.level then some (s.gate.stuckTime * 1000) else none }
        exec (.clearLane .booth lane) s =
          .next (if l.loopA.level then (v.examineTab a).answer .booth 0x13 .ok [6]
            else (v.leaveWindow n a).answer .booth 0x13 .ok [1]))) ∧
  (∀ (a : Fin 1024) (orders : List (Fin 256 × Order)) (s : State),
    (orders.map Prod.fst).Nodup → s.mem.admFree.length ≠ 1024 →
    let t := s.exitOrders a orders
    let cancelled := (orders.filter fun o => o.2.state = .placed).map Prod.fst
    (∀ o ∈ orders, o.2.state = .placed →
      t.mem.orders[o.1].content = Order.freePattern ∧ t.mem.orders[o.1].marked = false ∧
      t.mem.orderGen[o.1] = s.mem.orderGen[o.1] + 1) ∧
    (∀ o ∈ orders, o.2.state ≠ .placed → t.mem.orderGen[o.1] = s.mem.orderGen[o.1] ∧
      (s.mem.orders[o.1].marked = false → t.order o.1 = { s.order o.1 with collect := true })) ∧
    (∀ k : Fin 256, k ∉ orders.map Prod.fst →
      t.mem.orders[k] = s.mem.orders[k] ∧ t.mem.orderGen[k] = s.mem.orderGen[k]) ∧
    t.mem.orderFree = s.mem.orderFree ++ cancelled ∧
    t.ords.kitchen = s.ords.kitchen.filter (fun k => k ∉ cancelled) ∧
    (∀ r : Fin 12, (∀ k ∈ cancelled, k ∉ s.ords.runners[r].carried) →
      t.ords.runners[r] = s.ords.runners[r]) ∧
    (s.mem.admissions[a].marked = false →
      t.adm a = { s.adm a with orders := (s.adm a).orders.filter fun h => h.slot ∉ cancelled }) ∧
    (∀ b : Fin 1024, b ≠ a → t.mem.admissions[b] = s.mem.admissions[b]) ∧
    t.mem.admFree = s.mem.admFree ∧ t.mem.admGen = s.mem.admGen ∧ t.mem.stalls = s.mem.stalls ∧
    t = { s with mem := t.mem, ords := { s.ords with kitchen := t.ords.kitchen, runners := t.ords.runners } }) ∧
  (∀ (a : Fin 1024) (n : Fin 4) (s : State),
    let t := s.leaveWindow n a
    t.gate = { s.gate with lanes := upd s.gate.lanes n fun l =>
      { l with
        state := .idle, bound := none, raise := false, barrierTimer := none, voidTimer := none
        returnTimer := none, voids := min (l.voids + 1) 65535 } } ∧
    (s.tabClean a → (t.adm a).exitLane = none ∧
      ((t.adm a).state = .seated ∨ (t.adm a).state = .waiting) ∧
      ∀ h ∈ (s.adm a).orders, t.order h.slot = { s.order h.slot with collect := false }) ∧
    t = { s with gate := t.gate, mem := t.mem, lot := t.lot, mon := t.mon, booth := t.booth
                 counter := t.counter }) ∧
  ∀ (a : Fin 1024) (s u : State),
    (s.readAdm a = (none, u) → s.examineTab a = u) ∧
    ∀ x, s.readAdm a = (some x, u) →
      (∀ n, x.exitLane = some n → x.state = .paying → x.owed = 0 → x.orders = [] →
        s.examineTab a = { u with ords := { u.ords with
          tabClears := u.ords.tabClears ++ [(n, u.admHandle a)] } }) ∧
      (x.exitLane = none ∨ x.state ≠ .paying ∨ x.owed ≠ 0 ∨ x.orders ≠ [] → s.examineTab a = u)

/-- MOVE: its checks in order, and then the admission is SEATED in the new stall, which is OCCUPIED; its record and every
order on its list name the new screen and stall; its old stall no longer holds it; and the live counts move between
screens. A show that is DARK is answered CLOSED before the domain is looked at, as R61 and not R182 has it (log 33). -/
def Obligations.Move : Prop :=
  ∀ (handle : Word16) (screen : Byte) (stall : Word16) (s : State), s.takes .booth 0x15 →
    let h := AdmHandle.ofWord handle
    let a := h.slot
    let answered (t : State) (status : Status) : Prop :=
      exec (.move .booth handle screen stall) s = .next (t.answer .booth 0x15 status [])
    (s.admCurrent h = false → answered s .stale) ∧
    (∀ u, s.admCurrent h = true → s.readTab a = (none, u) → answered u .damaged) ∧
    ∀ (x : Admission) (orders : List (Fin 256 × Order)) (u : State), s.admCurrent h = true →
      s.readTab a = (some (x, orders), u) →
      (x.state ≠ .seated → answered u .badState) ∧
      (∀ status, x.state = .seated → u.lot.named screen stall = .error status → answered u status) ∧
      ∀ (n : Fin 6) (i : Fin 1024), x.state = .seated → u.lot.named screen stall = .ok (n, i) →
        let refused := firstFailing
          [(decide (u.night.state ≠ .opened ∨ u.shows.screens[n].state = .dark ∨
              u.shows.screens[n].state = .ended), .closed),
            (decide (u.doms.domains[screenDomain n].state ≠ .active), .domainDown)]
        (∀ status, refused = some status → answered u status) ∧
        ∀ (y : Stall) (v : State), refused = none → u.readStall i = (y, v) →
          (¬ (y.state v.lot.occupants[i] = .free ∧ x.cls.fits y.kind = true) → answered v .badParam) ∧
          (y.state v.lot.occupants[i] = .free → x.cls.fits y.kind = true → s.tabClean a →
            ∃ t : State, exec (.move .booth handle screen stall) s =
                .next (t.answer .booth 0x15 .ok (bytes2 stall.toNat ++ [t.ticketChannel n])) ∧
              t.adm a = { s.adm a with screen := n, stall := some stall.toNat } ∧
              t.lot.occupants[i] = some { slot := a, hold := .occupation } ∧
              (∀ k ∈ (s.adm a).orders,
                t.order k.slot = { s.order k.slot with screen := n, stall := stall.toNat }) ∧
              (∀ j, s.lot.stallHeldBy a = some j → (t.lot.occupants[j].map Occupant.slot) ≠ some a) ∧
              (∀ m, s.lot.screenOf a = some m → m ≠ n →
                t.gate.live[n] = s.gate.live[n] + 1 ∧ t.gate.live[m] = s.gate.live[m] - 1) ∧
              (s.lot.screenOf a = some n → t.gate.live = s.gate.live) ∧
              t.gate.lanes = s.gate.lanes ∧ t.posts = s.posts ∧ t.doms = s.doms)

/-- REPAIR: its checks in order, and then the record rewritten from the index store, the orders that name it in ascending
placed time, within one second in ascending slots, and what the command gives, with its mark cleared. FORCE_RETIRE of an
admission: its orders and the admission are retired whatever their state, its lane is freed, the sum of the amounts of
its readable orders that are charged and not PAID is written off, and the forced count rises when it had passed an
entry.
What a write of a slot leaves is the model's list of flaws (log 6). -/
def Obligations.RepairAndForceRetire : Prop :=
  (∀ (handle : Word16) (cls lane : Byte) (time : Word24) (s : State), s.takes .booth 0x17 →
    let h := AdmHandle.ofWord handle
    let a := h.slot
    let answered (t : State) (status : Status) : Prop :=
      exec (.repair .booth handle cls lane time) s = .next (t.answer .booth 0x17 status [])
    let refused := firstFailing
      [(!s.admCurrent h, .stale), (!s.mem.admissions[a].marked, .badState),
        (decide (VehicleClass.ofByte cls = none ∨ numbered 4 lane = none ∨ 86399 < time.toNat), .badParam)]
    (∀ status, refused = some status → answered s status) ∧
    ∀ (c : VehicleClass) (l : Fin 4), refused = none → VehicleClass.ofByte cls = some c →
      numbered 4 lane = some l →
      (∀ xs u, s.readOrders s.liveOrders = (xs, false, u) → answered u .damaged) ∧
      ∀ xs u, s.readOrders s.liveOrders = (xs, true, u) →
        xs = (s.liveOrders.map fun k => (k, s.order k)) ∧
        ∃ mine : List (Fin 256 × Order),
        (mine.Pairwise fun p q => p.2.placed < q.2.placed ∨ p.2.placed = q.2.placed ∧ p.1 < q.1) ∧
        (∀ o : Fin 256 × Order, o ∈ mine ↔ o ∈ xs ∧ o.2.admission = h) ∧
        let bound := (List.finRange 4).find? fun n => decide (u.gate.lanes[n].bound = some a)
        let place := u.lot.stallHeldBy a
        let x : Admission :=
          { state := match bound with
              | some n =>
                let y := u.gate.lanes[n]
                let held := if y.state = .faulted then y.faultedFrom else some y.state
                if y.role = .entry then .issued
                else if held = some .leaving ∨ held = some .passing then .leaving else .paying
              | none => match place with
                | some i => if u.lot.occupants[i] = some { slot := a, hold := .reservation } then .issued
                  else .seated
                | none => .waiting
            cls := c, screen := (u.lot.screenOf a).getD 0, stall := place.map u.lot.numberOf
            entryLane := (bound.filter fun n => u.gate.lanes[n].role = .entry).getD l, entryTime := time.toNat
            exitLane := bound.filter fun n => u.gate.lanes[n].role = .exit
            owed := (mine.map fun o => if o.2.state ≠ .placed ∧ o.2.paid = false then o.2.amount else 0).sum
            orders := mine.map fun o => u.orderHandle o.1 }
        exec (.repair .booth handle cls lane time) s =
          .next (({ u with mem := { u.mem with
            admissions := upd u.mem.admissions a fun y =>
              { y with
                content := x, health := y.flaws.headD .clean, flaws := y.flaws.tail, marked := false }
            admMarks := u.mem.admMarks - 1 } }.examineTab a).answer .booth 0x17 .ok (x.bytes h))) ∧
  ∀ (handle : Word16) (s : State), s.takes .booth 0x18 →
    let h := AdmHandle.ofWord handle
    let a := h.slot
    (s.admCurrent h = false →
      exec (.forceRetireAdmission .booth handle) s = .next (s.answer .booth 0x18 .stale [])) ∧
    (∀ u, s.admCurrent h = true → s.ordersToForce h = (none, u) →
      exec (.forceRetireAdmission .booth handle) s = .next (u.answer .booth 0x18 .damaged [])) ∧
    (∀ orders u, s.admCurrent h = true → s.ordersToForce h = (some orders, u) → orders.Nodup →
      let n := (orders.map fun k =>
        if u.mem.orders[k].marked = false ∧ u.mem.orders[k].health ≠ .double ∧
            (u.order k).state ≠ .placed ∧ (u.order k).paid = false then (u.order k).amount else 0).sum
      ∃ t : State, exec (.forceRetireAdmission .booth handle) s = .next (t.answer .booth 0x18 .ok (bytes3 n)) ∧
        t.admLive a = false ∧ t.mem.admGen[a] = s.mem.admGen[a] + 1 ∧
        t.mem.admissions[a].marked = false ∧ (∀ k ∈ orders, t.orderLive k = false) ∧
        (∀ m : Fin 6, a ∉ t.lot.queues[m]) ∧
        (∀ m : Fin 4, s.gate.laneOf a = some m →
          t.gate.lanes[m].bound = none ∧ t.gate.lanes[m].raise = false ∧
          t.gate.lanes[m].voidTimer = none ∧ t.gate.lanes[m].returnTimer = none) ∧
        t.night.writeOffs = min (s.night.writeOffs + n) 4294967295 ∧
        t.night.forced = (if s.boundLane a .entry = none then s.night.forced + 1 else s.night.forced)) ∧
    (∀ x u, s.readAdm a = (some x, u) → s.ordersToForce h = (some (x.orders.map OrderHandle.slot), u)) ∧
    ∀ u, s.readAdm a = (none, u) →
      (∀ xs v, u.readOrders u.liveOrders = (xs, false, v) → s.ordersToForce h = (none, v)) ∧
      ∀ xs v, u.readOrders u.liveOrders = (xs, true, v) →
        s.ordersToForce h = (some ((xs.filter fun o => o.2.admission = h).map Prod.fst), v)

/-- READ_LANE is answered with the 17 bytes of the lane record, LOOKUP_ADMISSION with the 29 bytes of the record; a
marked admission with the same layout, the damage flag set and only what the index store gives. Neither changes
anything but what the read does. The numbers of the lane states are the model's reading (log 12). -/
def Obligations.LaneAndAdmissionLookups : Prop :=
  (∀ (lane : Byte) (s : State), s.takes .booth 0x14 →
    (numbered 4 lane = none → exec (.readLane .booth lane) s = .next (s.answer .booth 0x14 .badParam [])) ∧
    ∀ n : Fin 4, numbered 4 lane = some n →
      let l := s.gate.lanes[n]
      exec (.readLane .booth lane) s =
        .next (s.answer .booth 0x14 .ok
          ([byte1 l.role.number, byte1 l.state.number, byte1 ((l.cause.map LaneFault.number).getD 0),
              byte1 ((l.faultedFrom.map LaneState.number).getD 0)] ++
            (match l.bound with
              | none => [0, 0, 0]
              | some a => 1 :: (s.admHandle a).bytes) ++
            [flagByte l.loopA.level, flagByte l.loopB.level, flagByte l.raise, flagByte l.up] ++
            bytes2 l.passes ++ bytes2 l.tailgates ++ bytes2 l.voids))) ∧
  ∀ (p : PortId) (handle : Word16) (s u : State), s.takes p 0x16 →
    let h := AdmHandle.ofWord handle
    (s.admCurrent h = false →
      exec (.lookupAdmission p handle) s = .next (s.answer p 0x16 .stale [])) ∧
    (∀ x, s.admCurrent h = true → s.readAdm h.slot = (some x, u) →
      let data := [0] ++ h.bytes ++ [byte1 x.state.number, byte1 x.cls.number, numberByte x.screen] ++
        bytes2 (x.stall.getD 0) ++ [numberByte x.entryLane] ++ bytes3 x.entryTime ++
        [optNumber x.exitLane] ++ bytes3 x.owed ++ listBytes 6 2 OrderHandle.bytes x.orders
      exec (.lookupAdmission p handle) s = .next (u.answer p 0x16 .ok data) ∧
      (x.orders.length ≤ 6 → data.length = 29)) ∧
    (s.admCurrent h = true → s.readAdm h.slot = (none, u) →
      exec (.lookupAdmission p handle) s =
        .next (u.answer p 0x16 .damaged
          ([1] ++ h.bytes ++ [byte1 (u.indexState h.slot).number, 0, optNumber (u.lot.screenOf h.slot)] ++
            bytes2 (((u.lot.stallHeldBy h.slot).map u.lot.numberOf).getD 0) ++
            [optNumber (u.boundLane h.slot .entry), 0, 0, 0, optNumber (u.boundLane h.slot .exit)] ++
            List.replicate 16 0)))

/-! ## Screens and shows (chapter 4) -/

/-- What the show controller does to a screen. A change of state sets RUN_REQ and PAUSE_REQ by the state's row, raises
SHOW_STATE and recomputes the order window. A hold reason is added only in RUNNING, INTERMISSION and HELD and makes the
show HELD; when the last reason leaves the set the show resumes by its current segment's kind. A segment is entered with
its length and the grace time on its timer. A PRESHOW screen whose start time is reached, whose domain is ACTIVE and
whose sound is LIVE or ANNOUNCE enters STARTING with the start timeout. -/
def Obligations.ShowOperations : Prop :=
  ∀ (n : Fin 6) (s : State),
    let c := s.shows.screens[n]
    let high : ShowState → Bool × Bool := fun st => match st with
      | .dark | .preshow | .ended => (false, false)
      | .starting | .running | .intermission => (true, false)
      | .held => (true, true)
    let enter (st : ShowState) (u : State) : State :=
      ((u.modScreen n fun x =>
        { x with state := st, runReq := (high st).1, pauseReq := (high st).2 }).raiseBooth
          .showState).recomputeWindow n
    let underWay := c.state = .running ∨ c.state = .intermission ∨ c.state = .held
    (∀ st, s.setShow n st = if c.state = st then s else enter st s) ∧
    (∀ r : HoldReason, let u := s.modScreen n fun x => { x with reasons := x.reasons.set r true }
      (¬ underWay → s.addHold n r = s) ∧
      (underWay → s.addHold n r = if c.state = .held then u else enter .held u)) ∧
    (∀ r : HoldReason, let u := s.modScreen n fun x => { x with reasons := x.reasons.set r false }
      (c.reasons.has r = false → s.removeHold n r = s) ∧
      (c.reasons.has r = true →
        s.removeHold n r =
          if (c.reasons.set r false) = { sound := false, projector := false, operator := false } ∧
            c.state = .held then enter c.runningState u else u)) ∧
    (c.runningState = if c.segment.map Segment.kind = some .interval then ShowState.intermission else .running) ∧
    (∀ k g, c.list[k]? = some g →
      let u := s.modScreen n fun x =>
        { x with current := some (k + 1), remaining := some (g.length + s.shows.graceTime), overrun := false }
      s.enterSegment n (k + 1) =
        if c.reasons = { sound := false, projector := false, operator := false } then
          u.setShow n (if g.kind = .interval then .intermission else .running) else u) ∧
    (s.beginShow n =
      let v := (s.modScreen n fun x =>
        { x with startTimer := none, start := some s.night.clock }).enterSegment n 1
      if c.fault.level then v.addHold n .projector else v) ∧
    (let starts : Prop := c.state = .preshow ∧ (∃ t, c.start = some t ∧ t ≤ s.night.clock) ∧
        s.doms.domains[screenDomain n].state = .active ∧
        ((∃ k, s.chans.sounds[n].sound = .live k) ∨ ∃ k j x, s.chans.sounds[n].sound = .announce k j x)
      let u := enter .starting (s.modScreen n fun x =>
        { x with current := some 1, startTimer := some (s.shows.startTimeout * 1000) })
      (¬ starts → s.examineStart n = s) ∧
      (starts → s.examineStart n = if c.running.level then u.beginShow n else u)) ∧
    (let u := (s.modScreen n fun x =>
        { x with
          reasons := { sound := false, projector := false, operator := false }
          remaining := none, overrun := false, startTimer := none }).setShow n .ended;
      s.endShow n = if s.gate.live[n] = 0 then u.goDark n else u)

/-- The show commands: LOAD_SHOW, SET_START and START_NOW with their checks in order, HOLD_SHOW, RESUME_SHOW and
END_SHOW by the show state. -/
def Obligations.ShowCommands : Prop :=
  (∀ (screen count : Byte) (segments : List (BitVec 32)) (start : Word24) (s : State), s.takes .booth 0x28 →
    (Instr.loadShow .booth screen count segments start).wf = true →
    let l := segments.map Segment.ofWord
    let given : Option Nat := if start = 0xFFFFFF then none else some start.toNat
    let bad := numbered 6 screen = none ∨ ¬ (1 ≤ count.toNat ∧ count.toNat ≤ 8) ∨
      (start ≠ 0xFFFFFF ∧ 86399 < start.toNat) ∨ ∃ g ∈ l, ¬ (60 ≤ g.length ∧ g.length ≤ 14400)
    let answered (t : State) (status : Status) : Prop :=
      exec (.loadShow .booth screen count segments start) s = .next (t.answer .booth 0x28 status [])
    (bad → answered s .badParam) ∧
    ∀ n : Fin 6, ¬ bad → numbered 6 screen = some n →
      let c := s.shows.screens[n]
      let refused := firstFailing
        [(decide (s.night.state ≠ .opened ∨ s.lot.fields[n] = none), .closed),
          (decide (c.state ≠ .dark ∧ c.state ≠ .preshow), .badState),
          (decide (s.doms.domains[screenDomain n].state ≠ .active), .domainDown)]
      let u := s.modScreen n fun x =>
        { x with
          list := l, start := given
          reasons := { sound := false, projector := false, operator := false }
          current := none, remaining := none, overrun := false }
      (∀ status, refused = some status → answered s status) ∧
      (refused = none → c.state = .preshow → answered (u.examineStart n) .ok) ∧
      (refused = none → c.state = .dark → answered ((u.leaveDark n).examineStart n) .ok)) ∧
  (∀ (screen : Byte) (start : Word24) (s : State), s.takes .booth 0x29 →
    let bad := numbered 6 screen = none ∨ (start ≠ 0xFFFFFF ∧ 86399 < start.toNat)
    let given : Option Nat := if start = 0xFFFFFF then none else some start.toNat
    (bad → exec (.setStart .booth screen start) s = .next (s.answer .booth 0x29 .badParam [])) ∧
    ∀ n : Fin 6, ¬ bad → numbered 6 screen = some n →
      (s.shows.screens[n].state ≠ .preshow →
        exec (.setStart .booth screen start) s = .next (s.answer .booth 0x29 .badState [])) ∧
      (s.shows.screens[n].state = .preshow →
        exec (.setStart .booth screen start) s =
          .next (((s.modScreen n fun x => { x with start := given }).examineStart n).answer .booth 0x29 .ok
            []))) ∧
  ∀ (screen : Byte) (s : State),
    (numbered 6 screen = none →
      (s.takes .booth 0x2A → exec (.startNow .booth screen) s = .next (s.answer .booth 0x2A .badParam [])) ∧
      (s.takes .booth 0x2B → exec (.holdShow .booth screen) s = .next (s.answer .booth 0x2B .badParam [])) ∧
      (s.takes .booth 0x2C → exec (.resumeShow .booth screen) s = .next (s.answer .booth 0x2C .badParam [])) ∧
      (s.takes .booth 0x2D → exec (.endShow .booth screen) s = .next (s.answer .booth 0x2D .badParam []))) ∧
    ∀ n : Fin 6, numbered 6 screen = some n →
      let c := s.shows.screens[n]
      let underWay := c.state = .running ∨ c.state = .intermission ∨ c.state = .held
      (s.takes .booth 0x2A →
        (c.state ≠ .preshow →
          exec (.startNow .booth screen) s = .next (s.answer .booth 0x2A .badState [])) ∧
        (c.state = .preshow →
          exec (.startNow .booth screen) s =
            .next (((s.modScreen n fun x => { x with start := some s.night.clock }).examineStart n).answer
              .booth 0x2A .ok []))) ∧
      (s.takes .booth 0x2B →
        (¬ underWay → exec (.holdShow .booth screen) s = .next (s.answer .booth 0x2B .badState [])) ∧
        (underWay →
          exec (.holdShow .booth screen) s =
            .next ((s.addHold n .operator).answer .booth 0x2B .ok
              [bitsByte [c.reasons.sound, c.reasons.projector, true]]))) ∧
      (s.takes .booth 0x2C →
        (¬ (c.state = .held ∧ c.reasons.operator = true) →
          exec (.resumeShow .booth screen) s = .next (s.answer .booth 0x2C .badState [])) ∧
        (c.state = .held → c.reasons.operator = true →
          exec (.resumeShow .booth screen) s =
            .next ((s.removeHold n .operator).answer .booth 0x2C .ok
              [if c.reasons.sound = false ∧ c.reasons.projector = false then
                byte1 c.runningState.number else 6,
                bitsByte [c.reasons.sound, c.reasons.projector, false]]))) ∧
      (s.takes .booth 0x2D →
        (c.state = .dark → exec (.endShow .booth screen) s = .next (s.answer .booth 0x2D .badState [])) ∧
        (c.state = .ended → exec (.endShow .booth screen) s = .next (s.answer .booth 0x2D .ok [])) ∧
        (c.state ≠ .dark → c.state ≠ .ended →
          exec (.endShow .booth screen) s = .next ((s.endShow n).answer .booth 0x2D .ok [])))

/-- The projector inputs of a screen: a level is timed for 50 ms and a mark for 20 ms while it differs, and only kept
while the part does not run; a qualified level, a mark and the start timer act by the show state. That an expiry row acts
whenever its timer runs and MARK_TAKEN whenever it is given (log 8), and that a mark is used up in every show state and
taken again after a low that ends by time alone (log 24), are the model's choices. -/
def Obligations.ProjectorEvents : Prop :=
  ∀ (n : Fin 6) (s : State),
    let c := s.shows.screens[n]
    let underWay := c.state = .running ∨ c.state = .intermission ∨ c.state = .held
    let changed (high : Bool) (i : Input) : Input :=
      if s.sys.phase = .running then
        if i.raw = high then i
        else { i with raw := high, timer := if high = i.level then none else some 50 }
      else { i with raw := high }
    (∀ high, exec (.projectorInputChange n .running high) s =
      .next (s.modScreen n fun x => { x with running := changed high x.running })) ∧
    (∀ high, exec (.projectorInputChange n .fault high) s =
      .next (s.modScreen n fun x => { x with fault := changed high x.fault })) ∧
    (∀ high, exec (.projectorInputChange n .mark high) s =
      .next (s.modScreen n fun x =>
        { x with
          mark := if s.sys.phase = .running then
              if x.mark.raw = high then x.mark
              else { x.mark with raw := high, timer := if high = x.mark.armed then some 20 else none }
            else { x.mark with raw := high } })) ∧
    (s.sys.phase = .running → c.running.timer ≠ none →
      let q := s.modScreen n fun x => { x with running := { x.running with level := x.running.raw, timer := none } }
      let result (t : State) : Prop := exec (.projectorLevelChange n .running) s = .next t
      (c.state = .dark ∨ c.state = .preshow ∨ c.state = .ended → result q) ∧
      (c.state = .starting → result (if c.running.raw then q.beginShow n else q)) ∧
      (underWay → c.running.raw = false → result (q.addHold n .projector)) ∧
      (underWay → c.running.raw = true → result (if c.fault.level then q else q.removeHold n .projector))) ∧
    (s.sys.phase = .running → c.fault.timer ≠ none →
      let q := s.modScreen n fun x => { x with fault := { x.fault with level := x.fault.raw, timer := none } }
      let result (t : State) : Prop := exec (.projectorLevelChange n .fault) s = .next t
      (¬ underWay → result q) ∧
      (underWay → c.fault.raw = true → result (q.addHold n .projector)) ∧
      (underWay → c.fault.raw = false →
        result (if c.running.level then q.removeHold n .projector else q))) ∧
    (s.sys.phase = .running →
      let q := s.modScreen n fun x =>
        { x with mark := { x.mark with armed := false, timer := if x.mark.raw then none else some 20 } }
      (¬ underWay → exec (.markTaken n) s = .next q) ∧
      ∀ k, underWay → c.current = some k →
        exec (.markTaken n) s =
          .next (if k < c.list.length then q.enterSegment n (k + 1) else q.endShow n)) ∧
    (s.sys.phase = .running → c.state = .starting → c.startTimer ≠ none →
      exec (.startTimerExpiry n) s =
        .next ((((s.modScreen n fun x => { x with start := none, startTimer := none, current := none }).setShow
          n .preshow).examineStart n).raiseBooth .projectorFault) ∧
      ∃ t : State, exec (.startTimerExpiry n) s = .next t ∧ t.shows.screens[n].state = .preshow ∧
        t.shows.screens[n].start = none ∧ t.shows.screens[n].runReq = false)

/-- The seconds of the night clock move the clock on while the night is OPEN or CLOSING, holding at 86,399, count the
segment timers of the screens in RUNNING and INTERMISSION, and examine every start condition. A segment timer at its
end is reported once. READ_SCREEN is answered with its 45 bytes and changes nothing. That the end of a segment timer
is a step of its own (log 10), that NIGHT_CLOCK_SECOND acts whenever it is given (log 8), and that the next second then
ends 1,000 ms later (log 21), are the model's choices. -/
def Obligations.ShowClockAndRead : Prop :=
  ∀ s : State,
    (s.sys.phase = .running →
      (s.night.state = .closed → exec .nightClockSecond s = .next s) ∧
      (s.night.state ≠ .closed →
        exec .nightClockSecond s =
          .next ({ s with
            night := { s.night with
              clock := if s.night.clock < 86399 then s.night.clock + 1 else s.night.clock
              secondTimer := some 1000 }
            shows := { s.shows with
              screens := s.shows.screens.map fun (c : Screen) =>
                if c.state = ShowState.running ∨ c.state = ShowState.intermission then
                  { c with remaining := c.remaining.map (· - 1) }
                else c } }.each (List.finRange 6) State.examineStart))) ∧
    (∀ n : Fin 6, s.sys.phase = .running →
      let c := s.shows.screens[n]
      let ends := c.remaining ≠ none ∧ c.overrun = false ∧ (c.state = .running ∨ c.state = .intermission ∨
        (c.state = .held ∧ c.remaining = some 0))
      (ends → exec (.segmentOverrun n) s =
        .next ((s.modScreen n fun x => { x with remaining := some 0, overrun := true }).raiseBooth
          .segmentOverrun)) ∧
      (¬ ends → exec (.segmentOverrun n) s = .next s)) ∧
    ∀ screen : Byte, s.takes .booth 0x2E →
      (numbered 6 screen = none →
        exec (.readScreen .booth screen) s = .next (s.answer .booth 0x2E .badParam [])) ∧
      ∀ n : Fin 6, numbered 6 screen = some n →
        let c := s.shows.screens[n]
        let x := s.chans.sounds[n].sound
        let f := s.lot.fields[n]
        let data : List Byte :=
          [BitVec.ofNat 3 c.state.number ++ BitVec.ofBool c.reasons.sound ++
              BitVec.ofBool c.reasons.projector ++ BitVec.ofBool c.reasons.operator ++
              (match x with
                | .off => 0#2
                | .live _ => 1#2
                | .announce _ _ _ => 2#2
                | .failed => 3#2),
            BitVec.ofNat 4 c.list.length ++ BitVec.ofNat 4 (c.current.getD 0)] ++
          bytes3 (c.start.getD 0xFFFFFF) ++ bytes2 (c.remaining.getD 0xFFFF) ++
          [bitsByte [f.isSome, (match x with
              | .announce _ _ .carrier => true
              | _ => false), (f.map Field.ordersDuringFeature).getD false, c.pauseReq, c.runReq,
              c.fault.level, c.running.level, c.overrun],
            BitVec.ofNat 4 ((f.map fun r => r.home.val + 1).getD 0) ++ BitVec.ofNat 4 (match x with
              | .live k => k.val + 1
              | .announce k _ _ => k.val + 1
              | .off | .failed => 0)] ++
          bytes2 ((match x with
            | .announce _ j _ => j.val + 1
            | _ => 0) * 4096 + s.gate.live[n]) ++
          bytes2 s.gate.admitted[n] ++ (c.list.take 8).flatMap (fun g => bytes4 g.toWord.toNat) ++
          List.replicate (4 * (8 - c.list.length)) 0
        exec (.readScreen .booth screen) s = .next (s.answer .booth 0x2E .ok data) ∧
        (c.list.length ≤ 8 → data.length = 45)

/-! ## Carrier channels and row displays (chapter 5) -/

/-- What the channel manager does to a screen. A sound state entered puts its channel on CHSEL, starts the qualification
afresh when CHSEL changed, and is taken by the show controller by its state: LIVE and ANNOUNCE have a PRESHOW screen's
start examined, LIVE takes SOUND out of the hold reasons of a HELD show, and FAILED and OFF abandon a start and hold a show
under way; a screen that begins to want takes its home channel, or the lowest spare one, or becomes FAILED with NOCHAN; one that stops gives its channels up, each offered to
the lowest-numbered FAILED screen; a carrier fault begins a retune with cause CARRIER, or loses the sound. -/
def Obligations.SoundOperations : Prop :=
  (∀ (x : Sound) (time : Nat) (r : SoundRecord),
    let t := r.enter x time
    let code : Nat := match x with
      | .live k => k.val + 1
      | .announce k _ _ => k.val + 1
      | .off | .failed => 0
    t.sound = x ∧ t.chsel = code ∧ t.wanting = r.wanting ∧ t.announceTimer = r.announceTimer ∧
    (code = 0 → t.faultTimer = none ∧ t.spent = false ∧ t.carrierLevel = r.carrierOk) ∧
    (code ≠ 0 → r.chsel ≠ code →
      t.spent = false ∧ t.faultTimer = (if r.carrierOk then none else some time)) ∧
    (code ≠ 0 → r.chsel = code →
      t.spent = r.spent ∧ t.faultTimer =
        (if r.carrierOk = false ∧ r.faultTimer = none ∧ r.spent = false then some time else r.faultTimer))) ∧
  ∀ (n : Fin 6) (s : State),
    let st := s.shows.screens[n].state
    let underWay := st = .running ∨ st = .intermission ∨ st = .held
    let free (c : Fin 12) (u : State) : State := u.setChannel c .free
    let take (c : Fin 12) (u : State) : State := (u.setChannel c (.held n .live)).setSound n (.live c)
    (∀ x, s.setSound n x =
      ((s.modSound n (SoundRecord.enter x s.chans.faultTime)).soundTaken n).showSound n) ∧
    (∀ c, s.chans.sounds[n].sound = .live c →
      (st = .preshow → s.soundTaken n = s.examineStart n) ∧
      (st = .held → s.soundTaken n = s.removeHold n .sound) ∧
      (st ≠ .preshow → st ≠ .held → s.soundTaken n = s)) ∧
    (∀ c k x, s.chans.sounds[n].sound = .announce c k x →
      (st = .preshow → s.soundTaken n = s.examineStart n) ∧
      (st ≠ .preshow → s.soundTaken n = s)) ∧
    ((s.chans.sounds[n].sound = .failed ∨ s.chans.sounds[n].sound = .off) →
      (st = .dark ∨ st = .ended ∨ st = .preshow → s.soundTaken n = s) ∧
      (st = .starting → (s.soundTaken n).shows.screens[n].state = .preshow ∧
        (s.soundTaken n).shows.screens[n].start = s.shows.screens[n].start) ∧
      (underWay → s.soundTaken n = s.addHold n .sound)) ∧
    (∀ f, s.lot.fields[n] = some f → s.chans.channels[f.home] = { permitted := true, state := .free } →
      s.acquire n = take f.home s) ∧
    (∀ c : Fin 12, s.chans.channels[c] = { permitted := true, state := .free } →
      (∀ d : Fin 12, d < c → s.chans.channels[d] ≠ { permitted := true, state := .free }) →
      (∀ f, s.lot.fields[n] = some f →
        s.chans.channels[f.home] ≠ { permitted := true, state := .free }) →
      s.spare = some c ∧ s.acquire n = take c s) ∧
    ((∀ c : Fin 12, s.chans.channels[c] ≠ { permitted := true, state := .free }) →
      s.spare = none ∧ s.acquire n = (s.setSound n .failed).raiseBooth .nochan) ∧
    (∀ c, s.chans.sounds[n].sound = .live c → s.giveUp n = ((free c s).setSound n .off).offer c) ∧
    (∀ c next x, s.chans.sounds[n].sound = .announce c next x →
      let u := ((free next (free c s)).modSound n fun r => { r with announceTimer := none }).setSound n .off
      s.giveUp n = if c < next then (u.offer c).offer next else (u.offer next).offer c) ∧
    (∀ c : Fin 12, s.chans.channels[c] = { permitted := true, state := .free } →
      ((∀ m : Fin 6, m < n → s.chans.sounds[m].sound ≠ .failed) → s.chans.sounds[n].sound = .failed →
        s.offer c = take c s) ∧
      ((∀ m : Fin 6, s.chans.sounds[m].sound ≠ .failed) → s.offer c = s)) ∧
    (∀ c next, s.chans.sounds[n].sound = .live c → s.spare = some next →
      s.carrierFaultAt n =
        (((s.setChannel next (.held n .announced)).modSound n fun r =>
          { r with announceTimer := some (s.chans.announceTime * 1000) }).setSound n
            (.announce c next .carrier))) ∧
    (∀ c, s.chans.sounds[n].sound = .live c → s.spare = none →
      s.carrierFaultAt n =
        ((((s.setChannel c (.quarantined s.chans.quarantineTime)).modSound n fun r =>
          { r with announceTimer := none }).setSound n .failed).raiseBooth .nochan)) ∧
    (∀ c next x, s.chans.sounds[n].sound = .announce c next x →
      s.carrierFaultAt n = s.modSound n fun r => { r with sound := .announce c next .carrier })

/-- RETUNE, by the sound state of the screen: BAD_PARAM outside 1 to 6; LIVE with a spare channel begins the retune with
cause OPERATOR and is answered ACCEPTED with the announced channel; LIVE without one is NOCHAN, and nothing changes;
ANNOUNCE is BUSY; OFF and FAILED are BAD_STATE. It is taken in every night state. -/
def Obligations.Retune : Prop :=
  ∀ (screen : Byte) (s : State), s.takes .booth 0x30 →
    (numbered 6 screen = none →
      exec (.retune .booth screen) s = .next (s.answer .booth 0x30 .badParam [])) ∧
    ∀ n : Fin 6, numbered 6 screen = some n →
      (∀ c next, s.chans.sounds[n].sound = .live c → s.spare = some next →
        exec (.retune .booth screen) s =
          .next ((((s.setChannel next (.held n .announced)).modSound n fun r =>
            { r with announceTimer := some (s.chans.announceTime * 1000) }).setSound n
              (.announce c next .operator)).answer .booth 0x30 .accepted [byte1 (next.val + 1)])) ∧
      (∀ c, s.chans.sounds[n].sound = .live c → s.spare = none →
        exec (.retune .booth screen) s = .next (s.answer .booth 0x30 .nochan [])) ∧
      (∀ c next x, s.chans.sounds[n].sound = .announce c next x →
        exec (.retune .booth screen) s = .next (s.answer .booth 0x30 .busy [])) ∧
      (s.chans.sounds[n].sound = .off ∨ s.chans.sounds[n].sound = .failed →
        exec (.retune .booth screen) s = .next (s.answer .booth 0x30 .badState []))

/-- QUARANTINE_CHANNEL by the channel's state, answered with the state it then has; READ_CHANNELS with its 43 bytes.
The events of the manager: a change of CARRIER_OK, a carrier fault, the switch at the end of the announce period, a
second of quarantine, and the end of one, which frees the channel and offers it. That an expiry row acts whenever its
timer runs and CHANNEL_SECOND whenever it is given (log 8), that the end of a quarantine is a step of its own (log 10), and
that the manager's next second then ends 1,000 ms later (log 21), are the model's choices. -/
def Obligations.ChannelCommandsAndEvents : Prop :=
  (∀ (channel : Byte) (s : State), s.takes .booth 0x31 →
    (numbered 12 channel = none →
      exec (.quarantineChannel .booth channel) s = .next (s.answer .booth 0x31 .badParam [])) ∧
    ∀ c : Fin 12, numbered 12 channel = some c →
      let answered (t : State) : Prop :=
        exec (.quarantineChannel .booth channel) s =
          .next (t.answer .booth 0x31 .ok [byte1 t.chans.channels[c].state.number])
      (s.chans.channels[c].state = .free ∨ (∃ k, s.chans.channels[c].state = .quarantined k) →
        answered (s.setChannel c (.quarantined s.chans.quarantineTime))) ∧
      (∀ n, s.chans.channels[c].state = .held n .live → answered (s.carrierFaultAt n)) ∧
      ∀ n k x, s.chans.channels[c].state = .held n .announced → s.chans.sounds[n].sound = .announce k c x →
        let u := s.setChannel c (.quarantined s.chans.quarantineTime)
        (∀ other, u.spare = some other →
          answered (((u.setChannel other (.held n .announced)).modSound n fun r =>
            { r with announceTimer := some (u.chans.announceTime * 1000) }).setSound n
              (.announce k other x))) ∧
        (u.spare = none → x = .operator →
          answered (((u.modSound n fun r => { r with announceTimer := none }).setSound n
            (.live k)).raiseBooth .nochan)) ∧
        (u.spare = none → x = .carrier →
          answered ((((u.setChannel k (.quarantined u.chans.quarantineTime)).modSound n fun r =>
            { r with announceTimer := none }).setSound n .failed).raiseBooth .nochan))) ∧
  (∀ s : State, s.takes .booth 0x32 →
    let data : List Byte :=
      s.chans.channels.toList.flatMap Channel.bytes ++
        s.chans.sounds.toList.map (fun r => byte1 r.chsel) ++
        [bitsByte (s.chans.sounds.toList.map SoundRecord.carrierLevel)]
    exec (.readChannels .booth) s = .next (s.answer .booth 0x32 .ok data) ∧ data.length = 43) ∧
  (∀ (n : Fin 6) (high : Bool) (s : State),
    let r := s.chans.sounds[n]
    let onAir := (∃ k, r.sound = .live k) ∨ ∃ k j x, r.sound = .announce k j x
    (r.carrierOk = high → exec (.carrierOkChange n high) s = .next s) ∧
    (r.carrierOk ≠ high → s.sys.phase ≠ .running →
      exec (.carrierOkChange n high) s = .next (s.modSound n fun x => { x with carrierOk := high })) ∧
    (r.carrierOk ≠ high → s.sys.phase = .running →
      (onAir → high = true →
        exec (.carrierOkChange n high) s = .next (s.modSound n fun x =>
          { x with carrierOk := true, faultTimer := none, spent := false, carrierLevel := true })) ∧
      (onAir → high = false →
        exec (.carrierOkChange n high) s = .next (s.modSound n fun x =>
          { x with
            carrierOk := false
            faultTimer := if x.faultTimer = none ∧ x.spent = false then some s.chans.faultTime
              else x.faultTimer })) ∧
      (¬ onAir →
        exec (.carrierOkChange n high) s = .next (s.modSound n fun x =>
          { x with carrierOk := high, carrierLevel := high })))) ∧
  (∀ (n : Fin 6) (s : State), s.sys.phase = .running →
    (s.chans.sounds[n].faultTimer ≠ none →
      exec (.carrierFault n) s = .next ((s.modSound n fun r =>
        { r with faultTimer := none, spent := true, carrierLevel := false }).carrierFaultAt n)) ∧
    ∀ c next x, s.chans.sounds[n].announceTimer ≠ none → s.chans.sounds[n].sound = .announce c next x →
      let u := (s.setChannel next (.held n .live)).modSound n fun r => { r with announceTimer := none }
      exec (.announceTimerExpiry n) s =
        .next ((match x with
          | .carrier => (u.setChannel c (.quarantined s.chans.quarantineTime)).setSound n (.live next)
          | .operator => ((u.setChannel c .free).setSound n (.live next)).offer c).raiseBooth
            .retuneDone)) ∧
  ∀ s : State, s.sys.phase = .running →
    exec .channelSecond s = .next { s with chans := { s.chans with
      channels := s.chans.channels.map fun c =>
        { c with state := match c.state with
          | .quarantined k => .quarantined (k - 1)
          | x => x }
      secondTimer := some 1000 } } ∧
    ∀ c : Fin 12,
      (∀ k, s.chans.channels[c].state = .quarantined k →
        exec (.quarantineExpiry c) s = .next ((s.setChannel c .free).offer c)) ∧
      ((∀ k, s.chans.channels[c].state ≠ .quarantined k) → exec (.quarantineExpiry c) s = .next s)

/-- The row display driver: a word that changes joins the pending set, and one set to what it holds does not; an idle
bus takes the lowest-numbered pending line above the line last sent, or else the lowest, sends that line's word as it
stands and takes the line out of the set; the word carries its line, channel, blink and lamp and the count of its
ones; after its 2 ms the bus is idle again. On the pins a word is 16 periods of RD_CLK, low and then high, with RD_DAT
at its bits, most significant first; between words RD_CLK is high. That RD_DAT keeps the last bit between words and is
seen once a ms while a word is sent (log 23), and that the two rows act whenever they are given (log 8), are the model's
choices. -/
def Obligations.RowDisplayBus : Prop :=
  (∀ (r : Fin 48) (w : DisplayWord) (d : Display),
    (d.words[r] = w → d.setWord r w = d) ∧
    (d.words[r] ≠ w →
      d.setWord r w = { d with words := d.words.set r w, queued := d.queued.set r true })) ∧
  (∀ (r : Fin 48) (w : DisplayWord), w.channel ≤ 12 →
    let b := busWord r w
    b.extractLsb' 10 6 = BitVec.ofNat 6 (r.val + 1) ∧ b.extractLsb' 6 4 = BitVec.ofNat 4 w.channel ∧
    b.getLsbD 5 = w.blink ∧ b.getLsbD 4 = w.lamp ∧
    (b.extractLsb' 0 4).toNat = (List.range 12).countP fun k => b.getLsbD (k + 4)) ∧
  (∀ w : BitVec 16, (busLevels w).length = 32 ∧
    ∀ k : Nat, k < 16 → (busLevels w)[2 * k]? = some (false, w.getLsbD (15 - k)) ∧
      (busLevels w)[2 * k + 1]? = some (true, w.getLsbD (15 - k))) ∧
  (∀ d : Display,
    (d.bus = none → d.rdClk = true ∧ d.rdDat = d.dat) ∧
    ∀ (r : Fin 48) (w : BitVec 16) (t : Nat), d.bus = some { row := r, word := w, timer := some t } →
      1 ≤ t → t ≤ 2 → (busLevels w)[16 * (2 - t)]? = some (d.rdClk, d.rdDat)) ∧
  ∀ s : State, s.sys.phase = .running →
    (∀ r : Fin 48, s.disp.bus = none → s.disp.queued[r] = true →
      ((s.disp.lastSent < r ∧ ∀ j : Fin 48, s.disp.lastSent < j → j < r → s.disp.queued[j] = false) ∨
        ((∀ j : Fin 48, s.disp.lastSent < j → s.disp.queued[j] = false) ∧
          ∀ j : Fin 48, j < r → s.disp.queued[j] = false)) →
      exec .displayWordStart s = .next { s with disp := { s.disp with
        queued := s.disp.queued.set r false, lastSent := r
        bus := some { row := r, word := busWord r s.disp.words[r], timer := some 2 } } }) ∧
    ((s.disp.bus ≠ none ∨ ∀ r : Fin 48, s.disp.queued[r] = false) →
      exec .displayWordStart s = .next s) ∧
    (s.disp.bus = none → exec .displayWordSent s = .next s) ∧
    ∀ x : Sending, s.disp.bus = some x →
      exec .displayWordSent s = .next { s with disp := { s.disp with bus := none, dat := x.word.getLsbD 0 } }

/-! ## Call posts (chapter 6) -/

/-- The tone detector and qualifier of a row. A low and a high tone are the pair of a key; more than one tone of either
group is a clash, and less than a pair is no pair. What each finding and each timer does in each state of the
qualifier. When the tones on a line change, a finding that stays is no event (log 41), and a new one is taken only
while the part runs, the row belongs to a field and the screen domain of its field is ACTIVE; it is kept in any case.
An expiry row acts whenever its timer runs (log 8). -/
def Obligations.ToneQualifier : Prop :=
  (∀ (p : Posts) (r : Row) (k : Key) (x : Finding),
    let stop : Row := { r with
      onTimer := none, cycleTimer := none, dropoutTimer := none, maxHoldTimer := none, offTimer := none }
    let pairOf (j : Key) : Row := { stop with
      qualifier := .pair j, onTimer := some p.onTime, cycleTimer := some p.cycleTime }
    let clash : Row := { stop with qualifier := .clash }
    let quiet : Row := { stop with qualifier := .quiet }
    let released : Row := { r with
      qualifier := .released k, dropoutTimer := none, maxHoldTimer := none, offTimer := some p.offTime }
    (r.qualifier = .quiet → r.takeFinding p x =
      match x with
      | .noPair => r
      | .pair j => pairOf j
      | .clash => clash) ∧
    (r.qualifier = .pair k → r.takeFinding p x =
      match x with
      | .noPair => quiet
      | .pair j => if j = k then r else pairOf j
      | .clash => clash) ∧
    (r.qualifier = .held k → r.takeFinding p x =
      match x with
      | .noPair => if p.dropoutTime = 0 then released else { r with dropoutTimer := some p.dropoutTime }
      | .pair j => if j = k then { r with dropoutTimer := none } else pairOf j
      | .clash => clash) ∧
    (r.qualifier = .released k → r.takeFinding p x =
      match x with
      | .noPair => r
      | .pair j => pairOf j
      | .clash => clash) ∧
    (r.qualifier = .clash ∨ r.qualifier = .stuck → r.takeFinding p x =
      match x with
      | .noPair => { r with offTimer := some p.offTime }
      | _ => { r with offTimer := none }) ∧
    (r.qualifier = .blanked → r.takeFinding p x = r) ∧
    (r.qualifier = .pair k → Row.onExpiry p r =
      { r with qualifier := .held k, onTimer := none, maxHoldTimer := some p.maximumHold }) ∧
    (r.qualifier = .held k → Row.dropoutExpiry p r = released)) ∧
  (∀ (i : Fin 4) (j : Fin 3), findingOf ⟨1 <<< i.val, 1 <<< j.val⟩ = .pair
    (if i.val < 3 then .digit (Fin.ofNat 10 (3 * i.val + j.val + 1))
      else if j.val = 0 then .star else if j.val = 1 then .digit 0 else .hash)) ∧
  (∀ tones : Tones,
    let low := (List.range 4).countP fun k => tones.low.getLsbD k
    let high := (List.range 3).countP fun k => tones.high.getLsbD k
    (findingOf tones = .clash ↔ 1 < low ∨ 1 < high) ∧
    (findingOf tones = .noPair ↔ low ≤ 1 ∧ high ≤ 1 ∧ low + high ≤ 1)) ∧
  ∀ (r : Fin 48) (s : State),
    let x := s.posts.rows[r]
    (∀ tones, let f := findingOf tones
      (x.finding = f → exec (.toneFindingChange r tones) s = .next s) ∧
      (x.finding ≠ f →
        (s.sys.phase = .running → x.positions ≠ 0 →
          s.doms.domains[screenDomain (rowScreen r)].state = .active →
          exec (.toneFindingChange r tones) s =
            .next (s.modRow r fun y => Row.takeFinding s.posts f { y with finding := f })) ∧
        (s.sys.phase ≠ .running ∨ x.positions = 0 ∨
          s.doms.domains[screenDomain (rowScreen r)].state ≠ .active →
          exec (.toneFindingChange r tones) s = .next (s.modRow r fun y => { y with finding := f })))) ∧
    (s.sys.phase = .running →
      (x.onTimer ≠ none → exec (.onTimerExpiry r) s = .next (s.modRow r (Row.onExpiry s.posts))) ∧
      (x.dropoutTimer ≠ none →
        exec (.dropoutTimerExpiry r) s = .next (s.modRow r (Row.dropoutExpiry s.posts))) ∧
      (x.maxHoldTimer ≠ none →
        exec (.maxHoldTimerExpiry r) s =
          .next ((s.modRow r fun y =>
            { y with
              qualifier := .stuck, onTimer := none, cycleTimer := none, dropoutTimer := none
              maxHoldTimer := none, offTimer := none, sequence := .none, interKey := none }).raiseBooth
                .rowStuck)) ∧
      (x.offTimer ≠ none → x.qualifier = .clash ∨ x.qualifier = .stuck →
        exec (.offTimerExpiry r) s =
          .next (s.modRow r fun y => { y with offTimer := none, qualifier := .quiet })) ∧
      (∀ k, x.qualifier = .released k →
        (x.offTimer ≠ none → x.cycleTimer ≠ none →
          exec (.offTimerExpiry r) s = .next (s.modRow r fun y => { y with offTimer := none }) ∧
          exec (.cycleTimerExpiry r) s = .next (s.modRow r fun y => { y with cycleTimer := none })) ∧
        (x.offTimer ≠ none → x.cycleTimer = none →
          exec (.offTimerExpiry r) s =
            .next ((s.modRow r fun y => { y with offTimer := none }).deliverKey r k)) ∧
        (x.offTimer = none → x.cycleTimer ≠ none →
          exec (.cycleTimerExpiry r) s =
            .next ((s.modRow r fun y => { y with cycleTimer := none }).deliverKey r k))) ∧
      (x.cycleTimer ≠ none → (∀ k, x.qualifier ≠ .released k) →
        exec (.cycleTimerExpiry r) s = .next (s.modRow r fun y => { y with cycleTimer := none })))

/-- The grammar of the keyed sequences, and what a delivered key does to its row: the sequence stands with its inter-
key timer afresh, ends with a REFUSE tone and BAD_PARAM, ends with an ACCEPT tone, or is sent as a request for the
stall at the position keyed. The inter-key timeout ends it with REFUSE and LENGTH; an answer that finds its own
sequence SENT ends it by its status, and any other answer is discarded; the end of the tone leaves the row QUIET.
Requests and answers are under way between the rows and the order table until a step takes them, with a tag of the
model's own (log 9), and the ends of the inter-key time and of a tone act whenever their timers run (log 8): the model's
choices. -/
def Obligations.KeySequences : Prop :=
  (∀ (positions : Nat) (prices : Vector Nat 100) (d t u : Fin 10) (p : Nat) (e : List Line) (r : Fin 12)
      (k : Key) (tag : Nat),
    Sequence.take positions prices .none .star = .stand (.orderPosition []) ∧
    Sequence.take positions prices .none .hash = .stand (.deliveryRunner []) ∧
    Sequence.take positions prices .none (.digit d) = .invalid ∧
    Sequence.take positions prices (.orderPosition []) (.digit d) = .stand (.orderPosition [d]) ∧
    Sequence.take positions prices (.orderPosition [t]) (.digit d) =
      (if 1 ≤ 10 * t.val + d.val ∧ 10 * t.val + d.val ≤ positions then
        .stand (.orderEntry (10 * t.val + d.val) [] []) else .invalid) ∧
    Sequence.take positions prices (.orderPosition [t]) .star = .invalid ∧
    Sequence.take positions prices (.orderPosition []) .hash = .invalid ∧
    Sequence.take positions prices (.orderEntry p [] e) (.digit d) =
      (if e.length < 8 then .stand (.orderEntry p [d] e) else .invalid) ∧
    (∀ c, prices[10 * t.val + d.val]? = some c →
      Sequence.take positions prices (.orderEntry p [t] e) (.digit d) =
        if c = 0 then .invalid else .stand (.orderEntry p [t, d] e)) ∧
    Sequence.take positions prices (.orderEntry p [t, u] e) (.digit d) =
      (if d = 0 then .invalid
        else .stand (.orderEntry p [] (e ++ [{ item := 10 * t.val + u.val, quantity := d.val }]))) ∧
    Sequence.take positions prices (.orderEntry p [] e) .hash = .sendOrder p e ∧
    Sequence.take positions prices (.orderEntry p [t] e) .hash = .invalid ∧
    Sequence.take positions prices (.orderEntry p [t, u] e) .hash = .invalid ∧
    Sequence.take positions prices (.orderEntry p [] e) .star = .cancelled ∧
    Sequence.take positions prices (.orderEntry p [t, u] e) .star = .cancelled ∧
    Sequence.take positions prices (.deliveryRunner []) (.digit d) = .stand (.deliveryRunner [d]) ∧
    (∀ n : Fin 12, 10 * t.val + d.val = n.val + 1 →
      Sequence.take positions prices (.deliveryRunner [t]) (.digit d) = .stand (.deliveryPosition n [])) ∧
    (¬ (1 ≤ 10 * t.val + d.val ∧ 10 * t.val + d.val ≤ 12) →
      Sequence.take positions prices (.deliveryRunner [t]) (.digit d) = .invalid) ∧
    Sequence.take positions prices (.deliveryPosition r []) (.digit d) = .stand (.deliveryPosition r [d]) ∧
    Sequence.take positions prices (.deliveryPosition r [t]) (.digit d) =
      (if 1 ≤ 10 * t.val + d.val ∧ 10 * t.val + d.val ≤ positions then
        .stand (.deliveryClose r (10 * t.val + d.val)) else .invalid) ∧
    Sequence.take positions prices (.deliveryRunner [t]) .star = .invalid ∧
    Sequence.take positions prices (.deliveryPosition r []) .hash = .invalid ∧
    Sequence.take positions prices (.deliveryClose r p) .hash = .sendDelivery r p ∧
    Sequence.take positions prices (.deliveryClose r p) .star = .invalid ∧
    Sequence.take positions prices (.deliveryClose r p) (.digit d) = .invalid ∧
    Sequence.take positions prices (.orderSent p e tag) k = .invalid) ∧
  ∀ (r : Fin 48) (k : Key) (s : State),
    let x := s.posts.rows[r]
    let result := x.sequence.take x.positions s.ords.prices k
    let stopped (y : Row) (q : Qualifier) (seq : Sequence) : Row := { y with
      qualifier := q, sequence := seq, onTimer := none, cycleTimer := none, dropoutTimer := none
      maxHoldTimer := none, offTimer := none }
    let ended (y : Row) (tone : Tone) (time : Nat) : Row := { stopped y .blanked .none with
      interKey := none, tone := tone, toneTimer := some time }
    (∀ q, result = .stand q → s.deliverKey r k = s.modRow r fun y =>
      { stopped y .quiet q with interKey := some s.posts.interKeyTime }) ∧
    (result = .invalid → s.deliverKey r k = s.modRow r fun y =>
      { ended y .refuse 600 with lastRefusal := some .badParam }) ∧
    (result = .cancelled → s.deliverKey r k = s.modRow r fun y => ended y .accept 150) ∧
    (∀ p e, result = .sendOrder p e →
      s.deliverKey r k = { s with posts := { s.posts with
        rows := upd s.posts.rows r fun y =>
          { stopped y .blanked (.orderSent p e s.posts.nextTag) with interKey := none, tone := .none }
        requests := s.posts.requests ++ [⟨r, s.posts.nextTag,
          if e = [] then .cancelNewest (rowScreen r) (s.rowStall r p)
            else .place (rowScreen r) (s.rowStall r p) e⟩]
        nextTag := s.posts.nextTag + 1 } }) ∧
    (∀ n p, result = .sendDelivery n p →
      s.deliverKey r k = { s with posts := { s.posts with
        rows := upd s.posts.rows r fun y =>
          { stopped y .blanked (.deliverySent n p s.posts.nextTag) with interKey := none, tone := .none }
        requests := s.posts.requests ++ [⟨r, s.posts.nextTag, .confirm n (rowScreen r) (s.rowStall r p)⟩]
        nextTag := s.posts.nextTag + 1 } }) ∧
    (s.sys.phase = .running →
      (x.interKey ≠ none → exec (.interKeyTimeout r) s = .next (s.modRow r fun y =>
        { ended y .refuse 600 with lastRefusal := some .length })) ∧
      (x.toneTimer ≠ none → exec (.answerToneEnd r) s =
        .next ((s.modRow r fun y =>
          { stopped y .quiet y.sequence with tone := .none, toneTimer := none }).takePresent r)) ∧
      ∀ (a : PostAnswer) (before after : List PostAnswer), s.posts.answers = before ++ a :: after →
        (∀ b ∈ before, b.row ≠ r) → a.row = r →
        let u : State := { s with posts := { s.posts with answers := before ++ after } }
        (x.sequence.sentTag = some a.tag → a.status = .ok →
          exec (.requestAnswer r) s = .next (u.modRow r fun y => ended y .accept 150)) ∧
        (x.sequence.sentTag = some a.tag → a.status ≠ .ok →
          exec (.requestAnswer r) s = .next (u.modRow r fun y =>
            { ended y .refuse 600 with lastRefusal := some a.status })) ∧
        (x.sequence.sentTag ≠ some a.tag → exec (.requestAnswer r) s = .next u))

/-- ABORT_ROW ends the row's sequence, tone and candidate and leaves it QUIET to take the present finding; READ_ROW is
answered with the 36 bytes of the row and its display word and changes nothing. The numbers of the sequence states are
the model's reading (log 12). -/
def Obligations.RowCommands : Prop :=
  ∀ (line : Byte) (s : State),
    (numbered 48 line = none →
      (s.takes .booth 0x38 → exec (.abortRow .booth line) s = .next (s.answer .booth 0x38 .badParam [])) ∧
      (s.takes .booth 0x39 → exec (.readRow .booth line) s = .next (s.answer .booth 0x39 .badParam []))) ∧
    ∀ r : Fin 48, numbered 48 line = some r →
      let x := s.posts.rows[r]
      (s.takes .booth 0x38 →
        (x.positions = 0 →
          exec (.abortRow .booth line) s = .next (s.answer .booth 0x38 .badState [])) ∧
        (x.positions ≠ 0 →
          let quiet : Row := { x with
            qualifier := .quiet, onTimer := none, cycleTimer := none, dropoutTimer := none
            maxHoldTimer := none, offTimer := none, sequence := .none, interKey := none, tone := .none
            toneTimer := none }
          let y := if s.doms.domains[screenDomain (rowScreen r)].state = .active then
            quiet.takeFinding s.posts x.finding else quiet
          exec (.abortRow .booth line) s =
            .next ((s.modRow r fun _ => y).answer .booth 0x38 .ok [byte1 y.qualifier.number]))) ∧
      (s.takes .booth 0x39 →
        let q := x.sequence
        let w := s.disp.words[r]
        let data : List Byte :=
          (if x.positions = 0 then [0, 0] else [numberByte (rowScreen r), byte1 (r.val % 8 + 1)]) ++
          [byte1 x.positions, byte1 x.qualifier.number, optKey x.qualifier.candidate, byte1 q.kindNumber,
            byte1 q.stateNumber, optKey (q.digits[0]?.map Key.digit), optKey (q.digits[1]?.map Key.digit),
            byte1 q.position] ++
          listBytes 8 2 Line.bytes q.entries ++ [optNumber q.runner] ++ bytes2 (x.interKey.getD 0) ++
          [byte1 x.tone.number, (x.lastRefusal.map Status.value).getD 0, byte1 w.channel, flagByte w.blink,
            flagByte w.lamp, flagByte s.disp.queued[r]]
        exec (.readRow .booth line) s = .next (s.answer .booth 0x39 .ok data) ∧
        (q.entries.length ≤ 8 → data.length = 36))

/-! ## Orders, the kitchen and the runners (chapter 7) -/

/-- A placement, from the counter or from a post: the naming and line checks of PLACE, then WINDOW, NO_CAR, DAMAGED,
TOO_MANY, LIMIT and FULL in that order; then the order PLACED at its reckoned amount, at the tail of the kitchen queue
and of the admission's list, with ORDER_PLACED, and owed as it was. The step takes the oldest request of its row (log
9). -/
def Obligations.Placement : Prop :=
  (∀ (n : Fin 6) (i : Fin 1024) (stall : Nat) (origin : Origin) (lines : List Line) (s : State),
    let reply := s.placeOrder n i stall origin lines
    let amount := (lines.map fun x => x.quantity * (s.ords.prices[x.item]?.getD 0)).sum
    (s.ords.windows[n] = false → reply = s.refuse .window) ∧
    (s.ords.windows[n] = true →
      ((∀ a, s.lot.occupants[i] = some { slot := a, hold := .occupation } → s.gate.laneOf a ≠ none) →
        reply = s.refuse .noCar) ∧
      ∀ a, s.lot.occupants[i] = some { slot := a, hold := .occupation } → s.gate.laneOf a = none →
        (∀ u, s.readTab a = (none, u) → reply = u.refuse .damaged) ∧
        ∀ x orders u, s.readTab a = (some (x, orders), u) →
          let open' := ((orders.filter fun o => o.2.state = .placed).map fun o => o.2.amount).sum
          let refused := firstFailing
            [(decide (s.ords.orderLimit ≤ x.orders.length), .tooMany),
              (decide (s.ords.tabLimit < x.owed + open' + amount), .limit),
              (decide (u.mem.orderFree = []), .full)]
          (∀ status, refused = some status → reply = u.refuse status) ∧
          ∀ k rest, refused = none → u.mem.orderFree = k :: rest →
            let new : Order :=
              { admission := u.admHandle a, screen := n, stall := stall, origin := origin
                placed := s.night.clock, lines := lines, amount := amount, state := .placed, runner := none
                collect := false, paid := false }
            let v := u.createOrder k new
            reply = State.ok
              ((({ v with ords := { v.ords with kitchen := s.ords.kitchen ++ [k] } }.writeAdm a fun y =>
                { y with orders := y.orders ++ [u.orderHandle k] }).raiseCounter .orderPlaced))
              ((u.orderHandle k).bytes ++ bytes3 amount))) ∧
  (∀ (p : PortId) (screen count : Byte) (stall : Word16) (lines : List RawLine) (s : State), s.takes p 0x40 →
    (Instr.place p screen stall count lines).wf = true →
    let bad := ¬ (1 ≤ count.toNat ∧ count.toNat ≤ 8) ∨ ∃ x ∈ lines, 99 < x.item.toNat ∨
      ¬ (1 ≤ x.quantity.toNat ∧ x.quantity.toNat ≤ 9) ∨ s.ords.prices[x.item.toNat]? = some 0
    (∀ status, s.lot.named screen stall = .error status →
      exec (.place p screen stall count lines) s = .next (s.answer p 0x40 status [])) ∧
    ∀ n i, s.lot.named screen stall = .ok (n, i) →
      (bad → exec (.place p screen stall count lines) s = .next (s.answer p 0x40 .badParam [])) ∧
      (¬ bad →
        let r := s.placeOrder n i stall.toNat .counter
          (lines.map fun x => { item := x.item.toNat, quantity := x.quantity.toNat })
        exec (.place p screen stall count lines) s = .next (r.state.answer p 0x40 r.status r.data))) ∧
  ∀ (row : Fin 48) (before after : List PostRequest) (n : Fin 6) (stall tag : Nat) (lines : List Line)
      (f : Field) (s : State), s.sys.phase = .running →
    s.posts.requests = before ++ ⟨row, tag, .place n stall lines⟩ :: after →
    (∀ q ∈ before, ∀ m k l, q.body = .place m k l → q.row ≠ row) →
    s.lot.fields[n] = some f → 1 ≤ stall → stall ≤ f.stallCount →
    let u : State := { s with posts := { s.posts with requests := before ++ after } }
    let r := u.placeOrder n (f.index stall) stall .post lines
    exec (.placeRequest row) s = .next { r.state with posts := { r.state.posts with
      answers := s.posts.answers ++ [⟨row, tag, r.status⟩] } }

/-- TAKE by its checks: the order leaves the queue PREPARING, its amount is charged, and the answer is the ticket. READY
makes a PREPARING order READY and nothing else, after STALE, DAMAGED and BAD_STATE. QUEUE_PEEK and LOOKUP_ORDER change
nothing but what a read does; a marked order is answered with what the index store gives. -/
def Obligations.KitchenCommands : Prop :=
  (∀ (k : Fin 256) (s u : State),
    (s.readOrderAdm k = (none, u) → s.takeMember k = u.refuse .damaged) ∧
    ∀ x y, s.readOrderAdm k = (some (x, y), u) →
      s.takeMember k = State.ok
        (((u.leaveKitchen k).writeOrder k fun z => { z with state := .preparing }).writeAdm x.admission.slot
          fun z => { z with owed := z.owed + x.amount })
        ((u.orderHandle k).bytes ++ x.admission.bytes ++ [numberByte x.screen] ++ bytes2 x.stall ++
          listBytes 8 2 Line.bytes x.lines ++ bytes3 x.amount)) ∧
  (∀ (handle : Word16) (s : State), s.takes .counter 0x41 →
    let h := OrderHandle.ofWord handle
    let answered (i : Instr) (r : Reply) : Prop :=
      exec i s = .next (r.state.answer .counter 0x41 r.status r.data)
    (s.orderCurrent h = false → answered (.take .counter (some handle)) (s.refuse .stale)) ∧
    (s.orderCurrent h = true → h.slot ∉ s.ords.kitchen →
      answered (.take .counter (some handle)) (s.refuse .badState)) ∧
    (s.orderCurrent h = true → h.slot ∈ s.ords.kitchen →
      answered (.take .counter (some handle)) (s.takeMember h.slot)) ∧
    (s.ords.kitchen = [] → answered (.take .counter none) (s.refuse .empty)) ∧
    ∀ k rest, s.ords.kitchen = k :: rest → answered (.take .counter none) (s.takeMember k)) ∧
  (∀ (handle : Word16) (s u : State), s.takes .counter 0x42 →
    let h := OrderHandle.ofWord handle
    (s.orderCurrent h = false →
      exec (.ready .counter handle) s = .next (s.answer .counter 0x42 .stale [])) ∧
    (s.orderCurrent h = true → s.readOrder h.slot = (none, u) →
      exec (.ready .counter handle) s = .next (u.answer .counter 0x42 .damaged [])) ∧
    ∀ x, s.orderCurrent h = true → s.readOrder h.slot = (some x, u) →
      (x.state ≠ .preparing →
        exec (.ready .counter handle) s = .next (u.answer .counter 0x42 .badState [])) ∧
      (x.state = .preparing →
        exec (.ready .counter handle) s =
          .next ((u.writeOrder h.slot fun y => { y with state := .ready }).answer .counter 0x42 .ok []))) ∧
  (∀ (p : PortId) (s : State), s.takes p 0x4B →
    exec (.queuePeek p) s =
      .next (s.answer p 0x4B .ok
        (bytes2 s.ords.kitchen.length ++
          (s.ords.kitchen.take 8).flatMap (fun k => (s.orderHandle k).bytes) ++
          List.replicate (2 * (8 - (s.ords.kitchen.take 8).length)) 0))) ∧
  ∀ (p : PortId) (handle : Word16) (s u : State), s.takes p 0x4C →
    let h := OrderHandle.ofWord handle
    (s.orderCurrent h = false → exec (.lookupOrder p handle) s = .next (s.answer p 0x4C .stale [])) ∧
    (∀ x, s.orderCurrent h = true → s.readOrder h.slot = (some x, u) →
      let data := [bitsByte [false, x.collect, x.paid]] ++ h.bytes ++ x.admission.bytes ++
        [numberByte x.screen] ++ bytes2 x.stall ++ [byte1 x.origin.number] ++ bytes3 x.placed ++
        [byte1 x.state.number, optNumber x.runner] ++ bytes3 x.amount ++ listBytes 8 2 Line.bytes x.lines
      exec (.lookupOrder p handle) s = .next (u.answer p 0x4C .ok data) ∧
      (x.lines.length ≤ 8 → data.length = 34)) ∧
    (s.orderCurrent h = true → s.readOrder h.slot = (none, u) →
      exec (.lookupOrder p handle) s =
        .next (u.answer p 0x4C .damaged
          (([1] : List Byte) ++ h.bytes ++ (List.replicate 9 0 : List Byte) ++
            (if h.slot ∈ u.ords.kitchen then ([1, 0] : List Byte)
              else match u.ords.runnerOf h.slot with
                | some r => ([4, byte1 (r.val + 1)] : List Byte)
                | none => ([0, 0] : List Byte)) ++
            List.replicate 20 0)))

/-- The runners: RUNNER_ON and RUNNER_OFF by the runner's state, DISPATCH and RUNNER_BACK with their checks in order
and their effects on the orders and the runner, the report of a late trip, and READ_RUNNER. That every order named is read
before the answer (log 11), that the end of the trip timer acts whenever it runs (log 8), that READ_RUNNER gives the time
left in seconds, a part counted whole (log 21), and 0 while the timer is stopped (log 37), and that DISPATCH checks the
runner and the count before the handles, as R135 and not R4 has it (log 34), are the model's choices. -/
def Obligations.Runners : Prop :=
  (∀ (runner : Byte) (s : State),
    (numbered 12 runner = none →
      (s.takes .counter 0x48 →
        exec (.runnerOn .counter runner) s = .next (s.answer .counter 0x48 .badParam [])) ∧
      (s.takes .counter 0x49 →
        exec (.runnerOff .counter runner) s = .next (s.answer .counter 0x49 .badParam [])) ∧
      (∀ p, s.takes p 0x4A → exec (.readRunner p runner) s = .next (s.answer p 0x4A .badParam []))) ∧
    ∀ r : Fin 12, numbered 12 runner = some r →
      let x := s.ords.runners[r]
      let set (st : RunnerState) : State := s.modRunner r fun y => { y with state := st }
      (s.takes .counter 0x48 →
        exec (.runnerOn .counter runner) s =
          .next (if x.state = .off then (set .available).answer .counter 0x48 .ok [2]
            else s.answer .counter 0x48 .ok [byte1 x.state.number])) ∧
      (s.takes .counter 0x49 →
        exec (.runnerOff .counter runner) s =
          .next (match x.state with
            | .available => (set .off).answer .counter 0x49 .ok [1]
            | .off => s.answer .counter 0x49 .ok [1]
            | .out => s.answer .counter 0x49 .badState [])) ∧
      (∀ p, s.takes p 0x4A → exec (.readRunner p runner) s =
        .next (s.answer p 0x4A .ok
          ([byte1 x.state.number] ++ listBytes 3 2 (fun k => (s.orderHandle k).bytes) x.carried ++
            bytes3 (x.tripStart.getD 0xFFFFFF) ++ [flagByte x.late] ++
            bytes2 ((x.tripTimer.getD 0 + 999) / 1000)))) ∧
      (s.sys.phase = .running → x.tripTimer ≠ none →
        exec (.tripTimerExpiry r) s =
          .next ((s.modRunner r fun y => { y with late := true, tripTimer := none }).raiseCounter
            .runnerLate))) ∧
  (∀ (runner count : Byte) (handles : List Word16) (s : State), s.takes .counter 0x43 →
    (Instr.dispatch .counter runner count handles).wf = true →
    let hs := handles.map OrderHandle.ofWord
    let slots := hs.map OrderHandle.slot
    let answered (t : State) (status : Status) : Prop :=
      exec (.dispatch .counter runner count handles) s = .next (t.answer .counter 0x43 status [])
    (numbered 12 runner = none ∨ ¬ (1 ≤ count.toNat ∧ count.toNat ≤ 3) → answered s .badParam) ∧
    ∀ r : Fin 12, numbered 12 runner = some r → 1 ≤ count.toNat ∧ count.toNat ≤ 3 →
      let refused := firstFailing
        [(!hs.all s.orderCurrent, .stale), (decide (¬ slots.Nodup), .badParam),
          (decide (s.ords.runners[r].state ≠ .available), .badState)]
      (∀ status, refused = some status → answered s status) ∧
      (∀ xs u, refused = none → s.readOrders slots = (xs, false, u) → answered u .damaged) ∧
      ∀ xs u, refused = none → s.readOrders slots = (xs, true, u) →
        ((∃ x ∈ xs, x.2.state ≠ .ready) → answered u .badState) ∧
        ((∀ x ∈ xs, x.2.state = .ready) →
          answered ((u.each slots fun k v => v.writeOrder k fun y =>
              { y with state := .running, runner := some r }).modRunner r fun _ =>
            { state := .out, carried := slots, tripStart := some s.night.clock, late := false
              tripTimer := some (s.ords.tripTime * 1000) }) .ok)) ∧
  ∀ (runner : Byte) (s : State), s.takes .counter 0x45 →
    (numbered 12 runner = none →
      exec (.runnerBack .counter runner) s = .next (s.answer .counter 0x45 .badParam [])) ∧
    ∀ r : Fin 12, numbered 12 runner = some r →
      let slots := s.ords.runners[r].carried
      (s.ords.runners[r].state ≠ .out →
        exec (.runnerBack .counter runner) s = .next (s.answer .counter 0x45 .badState [])) ∧
      (∀ xs u, s.ords.runners[r].state = .out → s.readOrders slots = (xs, false, u) →
        exec (.runnerBack .counter runner) s = .next (u.answer .counter 0x45 .damaged [])) ∧
      ∀ xs u, s.ords.runners[r].state = .out → s.readOrders slots = (xs, true, u) →
        exec (.runnerBack .counter runner) s =
          .next (((u.each slots fun k v => v.writeOrder k fun y =>
              { y with state := .ready, runner := none }).modRunner r fun _ =>
            { state := .available, carried := [], tripStart := none, late := false
              tripTimer := none }).answer .counter 0x45 .ok [byte1 slots.length])

/-- A delivery takes the order off its runner, whose trip timer stops when its list is then empty, makes it DELIVERED
with no runner, counts it, retires it when it is PAID, and examines its admission. DELIVERED and HANDOVER deliver one
order after their checks in order; a CONFIRM request delivers every matching order that is not for collection, and is
otherwise answered GONE, NOT_CARRIED or DAMAGED with nothing delivered. The step takes the oldest request of its row
(log 9), and every order and admission concerned is read before the answer (log 11): the model's choices. -/
def Obligations.Deliveries : Prop :=
  (∀ (k : Fin 256) (x : Order) (s : State),
    let taken : State := { s with ords := { s.ords with
      runners := s.ords.runners.map fun r =>
        if k ∈ r.carried then
          { r with
            carried := r.carried.filter (· ≠ k)
            tripTimer := if r.carried.filter (· ≠ k) = [] then none else r.tripTimer }
        else r } }
    let u : State := { taken.writeOrder k fun y => { y with state := .delivered, runner := none } with
      night := { s.night with delivered := min (s.night.delivered + 1) 4294967295 } }
    let a := x.admission.slot
    s.deliver k x = if x.paid then
        ((u.writeAdm a fun y => { y with orders := y.orders.filter fun h => h.slot ≠ k }).retireOrder k).examineTab a
      else u.examineTab a) ∧
  (∀ (handle : Word16) (s u : State), s.takes .counter 0x44 →
    let h := OrderHandle.ofWord handle
    (s.orderCurrent h = false →
      exec (.delivered .counter handle) s = .next (s.answer .counter 0x44 .stale [])) ∧
    (s.orderCurrent h = true → s.readOrder h.slot = (none, u) →
      exec (.delivered .counter handle) s = .next (u.answer .counter 0x44 .damaged [])) ∧
    ∀ x, s.orderCurrent h = true → s.readOrder h.slot = (some x, u) →
      (x.paid = true → (u.readAdm x.admission.slot).1 = none →
        exec (.delivered .counter handle) s =
          .next ((u.readAdm x.admission.slot).2.answer .counter 0x44 .damaged [])) ∧
      (x.paid = false ∨ (u.readAdm x.admission.slot).1 ≠ none →
        let v := if x.paid then (u.readAdm x.admission.slot).2 else u
        (x.state ≠ .running →
          exec (.delivered .counter handle) s = .next (v.answer .counter 0x44 .badState [])) ∧
        (x.state = .running →
          exec (.delivered .counter handle) s =
            .next ((v.deliver h.slot x).answer .counter 0x44 .ok [])))) ∧
  (∀ (handle : Word16) (s u : State), s.takes .counter 0x47 →
    let h := OrderHandle.ofWord handle
    (s.orderCurrent h = false →
      exec (.handover .counter handle) s = .next (s.answer .counter 0x47 .stale [])) ∧
    (s.orderCurrent h = true → s.readOrderAdm h.slot = (none, u) →
      exec (.handover .counter handle) s = .next (u.answer .counter 0x47 .damaged [])) ∧
    ∀ x y, s.orderCurrent h = true → s.readOrderAdm h.slot = (some (x, y), u) →
      (¬ (x.collect = true ∧ (x.state = .ready ∨ x.state = .running)) →
        exec (.handover .counter handle) s = .next (u.answer .counter 0x47 .badState [])) ∧
      (x.collect = true → x.state = .ready ∨ x.state = .running →
        exec (.handover .counter handle) s =
          .next ((u.deliver h.slot x).answer .counter 0x47 .ok []))) ∧
  ∀ (row : Fin 48) (tag : Nat) (r : Fin 12) (n : Fin 6) (stall : Nat) (before after : List PostRequest)
      (s : State), s.sys.phase = .running →
    s.posts.requests = before ++ ⟨row, tag, .confirm r n stall⟩ :: after →
    (∀ q ∈ before, ∀ m k l, q.body = .confirm m k l → q.row ≠ row) →
    let u : State := { s with posts := { s.posts with requests := before ++ after } }
    let carried := u.readOrders s.ords.runners[r].carried
    let found := carried.1.filter fun x => x.2.screen = n ∧ x.2.stall = stall
    let handed := found.filter fun x => x.2.collect = false
    let owners := carried.2.2.readOwners found
    let answered (status : Status) (t : State) : Prop :=
      exec (.confirm row) s = .next { t with posts := { t.posts with
        answers := s.posts.answers ++ [⟨row, tag, status⟩] } }
    (carried.2.1 = false → answered .damaged carried.2.2) ∧
    (carried.2.1 = true → owners.1 = false → answered .damaged owners.2) ∧
    (carried.2.1 = true → owners.1 = true →
      (found = [] → answered .notCarried owners.2) ∧
      (found ≠ [] → handed = [] → answered .gone owners.2) ∧
      (handed ≠ [] →
        answered .ok ((owners.2.each handed fun x v => v.deliver x.1 x.2).raiseCounter .delivered)))

/-- CANCEL takes an order that is not RUNNING, DELIVERED or PAID off its list and retires it, with a charged amount
taken off owed; CANCEL_NEWEST retires the newest PLACED order of the car at the stall, with ORDER_CANCELLED;
FORCE_RETIRE of an order retires it whatever its state, its write-off by what of its admission is readable: the
admission that a readable order names, and for a marked order the live one whose list holds it. The new owed of CANCEL is
said of an admission that reads clean. The order in which admissions are read for the owner of a marked order (log 19),
that the step takes the oldest CANCEL_NEWEST request under way of its row (log 9), and NO_CAR for a request whose stall a
later layout does not have (log 30), are the model's choices. -/
def Obligations.CancelsAndForceRetire : Prop :=
  (∀ (p : PortId) (handle : Word16) (s u : State), s.takes p 0x46 →
    let h := OrderHandle.ofWord handle
    (s.orderCurrent h = false → exec (.cancel p handle) s = .next (s.answer p 0x46 .stale [])) ∧
    (s.orderCurrent h = true → s.readOrderAdm h.slot = (none, u) →
      exec (.cancel p handle) s = .next (u.answer p 0x46 .damaged [])) ∧
    ∀ x y, s.orderCurrent h = true → s.readOrderAdm h.slot = (some (x, y), u) →
      (x.state = .running ∨ x.state = .delivered ∨ x.paid = true →
        exec (.cancel p handle) s = .next (u.answer p 0x46 .badState [])) ∧
      (x.state = .placed ∨ x.state = .preparing ∨ x.state = .ready → x.paid = false →
        ∃ t : State, exec (.cancel p handle) s =
            .next (t.answer p 0x46 .ok (bytes3 (t.adm x.admission.slot).owed)) ∧
          (s.admClean x.admission.slot →
            (t.adm x.admission.slot).owed =
              (s.adm x.admission.slot).owed - (if x.state = .placed then 0 else x.amount) ∧
            (t.adm x.admission.slot).orders =
              (s.adm x.admission.slot).orders.filter fun k => k.slot ≠ h.slot) ∧
          t.orderLive h.slot = false ∧ t.mem.orderGen[h.slot] = s.mem.orderGen[h.slot] + 1 ∧
          h.slot ∉ t.ords.kitchen ∧ t.gate = s.gate ∧ t.lot = s.lot ∧ t.shows = s.shows ∧
          t.posts = s.posts ∧ t.doms = s.doms)) ∧
  (∀ (row : Fin 48) (tag : Nat) (n : Fin 6) (stall : Nat) (f : Field) (before after : List PostRequest)
      (s : State), s.sys.phase = .running →
    s.posts.requests = before ++ ⟨row, tag, .cancelNewest n stall⟩ :: after →
    (∀ q ∈ before, ∀ m k, q.body = .cancelNewest m k → q.row ≠ row) →
    s.lot.fields[n] = some f → 1 ≤ stall → stall ≤ f.stallCount →
    let u : State := { s with posts := { s.posts with requests := before ++ after } }
    let answered (status : Status) (t : State) : Prop :=
      exec (.cancelNewest row) s = .next { t with posts := { t.posts with
        answers := s.posts.answers ++ [⟨row, tag, status⟩] } }
    (u.carAt (f.index stall) = none → answered .noCar u) ∧
    ∀ a, u.carAt (f.index stall) = some a →
      (∀ v, u.readTab a = (none, v) → answered .damaged v) ∧
      ∀ x orders v, u.readTab a = (some (x, orders), v) →
        let placed := orders.filter fun o => o.2.state = .placed
        (placed = [] → answered .nonePlaced v) ∧
        ∀ rest o, placed = rest ++ [o] →
          answered .ok (((((v.leaveKitchen o.1).writeAdm a fun y =>
            { y with orders := y.orders.filter fun h => h.slot ≠ o.1 }).retireOrder o.1)).raiseCounter
              .orderCancelled)) ∧
  (∀ (row : Fin 48) (tag : Nat) (n : Fin 6) (stall : Nat) (before after : List PostRequest) (s : State),
    s.sys.phase = .running → s.posts.requests = before ++ ⟨row, tag, .cancelNewest n stall⟩ :: after →
    (∀ q ∈ before, ∀ m k, q.body = .cancelNewest m k → q.row ≠ row) →
    (∀ f, s.lot.fields[n] = some f → ¬ (1 ≤ stall ∧ stall ≤ f.stallCount)) →
    exec (.cancelNewest row) s = .next { s with posts := { s.posts with
      requests := before ++ after, answers := s.posts.answers ++ [⟨row, tag, .noCar⟩] } }) ∧
  (∀ (h : OrderHandle) (s u : State),
    (∀ x : Order,
      (∀ y, s.readAdm x.admission.slot = (some y, u) →
        s.orderOwner h (some x) = (some (x.admission.slot, y), u)) ∧
      (s.readAdm x.admission.slot = (none, u) → s.orderOwner h (some x) = (none, u))) ∧
    ((∀ a ∈ s.liveAdms, s.mem.admissions[a].marked = true ∨ s.admClean a) →
      let holds (a : Fin 1024) : Prop :=
        s.admLive a = true ∧ s.mem.admissions[a].marked = false ∧ h ∈ (s.adm a).orders
      (∀ a, holds a → (∀ b, b < a → ¬ holds b) → s.orderOwner h none = (some (a, s.adm a), s)) ∧
      ((∀ a, ¬ holds a) → s.orderOwner h none = (none, s)))) ∧
  ∀ (p : PortId) (handle : Word16) (s u : State) (x : Option Order), s.takes p 0x4D →
    let h := OrderHandle.ofWord handle
    let own := (x.map Order.unpaid).getD 0
    (s.orderCurrent h = false →
      exec (.forceRetireOrder p handle) s = .next (s.answer p 0x4D .stale [])) ∧
    (s.orderCurrent h = true → s.readOrder h.slot = (x, u) →
      (∀ v, u.orderOwner h x = (none, v) →
        exec (.forceRetireOrder p handle) s =
          .next (((v.writeOff own).retireOrder h.slot).answer p 0x4D .ok (bytes3 own))) ∧
      ∀ a y v, u.orderOwner h x = (some (a, y), v) →
        let others := v.readOrders ((y.orders.filter fun o => o ≠ h).map OrderHandle.slot)
        let owed := if others.2.1 then (others.1.map fun o => o.2.unpaid).sum else y.owed - own
        let w := others.2.2.writeAdm a fun z =>
          { z with owed := owed, orders := z.orders.filter fun o => o.slot ≠ h.slot }
        exec (.forceRetireOrder p handle) s =
          .next ((((w.writeOff (y.owed - owed)).retireOrder h.slot).examineTab a).answer p 0x4D .ok
            (bytes3 (y.owed - owed))))

/-! ## Tabs and the night (chapter 8) -/

/-- SETTLE by its checks in order: STALE, BAD_PARAM above 99,999 cents, DAMAGED, MISMATCH with the owed and the count of
live orders; then every charged order of a clean tab is PAID, those DELIVERED retire and leave the list, owed is 0, and the
takings rise by the amount. -/
def Obligations.Settle : Prop :=
  ∀ (p : PortId) (handle : Word16) (amount : Word24) (s : State), s.takes p 0x50 →
    let h := AdmHandle.ofWord handle
    let a := h.slot
    let refused := firstFailing [(!s.admCurrent h, .stale), (decide (99999 < amount.toNat), .badParam)]
    (∀ status, refused = some status →
      exec (.settle p handle amount) s = .next (s.answer p 0x50 status [])) ∧
    (∀ u, refused = none → s.readTab a = (none, u) →
      exec (.settle p handle amount) s = .next (u.answer p 0x50 .damaged [])) ∧
    ∀ x orders u, refused = none → s.readTab a = (some (x, orders), u) →
      (amount.toNat ≠ x.owed →
        exec (.settle p handle amount) s =
          .next (u.answer p 0x50 .mismatch (bytes3 x.owed ++ [byte1 x.orders.length]))) ∧
      (amount.toNat = x.owed →
        let paid := (orders.filter fun o => o.2.state ≠ .placed ∧ o.2.paid = false).length
        let retired := (orders.filter fun o => o.2.state = .delivered).length
        ∃ t : State, exec (.settle p handle amount) s =
            .next (t.answer p 0x50 .ok
              (bytes3 amount.toNat ++ [byte1 paid, byte1 retired, byte1 (x.orders.length - retired)])) ∧
          t.night.takings = min (s.night.takings + amount.toNat) 4294967295 ∧
          t.night.clock = s.night.clock ∧ t.night.writeOffs = s.night.writeOffs ∧
          (s.tabClean a → (t.adm a).owed = 0 ∧ (t.adm a).state = (s.adm a).state ∧
            (t.adm a).orders = (s.adm a).orders.filter fun k => (s.order k.slot).state ≠ .delivered) ∧
          (s.tabClean a → ((s.adm a).orders.map OrderHandle.slot).Nodup → ∀ k ∈ (s.adm a).orders,
            ((s.order k.slot).state = .placed → t.order k.slot = s.order k.slot) ∧
            ((s.order k.slot).state = .delivered → t.orderLive k.slot = false) ∧
            ((s.order k.slot).state ≠ .placed → (s.order k.slot).state ≠ .delivered →
              t.order k.slot = { s.order k.slot with paid := true })) ∧
          t.gate = s.gate ∧ t.lot = s.lot ∧ t.shows = s.shows ∧ t.posts = s.posts ∧ t.doms = s.doms)

/-- What OPEN_NIGHT sets when it passes its checks: the settings of SITE by their places, or their defaults where a
unit is ERASED; the prices, permitted flags, lane roles and layout; the totals at 0; every stall FREE; the lanes
unbound, at rest by loop A, and their counts at 0; each usable default show loaded on a screen that leaves DARK; every
window as its condition says; the store locked and the night OPEN. Where an ERASED unit stands in the order of the layout
checks (log 13), how often each unit is read (log 14), that the night clock's first second ends after 1,000 ms (log 21),
and that the presence timers of the lanes run on (log 28), are the model's choices. -/
def Obligations.OpenNight : Prop :=
  (∀ s : State, s.takes .booth 0x58 →
    let answered (t : State) (status : Status) (data : List Byte) : Prop :=
      exec (.openNight .booth) s = .next (t.answer .booth 0x58 status data)
    (s.night.state ≠ .closed → answered s .badState []) ∧
    (s.night.state = .closed → s.store.op ≠ none → answered s .busy []) ∧
    (s.night.state = .closed → s.store.op = none →
      (∀ area unit, s.store.nightFault = some (area, unit) → ∃ t : State,
        answered t .storeFault [byte1 area.val, byte1 unit.val] ∧
        t = { s with mon := t.mon, booth := t.booth }) ∧
      (∀ i : Fin 384, 64 ≤ i.val → i.val < 320 → s.store.units[i].status = .uncorrectable →
        (∀ j : Fin 384, 64 ≤ j.val → j < i → s.store.units[j].status ≠ .uncorrectable) →
        ∃ t : State, answered t .storeFault [byte1 (i.val / 64), byte1 (i.val % 64)]) ∧
      ((∀ i : Fin 384, 64 ≤ i.val → i.val < 320 → s.store.units[i].status ≠ .uncorrectable) →
        (∀ u, s.store.siteFault = some u → ∃ t : State, answered t .storeFault [2, byte1 u.val]) ∧
        (∀ u, s.store.siteFault = none → s.store.priceFault = some u →
          ∃ t : State, answered t .storeFault [3, byte1 u.val]) ∧
        (∀ u, s.store.siteFault = none → s.store.priceFault = none → s.store.layoutFault = some u →
          ∃ t : State, answered t .storeFault [1, byte1 u.val])))) ∧
  ∀ s : State, s.takes .booth 0x58 → s.night.state = .closed → s.store.op = none →
    s.store.nightFault = none → ∃ t : State,
      exec (.openNight .booth) s =
        .next (t.answer .booth 0x58 .ok ([byte1 s.store.fieldCount] ++ bytes2 s.store.stallTotal)) ∧
      let v (setting : Config.Setting) (unit : Fin 64) (off width : Nat) : Nat :=
        match s.store.content 2 unit with
        | some b => numberAt b off width
        | none => setting.default
      t.night = { state := .opened, clock := 0, takings := 0, writeOffs := 0, forced := 0, delivered := 0
                  secondTimer := some 1000 } ∧
      t.store = { s.store with locked := true } ∧
      t.gate.presenceTime = v Config.presenceTime 1 0 2 ∧ t.gate.barrierTime = v Config.barrierTime 1 2 1 ∧
      t.gate.voidTime = v Config.voidTime 1 3 2 ∧ t.gate.stuckTime = v Config.stuckTime 1 5 2 ∧
      t.shows.startTimeout = v Config.startTimeout 2 0 1 ∧ t.shows.graceTime = v Config.graceTime 2 1 2 ∧
      t.chans.faultTime = v Config.carrierFaultTime 3 0 2 ∧
      t.chans.announceTime = v Config.announceTime 3 2 1 ∧
      t.chans.quarantineTime = v Config.quarantineTime 3 3 2 ∧ t.posts.onTime = v Config.onTime 4 0 1 ∧
      t.posts.dropoutTime = v Config.dropoutTime 4 1 1 ∧ t.posts.maximumHold = v Config.maximumHold 4 2 2 ∧
      t.posts.offTime = v Config.offTime 4 4 1 ∧ t.posts.cycleTime = v Config.cycleTime 4 5 2 ∧
      t.posts.interKeyTime = v Config.interKeyTime 4 7 2 ∧ t.ords.orderLimit = v Config.orderLimit 5 0 1 ∧
      t.ords.tabLimit = v Config.tabLimit 5 1 3 ∧ t.ords.tripTime = v Config.tripTime 5 4 2 ∧
      t.mem.patrolPeriod = v Config.patrolPeriod 6 0 2 ∧
      t.doms.acknowledgeTime = v Config.acknowledgeTime 6 2 1 ∧ t.doms.wakeTime = v Config.wakeTime 6 3 1 ∧
      (∀ item : Fin 100, t.ords.prices[item] = s.store.price item) ∧
      (∀ c : Fin 12, t.chans.channels[c].permitted = s.store.permitted c) ∧
      (∀ n : Fin 6, t.lot.fields[n] = (s.store.fields[n.val]?).join ∧ t.lot.queues[n] = [] ∧
        t.gate.live[n] = 0 ∧ t.gate.admitted[n] = 0 ∧ t.ords.windows[n] = t.windowCondition n) ∧
      (∀ i : Fin 1024, t.lot.occupants[i] = none ∧ t.stallState i = .free ∧ t.mem.stalls[i].marked = false) ∧
      (∀ r : Fin 48, t.posts.rows[r].positions = t.lot.positions r) ∧
      (∀ r : Fin 12, t.ords.runners[r] =
        { state := if s.ords.runners[r].state = .out then .available else s.ords.runners[r].state
          carried := [], tripStart := none, late := false, tripTimer := none }) ∧
      (∀ n : Fin 6,
        (t.lot.fields[n] = none ∨ s.store.defaultShow n = none →
          t.shows.screens[n].state = s.shows.screens[n].state ∧ t.shows.screens[n].list = []) ∧
        ∀ l start, t.lot.fields[n] ≠ none → s.store.defaultShow n = some (l, start) →
          t.shows.screens[n].list = l ∧ t.shows.screens[n].state ≠ .dark ∧
            t.shows.screens[n].state ≠ .ended) ∧
      (∀ n : Fin 4, t.gate.lanes[n] =
        { s.gate.lanes[n] with
          role := s.store.role n, passes := 0, tailgates := 0, voids := 0
          state := if s.store.role n ≠ .unused ∧ s.gate.lanes[n].loopA.level = true then .present else .idle
          bound := none, cause := none, faultedFrom := none, raise := false, barrierTimer := none
          stuckTimer := none, voidTimer := none, returnTimer := none }) ∧
      t.mem.admissions = s.mem.admissions ∧ t.mem.orders = s.mem.orders ∧ t.sys = s.sys

/-- CLOSE_NIGHT makes an OPEN night CLOSING, with every window closed, and CLOSED at once when nothing is live and every
screen is DARK; it changes nothing in CLOSING and is refused in CLOSED. READ_TOTALS is answered with the totals and the
three terms of the closing condition, and changes nothing; the counter port refuses it. -/
def Obligations.CloseNightAndReadTotals : Prop :=
  ∀ s : State,
    (s.takes .booth 0x59 →
      (s.night.state = .closed →
        exec (.closeNight .booth) s = .next (s.answer .booth 0x59 .badState [])) ∧
      (s.night.state = .closing → exec (.closeNight .booth) s = .next (s.answer .booth 0x59 .ok [3])) ∧
      (s.night.state = .opened →
        let gone := s.mem.admFree.length = 1024 ∧ s.mem.orderFree.length = 256 ∧
          ∀ n : Fin 6, s.shows.screens[n].state = .dark
        ∃ t : State,
          exec (.closeNight .booth) s =
            .next (t.answer .booth 0x59 .ok [if gone then 1 else 3]) ∧
          (gone → t.night = { s.night with state := .closed, secondTimer := none } ∧
            t.store = { s.store with locked := false } ∧ t.booth.attention &&& kindSet 17 ≠ 0) ∧
          (¬ gone → t.night = { s.night with state := .closing } ∧ t.store = s.store ∧ t.booth = s.booth) ∧
          (∀ n : Fin 6, t.ords.windows[n] = false) ∧
          t = { s with night := t.night, store := t.store, booth := t.booth, disp := t.disp
                       ords := { s.ords with windows := t.ords.windows } })) ∧
    (s.takes .booth 0x5B →
      let n := s.night
      exec (.readTotals .booth) s = .next (s.answer .booth 0x5B .ok
        ([byte1 n.state.number] ++ bytes3 n.clock ++ bytes4 n.takings ++ bytes4 n.writeOffs ++
          bytes3 n.forced ++ bytes4 n.delivered ++ bytes2 (1024 - s.mem.admFree.length) ++
          bytes2 (256 - s.mem.orderFree.length) ++
          [byte1 (s.shows.screens.toList.countP fun c => c.state ≠ .dark)]))) ∧
    (s.sys.phase = .running → s.sys.resetWaiting = false →
      exec (.readTotals .counter) s = .next (s.answer .counter 0x5B .privilege []))

/-- FORCE_CLOSE in OPEN and CLOSING: every live order and admission retires, the readable unpaid amounts are written
off, the forced count rises by the admissions not bound to an ENTRY lane, the runners stand down, the lot empties, the
lanes are freed with their counts kept, every screen is DARK and every sound OFF, and the night is CLOSED. The amount
written off is the sum over the live orders that can be read and are charged and not PAID. The ascending order of the
retirements (log 15), on which nothing here depends, the states set at once without the examinations between (log 25),
the presence timers that run on (log 28), the IDLE state of a lane of role UNUSED (log 31), and the widths of the last two
fields of the answer (log 38), are the model's choices. -/
def Obligations.ForceClose : Prop :=
  ∀ s : State, s.takes .booth 0x5A →
    (s.night.state = .closed → exec (.forceClose .booth) s = .next (s.answer .booth 0x5A .badState [])) ∧
    (s.night.state ≠ .closed → ∃ t : State,
      let written := (s.liveOrders.map fun k =>
        if s.mem.orders[k].marked = false ∧ s.mem.orders[k].health ≠ .double ∧
            (s.order k).state ≠ .placed ∧ (s.order k).paid = false then (s.order k).amount else 0).sum
      let entered := (s.liveAdms.filter fun a => (s.boundLane a .entry).isNone).length
      exec (.forceClose .booth) s =
        .next (t.answer .booth 0x5A .ok
          (bytes2 (256 - s.mem.orderFree.length) ++ bytes2 (1024 - s.mem.admFree.length) ++
            bytes4 written ++ bytes2 entered)) ∧
      t.night = { s.night with
        state := .closed, secondTimer := none, forced := s.night.forced + entered
        writeOffs := min (s.night.writeOffs + written) 4294967295 } ∧
      t.store = { s.store with locked := false } ∧ t.booth.attention &&& kindSet 17 ≠ 0 ∧
      (∀ a : Fin 1024, t.admLive a = false ∧
        t.mem.admGen[a] = if s.admLive a then s.mem.admGen[a] + 1 else s.mem.admGen[a]) ∧
      (∀ k : Fin 256, t.orderLive k = false ∧
        t.mem.orderGen[k] = if s.orderLive k then s.mem.orderGen[k] + 1 else s.mem.orderGen[k]) ∧
      t.ords.kitchen = [] ∧
      (∀ r : Fin 12, t.ords.runners[r] =
        { state := if s.ords.runners[r].state = .out then .available else s.ords.runners[r].state
          carried := [], tripStart := none, late := false, tripTimer := none }) ∧
      t.lot.fields = s.lot.fields ∧ (∀ i ∈ s.lot.stallsInUse, t.lot.occupants[i] = none) ∧
      (∀ n : Fin 6, t.lot.queues[n] = [] ∧ t.gate.live[n] = 0 ∧ t.gate.admitted[n] = s.gate.admitted[n] ∧
        t.ords.windows[n] = false ∧ t.shows.screens[n].state = .dark ∧ t.chans.sounds[n].sound = .off ∧
        t.chans.sounds[n].wanting = false) ∧
      (∀ c : Fin 12, t.chans.channels[c] = match s.chans.channels[c].state with
        | .held _ _ => { s.chans.channels[c] with state := .free }
        | .free | .quarantined _ => s.chans.channels[c]) ∧
      (∀ n : Fin 4, t.gate.lanes[n] =
        { s.gate.lanes[n] with
          state := if s.gate.lanes[n].role ≠ .unused ∧ s.gate.lanes[n].loopA.level = true then .present
            else .idle
          bound := none, cause := none, faultedFrom := none, raise := false, barrierTimer := none
          stuckTimer := none, voidTimer := none, returnTimer := none }) ∧
      t.posts = s.posts ∧ t.doms = s.doms ∧ t.sys = s.sys ∧ t.pending = s.pending)

/-! ## Equipment domains (chapter 9) -/

/-- SET_REST_PLAN replaces the plan and nothing else. REST is answered with the first plan member, not RESTING, whose
rest condition fails; when none fails the status becomes the plan and each domain is acted on by its membership and
its state. WAKE clears a status member and ends a stop or a rest, and a screen that leaves DARK withdraws the rest of its
domain in the same way. READ_DOMAINS is answered with the records and changes nothing. The timers are given in units of
10 ms, a part of a unit counted whole (log 21), and for KITCHEN the orders are read as log 18 says: the model's choices.
REST is said of states whose live orders read clean. -/
def Obligations.DomainCommands : Prop :=
  ∀ s : State,
    let released (t : State) (d : Fin 8) : Prop :=
      let x := s.doms.domains[d]
      let y := t.doms.domains[d]
      y.stopReq = false ∧
        (x.state = .stopping →
          (x.ready.level = true → y.state = .active ∧ y.timer = none) ∧
          (x.ready.level = false → y.state = .waking ∧ y.timer = some (s.doms.wakeTime * 1000))) ∧
        (x.state = .resting →
          (x.ready.level = true → x.stopAck.level = false → y.state = .active ∧ y.timer = none ∧
            t.booth.attention &&& kindSet 11 ≠ 0) ∧
          (x.ready.level = false ∨ x.stopAck.level = true →
            y.state = .waking ∧ y.timer = some (s.doms.wakeTime * 1000)))
    (∀ plan : Byte, s.takes .booth 0x60 → ∃ t : State,
      exec (.setRestPlan .booth plan) s = .next (t.answer .booth 0x60 .ok [plan]) ∧
      (∀ d : Fin 8, t.doms.domains[d] = { s.doms.domains[d] with plan := plan.getLsbD d.val }) ∧
      t = { s with doms := { s.doms with domains := t.doms.domains } }) ∧
    (s.takes .booth 0x61 → (∀ k ∈ s.liveOrders, s.orderClean k) →
      let idle (d : Fin 8) : Prop :=
        (∀ n : Fin 6, d.val = n.val → s.shows.screens[n].state = .dark ∧ s.gate.live[n] = 0) ∧
        (d = 6 → s.ords.kitchen = [] ∧ (∀ r : Fin 12, s.ords.runners[r].carried = []) ∧
          ∀ k ∈ s.liveOrders, (s.order k).state = .delivered) ∧
        (d = 7 → ∀ n : Fin 4, s.gate.lanes[n].bound = none)
      let fails (d : Fin 8) : Prop :=
        s.doms.domains[d].plan = true ∧ s.doms.domains[d].state ≠ .resting ∧ ¬ idle d
      (∀ d, fails d → (∀ e, e < d → ¬ fails e) →
        exec (.rest .booth) s = .next (s.answer .booth 0x61 .planInvalid [byte1 (d.val + 1)])) ∧
      ((∀ d, ¬ fails d) → ∃ t : State,
        exec (.rest .booth) s =
          .next (t.answer .booth 0x61 .ok (t.doms.domains.toList.map fun d => byte1 d.state.number)) ∧
        (∀ d : Fin 8, let x := s.doms.domains[d]
          let y := t.doms.domains[d]
          y.plan = x.plan ∧ y.status = x.plan ∧ y.ready = x.ready ∧ y.stopAck = x.stopAck ∧
          (x.plan = true → x.state = .active ∨ x.state = .waking ∨ x.state = .faulted →
            y.state = .stopping ∧ y.stopReq = true ∧ y.timer = some (s.doms.acknowledgeTime * 1000)) ∧
          (x.plan = true → x.state = .stopping ∨ x.state = .resting → y = { x with status := true }) ∧
          (x.plan = false → x.state = .stopping ∨ x.state = .resting → released t d) ∧
          (x.plan = false → x.state = .active ∨ x.state = .waking ∨ x.state = .faulted →
            y = { x with status := false })) ∧
        ((∃ d : Fin 8, s.doms.domains[d].plan = true) →
          (∀ d : Fin 8, s.doms.domains[d].plan = true → s.doms.domains[d].state = .resting) →
          t.booth.attention &&& kindSet 11 ≠ 0) ∧
        (s.doms.domains[(6 : Fin 8)].plan = true → s.doms.domains[(6 : Fin 8)].state = .active →
          ∀ n : Fin 6, t.ords.windows[n] = false))) ∧
    (∀ domain : Byte, s.takes .booth 0x62 →
      (numbered 8 domain = none →
        exec (.wake .booth domain) s = .next (s.answer .booth 0x62 .badParam [])) ∧
      ∀ d : Fin 8, numbered 8 domain = some d →
        let x := s.doms.domains[d]
        (x.state = .active ∨ x.state = .waking ∨ x.state = .faulted →
          exec (.wake .booth domain) s =
            .next ((s.modDomain d fun y => { y with status := false }).answer .booth 0x62 .ok
              [byte1 x.state.number])) ∧
        (x.state = .stopping ∨ x.state = .resting → ∃ t : State,
          exec (.wake .booth domain) s =
            .next (t.answer .booth 0x62 .ok [byte1 t.doms.domains[d].state.number]) ∧
          released t d ∧ t.doms.domains[d].plan = x.plan ∧ t.doms.domains[d].status = false ∧
          t.doms.domains[d].ready = x.ready ∧ t.doms.domains[d].stopAck = x.stopAck ∧
          ∀ e : Fin 8, e ≠ d → t.doms.domains[e] = s.doms.domains[e])) ∧
    (∀ n : Fin 6,
      let d := screenDomain n
      let x := s.doms.domains[d]
      let t := s.leaveDark n
      t.shows.screens[n].state ≠ .dark ∧
      (x.state = .active ∨ x.state = .waking ∨ x.state = .faulted → t.doms = s.doms) ∧
      (x.state = .stopping ∨ x.state = .resting →
        released t d ∧ t.doms.domains[d].plan = x.plan ∧ t.doms.domains[d].status = false ∧
        t.doms.domains[d].ready = x.ready ∧ t.doms.domains[d].stopAck = x.stopAck ∧
        ∀ e : Fin 8, e ≠ d → t.doms.domains[e] = s.doms.domains[e])) ∧
    (s.takes .booth 0x63 →
      exec (.readDomains .booth) s = .next (s.answer .booth 0x63 .ok
        ([bitsByte (s.doms.domains.toList.map Domain.plan), bitsByte (s.doms.domains.toList.map Domain.status)] ++
          s.doms.domains.toList.flatMap fun x =>
            BitVec.ofNat 8 (32 * x.state.number + (if x.stopReq then 4 else 0) +
              (if x.ready.level then 2 else 0) + (if x.stopAck.level then 1 else 0)) ::
            bytes2 (match x.timer with
              | some t => (t + 9) / 10
              | none => 65535))))

/-- A new level on READY or STOP_ACK runs its 20 ms while the part runs, and is only kept otherwise. A qualified
change: STOP_ACK rising takes a STOPPING domain to RESTING, with DOMAIN_DONE when every status member then rests;
READY high with STOP_ACK low takes a WAKING or FAULTED domain to ACTIVE with DOMAIN_DONE; READY falling faults an
ACTIVE domain; and nothing else changes but the level. An expiry row acts whenever its timer runs (log 8). -/
def Obligations.DomainInputs : Prop :=
  ∀ (d : Fin 8) (s : State),
    (∀ (i : DomainInput) (high : Bool),
      exec (.domainInputChange d i high) s = .next (s.modDomain d (Domain.modInput i fun x =>
        if s.sys.phase = .running then
          if x.raw = high then x
          else { x with raw := high, timer := if high = x.level then none else some 20 }
        else { x with raw := high }))) ∧
    ∀ i : DomainInput, s.sys.phase = .running → (s.doms.domains[d].input i).timer ≠ none →
      let x := s.doms.domains[d]
      let raw := (x.input i).raw
      let q := s.modDomain d (Domain.modInput i fun y => { y with level := y.raw, timer := none })
      let ready := q.doms.domains[d].ready.level
      let ack := q.doms.domains[d].stopAck.level
      let result (t : State) : Prop := exec (.domainLevelChange d i) s = .next t
      (x.state = .stopping →
        (i = .stopAck → raw = true →
          let v := q.modDomain d fun y => { y with state := .resting, stopReq := true, timer := none }
          ((∃ e : Fin 8, v.doms.domains[e].status = true) →
            (∀ e : Fin 8, v.doms.domains[e].status = true → v.doms.domains[e].state = .resting) →
            result (v.raiseBooth .domainDone)) ∧
          (¬ ((∃ e : Fin 8, v.doms.domains[e].status = true) ∧
              ∀ e : Fin 8, v.doms.domains[e].status = true → v.doms.domains[e].state = .resting) →
            result v)) ∧
        (i = .ready ∨ raw = false → result q)) ∧
      (x.state = .resting → result q) ∧
      (x.state = .waking ∨ x.state = .faulted →
        (ready = true → ack = false → result ((q.domainActive d).raiseBooth .domainDone)) ∧
        (ready = false ∨ ack = true → result q)) ∧
      (x.state = .active →
        (i = .ready → raw = false → result (q.domainFaulted d)) ∧
        (i = .stopAck ∨ raw = true → result q))

/-- What a domain's change of state does. It enters ACTIVE or FAULTED with STOP_REQ low and no timer, FAULTED with
DOMAIN_TIMEOUT, and changes no other domain. With KITCHEN every window follows its condition again; with GATES nothing
else happens; a screen that loses its domain abandons a start, holds a show under way for SOUND, loses its channels,
and its rows' sequences end; one whose domain comes back sends every word of its rows. The acknowledge timer drops
STOP_REQ, clears the status member, raises DOMAIN_TIMEOUT and returns the domain by READY; the wake timer faults it.
An expiry row acts whenever its timer runs (log 8). -/
def Obligations.DomainChanges : Prop :=
  ∀ (d : Fin 8) (s : State),
    (∀ t : State, t = s.domainActive d →
      t.doms.domains[d] = { s.doms.domains[d] with state := .active, stopReq := false, timer := none } ∧
      (∀ e : Fin 8, e ≠ d → t.doms.domains[e] = s.doms.domains[e]) ∧
      (d = 6 → ∀ n : Fin 6, t.ords.windows[n] = t.windowCondition n) ∧
      (d = 7 → t = { s with doms := t.doms }) ∧
      ∀ n : Fin 6, d.val = n.val →
        (∀ r ∈ s.rowsOf n, t.disp.queued[r] = true) ∧
        (s.shows.screens[n].state ≠ .dark → s.chans.sounds[n].wanting = false →
          t.chans.sounds[n].wanting = true)) ∧
    (∀ t : State, t = s.domainFaulted d →
      t.doms.domains[d] = { s.doms.domains[d] with state := .faulted, stopReq := false, timer := none } ∧
      (∀ e : Fin 8, e ≠ d → t.doms.domains[e] = s.doms.domains[e]) ∧
      t.booth.attention &&& kindSet 12 ≠ 0 ∧
      (s.doms.domains[d].state ≠ .active ∨ d = 7 →
        t = { s with doms := t.doms, booth := t.booth }) ∧
      (s.doms.domains[d].state = .active → d = 6 → ∀ n : Fin 6, t.ords.windows[n] = false) ∧
      ∀ n : Fin 6, s.doms.domains[d].state = .active → d.val = n.val →
        (s.shows.screens[n].state = .starting → t.shows.screens[n].state = .preshow) ∧
        (s.shows.screens[n].state = .running ∨ s.shows.screens[n].state = .intermission ∨
            s.shows.screens[n].state = .held →
          t.shows.screens[n].state = .held ∧ t.shows.screens[n].reasons.sound = true) ∧
        (s.chans.sounds[n].wanting = true →
          t.chans.sounds[n].wanting = false ∧ t.chans.sounds[n].sound = .off) ∧
        ∀ r ∈ s.rowsOf n, t.posts.rows[r].sequence = .none ∧ t.posts.rows[r].tone = .none ∧
          t.posts.rows[r].qualifier = .quiet) ∧
    (s.sys.phase = .running → s.doms.domains[d].timer ≠ none →
      (s.doms.domains[d].state = .waking →
        exec (.wakeTimerExpiry d) s = .next (s.domainFaulted d)) ∧
      (s.doms.domains[d].state = .stopping → ∃ t : State, exec (.acknowledgeTimerExpiry d) s = .next t ∧
        t.doms.domains[d].status = false ∧ t.doms.domains[d].stopReq = false ∧
        t.doms.domains[d].plan = s.doms.domains[d].plan ∧ t.booth.attention &&& kindSet 12 ≠ 0 ∧
        (s.doms.domains[d].ready.level = true →
          t.doms.domains[d].state = .active ∧ t.doms.domains[d].timer = none) ∧
        (s.doms.domains[d].ready.level = false →
          t.doms.domains[d].state = .waking ∧ t.doms.domains[d].timer = some (s.doms.wakeTime * 1000)) ∧
        ∀ e : Fin 8, e ≠ d → t.doms.domains[e] = s.doms.domains[e]))

/-! ## The standing store (chapter 10) -/

/-- The store commands by their checks in order. STORE_READ gives the status and the bytes, and its read reports
SINGLE or DOUBLE to the monitor; STORE_PROGRAM and STORE_ERASE that pass start their 2 ms and 300 ms; STORE_STATUS is
answered with the operation record. No content changes. A read finds a unit by its wrong bits: none, the content; one, in
the bytes or in the check code, the corrected content; two, the bytes as stored. The bytes that stand for an absent last
result are the model's reading (log 12). -/
def Obligations.StoreCommands : Prop :=
  (∀ u : StoreUnit,
    let erased : Vector Byte 16 := Vector.replicate 16 255
    (u.wrong = 0 → u.health = .clean ∧ u.bytes = u.stored ∧
      u.status = if u.stored = erased then .erased else .programmed) ∧
    (∀ k : Nat, k < 137 → u.wrong = 1#137 <<< k → u.health = .single ∧
      (∀ i : Fin 16, u.bytes[i] = if k / 8 = i.val then u.stored[i] ^^^ 1#8 <<< (k % 8) else u.stored[i]) ∧
      u.status = if u.bytes = erased then .erased else .corrected) ∧
    (∀ j k : Nat, j < k → k < 137 → u.wrong.getLsbD j = true → u.wrong.getLsbD k = true →
      u.health = .double ∧ u.bytes = u.stored ∧ u.status = .uncorrectable)) ∧
  ∀ s : State,
    (∀ area unit : Byte,
      let read (a : Fin 6) (u : Fin 64) : State := match (s.store.unit a u).health with
        | .clean => s
        | .single => s.event (.store a u) .single
        | .double => (s.event (.store a u) .double).raiseBooth .storeFault
      (indexed 6 area = none ∨ indexed 64 unit = none →
        (s.takes .booth 0x68 →
          exec (.storeRead .booth area unit) s = .next (s.answer .booth 0x68 .badParam [])) ∧
        ∀ content, content.length = 16 → s.takes .booth 0x69 →
          exec (.storeProgram .booth area unit content) s = .next (s.answer .booth 0x69 .badParam [])) ∧
      ∀ (a : Fin 6) (u : Fin 64), indexed 6 area = some a → indexed 64 unit = some u →
        (s.takes .booth 0x68 →
          (s.store.op.map StoreOp.area = some a →
            exec (.storeRead .booth area unit) s = .next (s.answer .booth 0x68 .busy [])) ∧
          (s.store.op.map StoreOp.area ≠ some a →
            exec (.storeRead .booth area unit) s =
              .next ((read a u).answer .booth 0x68 .ok
                (byte1 (s.store.unit a u).status.number :: (s.store.unit a u).bytes.toList)))) ∧
        ∀ content : List Byte, content.length = 16 → s.takes .booth 0x69 →
          let answered (t : State) (status : Status) : Prop :=
            exec (.storeProgram .booth area unit content) s = .next (t.answer .booth 0x69 status [])
          let refused := firstFailing
            [(decide (a = 0 ∨ (s.store.locked = true ∧ a ≠ 5)), .locked), (decide (s.store.op ≠ none), .busy)]
          (∀ status, refused = some status → answered s status) ∧
          (refused = none → (s.store.unit a u).status ≠ .erased → answered (read a u) .programAgain) ∧
          (refused = none → (s.store.unit a u).status = .erased → ∀ v : Vector Byte 16, v.toList = content →
            answered { read a u with store := { s.store with op := some (.program a u v (some 2)) } }
              .accepted)) ∧
    (∀ area : Byte, s.takes .booth 0x6A →
      let answered (t : State) (status : Status) : Prop :=
        exec (.storeErase .booth area) s = .next (t.answer .booth 0x6A status [])
      (indexed 6 area = none → answered s .badParam) ∧
      ∀ a : Fin 6, indexed 6 area = some a →
        let refused := firstFailing
          [(decide (a = 0 ∨ (s.store.locked = true ∧ a ≠ 5)), .locked), (decide (s.store.op ≠ none), .busy)]
        (∀ status, refused = some status → answered s status) ∧
        (refused = none →
          answered { s with store := { s.store with op := some (.erase a (some 300)) } } .accepted)) ∧
    (s.takes .booth 0x6B →
      exec (.storeStatus .booth) s = .next (s.answer .booth 0x6B .ok
        ((match s.store.op with
          | none => ([1, 255, 255, 0, 0] : List Byte)
          | some (.program a u _ t) => [2, byte1 a.val, byte1 u.val] ++ bytes2 (t.getD 0)
          | some (.erase a t) => [3, byte1 a.val, 255] ++ bytes2 (t.getD 0)) ++
        (match s.store.last with
          | none => ([0, 255, 255, 0] : List Byte)
          | some (.program a u st) => [1, byte1 a.val, byte1 u.val, byte1 st.number]
          | some (.erase a count first) =>
            [2, byte1 a.val, byte1 count, (first.map fun u => byte1 u.val).getD 255]) ++
        [if s.store.locked then 1 else 0])))

/-- A program or an erase completes: the unit, or every unit of the area, holds what was written with its check code, but
for the bits that the write leaves wrong; the status found, or the count of units not ERASED with the first of them, is
the last result; nothing is in flight; and STORE_DONE is raised. A write that leaves no bit wrong makes the unit
PROGRAMMED, or ERASED where it writes the erased pattern. A PART_RESET that was waiting is then made, on the content so
written. That each completion acts whenever it is given, whatever is left of its time (log 8), which bits a write leaves
wrong (log 6), and the check code, a free value (log 32), are the model's choices, and nothing here depends on the value
of any of them. -/
def Obligations.StoreCompletions : Prop :=
  let written (y : StoreUnit) (content : Vector Byte 16) : StoreUnit :=
    let w : BitVec 137 := y.flaws.headD 0
    { stored := Vector.ofFn fun i => content[i] ^^^ w.extractLsb' (8 * i.val) 8
      check := Config.storeCheck content ^^^ w.extractLsb' 128 9, wrong := w, flaws := y.flaws.tail };
  (Config.storeCheck (Vector.replicate 16 255) = 511) ∧
  (∀ (s : State) (area : Fin 6) (unit : Fin 64) (content : Vector Byte 16) (timer : Timer),
    s.store.op = some (.program area unit content timer) →
    let x : StoreUnit := written (s.store.unit area unit) content
    let units := upd s.store.units (unitIndex area unit) fun _ => x
    (s.sys.resetWaiting = false → ∃ t : State, exec .storeProgramComplete s = .next t ∧
      t.store = { s.store with units := units, op := none, last := some (.program area unit x.status) } ∧
      ((s.store.unit area unit).flaws.headD 0 = 0 → x.bytes = content ∧
        x.status = if content = Vector.replicate 16 255 then .erased else .programmed) ∧
      t.booth.attention &&& kindSet 13 ≠ 0 ∧
      (x.health = .double → t.booth.attention &&& kindSet 14 ≠ 0) ∧
      (x.health = .clean → t.mon = s.mon) ∧ t = { s with store := t.store, booth := t.booth, mon := t.mon }) ∧
    (s.sys.resetWaiting = true → ∃ t : State, exec .storeProgramComplete s = .next t ∧
      t.store = { units := units, op := none, last := none, locked := false } ∧
      t.sys.phase = .checking ∧ t.sys.resetWaiting = false ∧ t.night = Night.reset)) ∧
  (∀ (s : State) (area : Fin 6) (timer : Timer), s.store.op = some (.erase area timer) →
    let erased (y : StoreUnit) : StoreUnit := written y (Vector.replicate 16 255)
    (s.sys.resetWaiting = false → ∃ t : State, exec .storeEraseComplete s = .next t ∧
      (∀ i : Fin 384, t.store.units[i] =
        if i.val / 64 = area.val then erased s.store.units[i] else s.store.units[i]) ∧
      (∀ bad : List (Fin 64),
        bad = ((List.finRange 64).filter fun u => (t.store.unit area u).status ≠ .erased) →
        t.store.last = some (.erase area bad.length bad.head?)) ∧
      t.store.op = none ∧ t.store.locked = s.store.locked ∧ t.booth.attention &&& kindSet 13 ≠ 0 ∧
      t = { s with store := t.store, booth := t.booth, mon := t.mon }) ∧
    (s.sys.resetWaiting = true → ∃ t : State, exec .storeEraseComplete s = .next t ∧
      (∀ i : Fin 384, t.store.units[i] =
        if i.val / 64 = area.val then erased s.store.units[i] else s.store.units[i]) ∧
      t.store.op = none ∧ t.store.last = none ∧ t.sys.phase = .checking ∧ t.sys.resetWaiting = false ∧
      t.night = Night.reset)) ∧
  ∀ s : State,
    ((∀ area unit content timer, s.store.op ≠ some (.program area unit content timer)) →
      exec .storeProgramComplete s = .next s) ∧
    ((∀ area timer, s.store.op ≠ some (.erase area timer)) → exec .storeEraseComplete s = .next s)

/-! ## Invariants -/

/-- Every step keeps both attention lines as their sets and masks say, and holds only kinds that the port has. -/
def Obligations.StepKeepsAttentionLines : Prop :=
  ∀ s t : State, s.attentionGood → step s = .next t → t.attentionGood

/-- Every step keeps the projector lines, STOP_REQ and CHSEL at the levels that the show, domain and sound states
give. Every step keeps RAISE high exactly on the lanes through which a vehicle may pass. -/
def Obligations.StepKeepsOutputLines : Prop :=
  (∀ s t : State, s.projectorLinesGood → s.stopLinesGood → s.carrierCodesGood → step s = .next t →
    t.projectorLinesGood ∧ t.stopLinesGood ∧ t.carrierCodesGood) ∧
  (∀ s t : State, s.barriersGood → step s = .next t → t.barriersGood)

/-- Every step keeps every order window as its condition says, and the night CLOSED while the part does not run. -/
def Obligations.StepKeepsWindows : Prop :=
  ∀ s t : State, s.windowsGood → step s = .next t → t.windowsGood

/-- Every step keeps the counters and totals within the limits at which they hold. Every step keeps the counts of
damage marks equal to the numbers of marked slots. That an admitted count at 65,535 stays there (log 27) is the model's
choice. -/
def Obligations.StepKeepsLimits : Prop :=
  (∀ s t : State, s.limitsGood → step s = .next t → t.limitsGood) ∧
  (∀ s t : State, s.marksGood → step s = .next t → t.marksGood)

/-- The state after reset meets every invariant that a step keeps. State.reset is held in reset (log 2). -/
def Obligations.InvariantsAtReset : Prop :=
  State.reset.attentionGood ∧ State.reset.barriersGood ∧ State.reset.projectorLinesGood ∧
    State.reset.stopLinesGood ∧ State.reset.carrierCodesGood ∧ State.reset.windowsGood ∧
    State.reset.limitsGood ∧ State.reset.marksGood
end

