-- ==== Sys2Proof/Laws/State.lean ====
section
/-!
SUPPORT. One lemma for each field of the state under each named change of a component, so that no proof unfolds a
record update.
-/

namespace Sys2Proof.Machine

open Sys2Proof

/-! ## `State.modSys` -/

section

variable (f : System → System) (s : State)

@[simp] theorem modSys_pending : (s.modSys f).pending = s.pending := rfl
@[simp] theorem modSys_sys : (s.modSys f).sys = f s.sys := rfl
@[simp] theorem modSys_booth : (s.modSys f).booth = s.booth := rfl
@[simp] theorem modSys_counter : (s.modSys f).counter = s.counter := rfl
@[simp] theorem modSys_mem : (s.modSys f).mem = s.mem := rfl
@[simp] theorem modSys_mon : (s.modSys f).mon = s.mon := rfl
@[simp] theorem modSys_lot : (s.modSys f).lot = s.lot := rfl
@[simp] theorem modSys_gate : (s.modSys f).gate = s.gate := rfl
@[simp] theorem modSys_shows : (s.modSys f).shows = s.shows := rfl
@[simp] theorem modSys_chans : (s.modSys f).chans = s.chans := rfl
@[simp] theorem modSys_disp : (s.modSys f).disp = s.disp := rfl
@[simp] theorem modSys_posts : (s.modSys f).posts = s.posts := rfl
@[simp] theorem modSys_ords : (s.modSys f).ords = s.ords := rfl
@[simp] theorem modSys_night : (s.modSys f).night = s.night := rfl
@[simp] theorem modSys_doms : (s.modSys f).doms = s.doms := rfl
@[simp] theorem modSys_store : (s.modSys f).store = s.store := rfl

end

/-! ## `State.modMem` -/

section

variable (f : RecordMemory → RecordMemory) (s : State)

@[simp] theorem modMem_pending : (s.modMem f).pending = s.pending := rfl
@[simp] theorem modMem_sys : (s.modMem f).sys = s.sys := rfl
@[simp] theorem modMem_booth : (s.modMem f).booth = s.booth := rfl
@[simp] theorem modMem_counter : (s.modMem f).counter = s.counter := rfl
@[simp] theorem modMem_mem : (s.modMem f).mem = f s.mem := rfl
@[simp] theorem modMem_mon : (s.modMem f).mon = s.mon := rfl
@[simp] theorem modMem_lot : (s.modMem f).lot = s.lot := rfl
@[simp] theorem modMem_gate : (s.modMem f).gate = s.gate := rfl
@[simp] theorem modMem_shows : (s.modMem f).shows = s.shows := rfl
@[simp] theorem modMem_chans : (s.modMem f).chans = s.chans := rfl
@[simp] theorem modMem_disp : (s.modMem f).disp = s.disp := rfl
@[simp] theorem modMem_posts : (s.modMem f).posts = s.posts := rfl
@[simp] theorem modMem_ords : (s.modMem f).ords = s.ords := rfl
@[simp] theorem modMem_night : (s.modMem f).night = s.night := rfl
@[simp] theorem modMem_doms : (s.modMem f).doms = s.doms := rfl
@[simp] theorem modMem_store : (s.modMem f).store = s.store := rfl

end

/-! ## `State.modMon` -/

section

variable (f : Monitor → Monitor) (s : State)

@[simp] theorem modMon_pending : (s.modMon f).pending = s.pending := rfl
@[simp] theorem modMon_sys : (s.modMon f).sys = s.sys := rfl
@[simp] theorem modMon_booth : (s.modMon f).booth = s.booth := rfl
@[simp] theorem modMon_counter : (s.modMon f).counter = s.counter := rfl
@[simp] theorem modMon_mem : (s.modMon f).mem = s.mem := rfl
@[simp] theorem modMon_mon : (s.modMon f).mon = f s.mon := rfl
@[simp] theorem modMon_lot : (s.modMon f).lot = s.lot := rfl
@[simp] theorem modMon_gate : (s.modMon f).gate = s.gate := rfl
@[simp] theorem modMon_shows : (s.modMon f).shows = s.shows := rfl
@[simp] theorem modMon_chans : (s.modMon f).chans = s.chans := rfl
@[simp] theorem modMon_disp : (s.modMon f).disp = s.disp := rfl
@[simp] theorem modMon_posts : (s.modMon f).posts = s.posts := rfl
@[simp] theorem modMon_ords : (s.modMon f).ords = s.ords := rfl
@[simp] theorem modMon_night : (s.modMon f).night = s.night := rfl
@[simp] theorem modMon_doms : (s.modMon f).doms = s.doms := rfl
@[simp] theorem modMon_store : (s.modMon f).store = s.store := rfl

end

/-! ## `State.modLot` -/

section

variable (f : LotMap → LotMap) (s : State)

@[simp] theorem modLot_pending : (s.modLot f).pending = s.pending := rfl
@[simp] theorem modLot_sys : (s.modLot f).sys = s.sys := rfl
@[simp] theorem modLot_booth : (s.modLot f).booth = s.booth := rfl
@[simp] theorem modLot_counter : (s.modLot f).counter = s.counter := rfl
@[simp] theorem modLot_mem : (s.modLot f).mem = s.mem := rfl
@[simp] theorem modLot_mon : (s.modLot f).mon = s.mon := rfl
@[simp] theorem modLot_lot : (s.modLot f).lot = f s.lot := rfl
@[simp] theorem modLot_gate : (s.modLot f).gate = s.gate := rfl
@[simp] theorem modLot_shows : (s.modLot f).shows = s.shows := rfl
@[simp] theorem modLot_chans : (s.modLot f).chans = s.chans := rfl
@[simp] theorem modLot_disp : (s.modLot f).disp = s.disp := rfl
@[simp] theorem modLot_posts : (s.modLot f).posts = s.posts := rfl
@[simp] theorem modLot_ords : (s.modLot f).ords = s.ords := rfl
@[simp] theorem modLot_night : (s.modLot f).night = s.night := rfl
@[simp] theorem modLot_doms : (s.modLot f).doms = s.doms := rfl
@[simp] theorem modLot_store : (s.modLot f).store = s.store := rfl

end

/-! ## `State.modGate` -/

section

variable (f : Gate → Gate) (s : State)

@[simp] theorem modGate_pending : (s.modGate f).pending = s.pending := rfl
@[simp] theorem modGate_sys : (s.modGate f).sys = s.sys := rfl
@[simp] theorem modGate_booth : (s.modGate f).booth = s.booth := rfl
@[simp] theorem modGate_counter : (s.modGate f).counter = s.counter := rfl
@[simp] theorem modGate_mem : (s.modGate f).mem = s.mem := rfl
@[simp] theorem modGate_mon : (s.modGate f).mon = s.mon := rfl
@[simp] theorem modGate_lot : (s.modGate f).lot = s.lot := rfl
@[simp] theorem modGate_gate : (s.modGate f).gate = f s.gate := rfl
@[simp] theorem modGate_shows : (s.modGate f).shows = s.shows := rfl
@[simp] theorem modGate_chans : (s.modGate f).chans = s.chans := rfl
@[simp] theorem modGate_disp : (s.modGate f).disp = s.disp := rfl
@[simp] theorem modGate_posts : (s.modGate f).posts = s.posts := rfl
@[simp] theorem modGate_ords : (s.modGate f).ords = s.ords := rfl
@[simp] theorem modGate_night : (s.modGate f).night = s.night := rfl
@[simp] theorem modGate_doms : (s.modGate f).doms = s.doms := rfl
@[simp] theorem modGate_store : (s.modGate f).store = s.store := rfl

end

/-! ## `State.modShows` -/

section

variable (f : ShowControl → ShowControl) (s : State)

@[simp] theorem modShows_pending : (s.modShows f).pending = s.pending := rfl
@[simp] theorem modShows_sys : (s.modShows f).sys = s.sys := rfl
@[simp] theorem modShows_booth : (s.modShows f).booth = s.booth := rfl
@[simp] theorem modShows_counter : (s.modShows f).counter = s.counter := rfl
@[simp] theorem modShows_mem : (s.modShows f).mem = s.mem := rfl
@[simp] theorem modShows_mon : (s.modShows f).mon = s.mon := rfl
@[simp] theorem modShows_lot : (s.modShows f).lot = s.lot := rfl
@[simp] theorem modShows_gate : (s.modShows f).gate = s.gate := rfl
@[simp] theorem modShows_shows : (s.modShows f).shows = f s.shows := rfl
@[simp] theorem modShows_chans : (s.modShows f).chans = s.chans := rfl
@[simp] theorem modShows_disp : (s.modShows f).disp = s.disp := rfl
@[simp] theorem modShows_posts : (s.modShows f).posts = s.posts := rfl
@[simp] theorem modShows_ords : (s.modShows f).ords = s.ords := rfl
@[simp] theorem modShows_night : (s.modShows f).night = s.night := rfl
@[simp] theorem modShows_doms : (s.modShows f).doms = s.doms := rfl
@[simp] theorem modShows_store : (s.modShows f).store = s.store := rfl

end

/-! ## `State.modChans` -/

section

variable (f : ChannelManager → ChannelManager) (s : State)

@[simp] theorem modChans_pending : (s.modChans f).pending = s.pending := rfl
@[simp] theorem modChans_sys : (s.modChans f).sys = s.sys := rfl
@[simp] theorem modChans_booth : (s.modChans f).booth = s.booth := rfl
@[simp] theorem modChans_counter : (s.modChans f).counter = s.counter := rfl
@[simp] theorem modChans_mem : (s.modChans f).mem = s.mem := rfl
@[simp] theorem modChans_mon : (s.modChans f).mon = s.mon := rfl
@[simp] theorem modChans_lot : (s.modChans f).lot = s.lot := rfl
@[simp] theorem modChans_gate : (s.modChans f).gate = s.gate := rfl
@[simp] theorem modChans_shows : (s.modChans f).shows = s.shows := rfl
@[simp] theorem modChans_chans : (s.modChans f).chans = f s.chans := rfl
@[simp] theorem modChans_disp : (s.modChans f).disp = s.disp := rfl
@[simp] theorem modChans_posts : (s.modChans f).posts = s.posts := rfl
@[simp] theorem modChans_ords : (s.modChans f).ords = s.ords := rfl
@[simp] theorem modChans_night : (s.modChans f).night = s.night := rfl
@[simp] theorem modChans_doms : (s.modChans f).doms = s.doms := rfl
@[simp] theorem modChans_store : (s.modChans f).store = s.store := rfl

end

/-! ## `State.modDisp` -/

section

variable (f : Display → Display) (s : State)

@[simp] theorem modDisp_pending : (s.modDisp f).pending = s.pending := rfl
@[simp] theorem modDisp_sys : (s.modDisp f).sys = s.sys := rfl
@[simp] theorem modDisp_booth : (s.modDisp f).booth = s.booth := rfl
@[simp] theorem modDisp_counter : (s.modDisp f).counter = s.counter := rfl
@[simp] theorem modDisp_mem : (s.modDisp f).mem = s.mem := rfl
@[simp] theorem modDisp_mon : (s.modDisp f).mon = s.mon := rfl
@[simp] theorem modDisp_lot : (s.modDisp f).lot = s.lot := rfl
@[simp] theorem modDisp_gate : (s.modDisp f).gate = s.gate := rfl
@[simp] theorem modDisp_shows : (s.modDisp f).shows = s.shows := rfl
@[simp] theorem modDisp_chans : (s.modDisp f).chans = s.chans := rfl
@[simp] theorem modDisp_disp : (s.modDisp f).disp = f s.disp := rfl
@[simp] theorem modDisp_posts : (s.modDisp f).posts = s.posts := rfl
@[simp] theorem modDisp_ords : (s.modDisp f).ords = s.ords := rfl
@[simp] theorem modDisp_night : (s.modDisp f).night = s.night := rfl
@[simp] theorem modDisp_doms : (s.modDisp f).doms = s.doms := rfl
@[simp] theorem modDisp_store : (s.modDisp f).store = s.store := rfl

end

/-! ## `State.modPosts` -/

section

variable (f : Posts → Posts) (s : State)

@[simp] theorem modPosts_pending : (s.modPosts f).pending = s.pending := rfl
@[simp] theorem modPosts_sys : (s.modPosts f).sys = s.sys := rfl
@[simp] theorem modPosts_booth : (s.modPosts f).booth = s.booth := rfl
@[simp] theorem modPosts_counter : (s.modPosts f).counter = s.counter := rfl
@[simp] theorem modPosts_mem : (s.modPosts f).mem = s.mem := rfl
@[simp] theorem modPosts_mon : (s.modPosts f).mon = s.mon := rfl
@[simp] theorem modPosts_lot : (s.modPosts f).lot = s.lot := rfl
@[simp] theorem modPosts_gate : (s.modPosts f).gate = s.gate := rfl
@[simp] theorem modPosts_shows : (s.modPosts f).shows = s.shows := rfl
@[simp] theorem modPosts_chans : (s.modPosts f).chans = s.chans := rfl
@[simp] theorem modPosts_disp : (s.modPosts f).disp = s.disp := rfl
@[simp] theorem modPosts_posts : (s.modPosts f).posts = f s.posts := rfl
@[simp] theorem modPosts_ords : (s.modPosts f).ords = s.ords := rfl
@[simp] theorem modPosts_night : (s.modPosts f).night = s.night := rfl
@[simp] theorem modPosts_doms : (s.modPosts f).doms = s.doms := rfl
@[simp] theorem modPosts_store : (s.modPosts f).store = s.store := rfl

end

/-! ## `State.modOrds` -/

section

variable (f : OrderTable → OrderTable) (s : State)

@[simp] theorem modOrds_pending : (s.modOrds f).pending = s.pending := rfl
@[simp] theorem modOrds_sys : (s.modOrds f).sys = s.sys := rfl
@[simp] theorem modOrds_booth : (s.modOrds f).booth = s.booth := rfl
@[simp] theorem modOrds_counter : (s.modOrds f).counter = s.counter := rfl
@[simp] theorem modOrds_mem : (s.modOrds f).mem = s.mem := rfl
@[simp] theorem modOrds_mon : (s.modOrds f).mon = s.mon := rfl
@[simp] theorem modOrds_lot : (s.modOrds f).lot = s.lot := rfl
@[simp] theorem modOrds_gate : (s.modOrds f).gate = s.gate := rfl
@[simp] theorem modOrds_shows : (s.modOrds f).shows = s.shows := rfl
@[simp] theorem modOrds_chans : (s.modOrds f).chans = s.chans := rfl
@[simp] theorem modOrds_disp : (s.modOrds f).disp = s.disp := rfl
@[simp] theorem modOrds_posts : (s.modOrds f).posts = s.posts := rfl
@[simp] theorem modOrds_ords : (s.modOrds f).ords = f s.ords := rfl
@[simp] theorem modOrds_night : (s.modOrds f).night = s.night := rfl
@[simp] theorem modOrds_doms : (s.modOrds f).doms = s.doms := rfl
@[simp] theorem modOrds_store : (s.modOrds f).store = s.store := rfl

end

/-! ## `State.modNight` -/

section

variable (f : Night → Night) (s : State)

@[simp] theorem modNight_pending : (s.modNight f).pending = s.pending := rfl
@[simp] theorem modNight_sys : (s.modNight f).sys = s.sys := rfl
@[simp] theorem modNight_booth : (s.modNight f).booth = s.booth := rfl
@[simp] theorem modNight_counter : (s.modNight f).counter = s.counter := rfl
@[simp] theorem modNight_mem : (s.modNight f).mem = s.mem := rfl
@[simp] theorem modNight_mon : (s.modNight f).mon = s.mon := rfl
@[simp] theorem modNight_lot : (s.modNight f).lot = s.lot := rfl
@[simp] theorem modNight_gate : (s.modNight f).gate = s.gate := rfl
@[simp] theorem modNight_shows : (s.modNight f).shows = s.shows := rfl
@[simp] theorem modNight_chans : (s.modNight f).chans = s.chans := rfl
@[simp] theorem modNight_disp : (s.modNight f).disp = s.disp := rfl
@[simp] theorem modNight_posts : (s.modNight f).posts = s.posts := rfl
@[simp] theorem modNight_ords : (s.modNight f).ords = s.ords := rfl
@[simp] theorem modNight_night : (s.modNight f).night = f s.night := rfl
@[simp] theorem modNight_doms : (s.modNight f).doms = s.doms := rfl
@[simp] theorem modNight_store : (s.modNight f).store = s.store := rfl

end

/-! ## `State.modDoms` -/

section

variable (f : DomainControl → DomainControl) (s : State)

@[simp] theorem modDoms_pending : (s.modDoms f).pending = s.pending := rfl
@[simp] theorem modDoms_sys : (s.modDoms f).sys = s.sys := rfl
@[simp] theorem modDoms_booth : (s.modDoms f).booth = s.booth := rfl
@[simp] theorem modDoms_counter : (s.modDoms f).counter = s.counter := rfl
@[simp] theorem modDoms_mem : (s.modDoms f).mem = s.mem := rfl
@[simp] theorem modDoms_mon : (s.modDoms f).mon = s.mon := rfl
@[simp] theorem modDoms_lot : (s.modDoms f).lot = s.lot := rfl
@[simp] theorem modDoms_gate : (s.modDoms f).gate = s.gate := rfl
@[simp] theorem modDoms_shows : (s.modDoms f).shows = s.shows := rfl
@[simp] theorem modDoms_chans : (s.modDoms f).chans = s.chans := rfl
@[simp] theorem modDoms_disp : (s.modDoms f).disp = s.disp := rfl
@[simp] theorem modDoms_posts : (s.modDoms f).posts = s.posts := rfl
@[simp] theorem modDoms_ords : (s.modDoms f).ords = s.ords := rfl
@[simp] theorem modDoms_night : (s.modDoms f).night = s.night := rfl
@[simp] theorem modDoms_doms : (s.modDoms f).doms = f s.doms := rfl
@[simp] theorem modDoms_store : (s.modDoms f).store = s.store := rfl

end

/-! ## `State.modStore` -/

section

variable (f : Store → Store) (s : State)

@[simp] theorem modStore_pending : (s.modStore f).pending = s.pending := rfl
@[simp] theorem modStore_sys : (s.modStore f).sys = s.sys := rfl
@[simp] theorem modStore_booth : (s.modStore f).booth = s.booth := rfl
@[simp] theorem modStore_counter : (s.modStore f).counter = s.counter := rfl
@[simp] theorem modStore_mem : (s.modStore f).mem = s.mem := rfl
@[simp] theorem modStore_mon : (s.modStore f).mon = s.mon := rfl
@[simp] theorem modStore_lot : (s.modStore f).lot = s.lot := rfl
@[simp] theorem modStore_gate : (s.modStore f).gate = s.gate := rfl
@[simp] theorem modStore_shows : (s.modStore f).shows = s.shows := rfl
@[simp] theorem modStore_chans : (s.modStore f).chans = s.chans := rfl
@[simp] theorem modStore_disp : (s.modStore f).disp = s.disp := rfl
@[simp] theorem modStore_posts : (s.modStore f).posts = s.posts := rfl
@[simp] theorem modStore_ords : (s.modStore f).ords = s.ords := rfl
@[simp] theorem modStore_night : (s.modStore f).night = s.night := rfl
@[simp] theorem modStore_doms : (s.modStore f).doms = s.doms := rfl
@[simp] theorem modStore_store : (s.modStore f).store = f s.store := rfl

end

/-! ## `State.modPort` -/

section

variable (p : PortId) (f : Port → Port) (s : State)

@[simp] theorem modPort_pending : (s.modPort p f).pending = s.pending := by cases p <;> rfl
@[simp] theorem modPort_sys : (s.modPort p f).sys = s.sys := by cases p <;> rfl
@[simp] theorem modPort_booth_same : (s.modPort .booth f).booth = f s.booth := rfl
@[simp] theorem modPort_counter_booth : (s.modPort .counter f).booth = s.booth := rfl
@[simp] theorem modPort_counter_same : (s.modPort .counter f).counter = f s.counter := rfl
@[simp] theorem modPort_booth_counter : (s.modPort .booth f).counter = s.counter := rfl
@[simp] theorem modPort_mem : (s.modPort p f).mem = s.mem := by cases p <;> rfl
@[simp] theorem modPort_mon : (s.modPort p f).mon = s.mon := by cases p <;> rfl
@[simp] theorem modPort_lot : (s.modPort p f).lot = s.lot := by cases p <;> rfl
@[simp] theorem modPort_gate : (s.modPort p f).gate = s.gate := by cases p <;> rfl
@[simp] theorem modPort_shows : (s.modPort p f).shows = s.shows := by cases p <;> rfl
@[simp] theorem modPort_chans : (s.modPort p f).chans = s.chans := by cases p <;> rfl
@[simp] theorem modPort_disp : (s.modPort p f).disp = s.disp := by cases p <;> rfl
@[simp] theorem modPort_posts : (s.modPort p f).posts = s.posts := by cases p <;> rfl
@[simp] theorem modPort_ords : (s.modPort p f).ords = s.ords := by cases p <;> rfl
@[simp] theorem modPort_night : (s.modPort p f).night = s.night := by cases p <;> rfl
@[simp] theorem modPort_doms : (s.modPort p f).doms = s.doms := by cases p <;> rfl
@[simp] theorem modPort_store : (s.modPort p f).store = s.store := by cases p <;> rfl
@[simp] theorem modPort_port : (s.modPort p f).port p = f (s.port p) := by cases p <;> rfl

theorem modPort_port_other (q : PortId) (h : q ≠ p) : (s.modPort p f).port q = s.port q := by
  cases p <;> cases q <;> first | rfl | exact absurd rfl h

end

/-! ## `State.modLane` -/

section

variable (i : Fin 4) (f : Lane → Lane) (s : State)

@[simp] theorem modLane_pending : (s.modLane i f).pending = s.pending := rfl
@[simp] theorem modLane_sys : (s.modLane i f).sys = s.sys := rfl
@[simp] theorem modLane_booth : (s.modLane i f).booth = s.booth := rfl
@[simp] theorem modLane_counter : (s.modLane i f).counter = s.counter := rfl
@[simp] theorem modLane_mem : (s.modLane i f).mem = s.mem := rfl
@[simp] theorem modLane_mon : (s.modLane i f).mon = s.mon := rfl
@[simp] theorem modLane_lot : (s.modLane i f).lot = s.lot := rfl
@[simp] theorem modLane_gate : (s.modLane i f).gate = { s.gate with lanes := upd s.gate.lanes i f } := rfl
@[simp] theorem modLane_shows : (s.modLane i f).shows = s.shows := rfl
@[simp] theorem modLane_chans : (s.modLane i f).chans = s.chans := rfl
@[simp] theorem modLane_disp : (s.modLane i f).disp = s.disp := rfl
@[simp] theorem modLane_posts : (s.modLane i f).posts = s.posts := rfl
@[simp] theorem modLane_ords : (s.modLane i f).ords = s.ords := rfl
@[simp] theorem modLane_night : (s.modLane i f).night = s.night := rfl
@[simp] theorem modLane_doms : (s.modLane i f).doms = s.doms := rfl
@[simp] theorem modLane_store : (s.modLane i f).store = s.store := rfl

end

/-! ## `State.modScreen` -/

section

variable (i : Fin 6) (f : Screen → Screen) (s : State)

@[simp] theorem modScreen_pending : (s.modScreen i f).pending = s.pending := rfl
@[simp] theorem modScreen_sys : (s.modScreen i f).sys = s.sys := rfl
@[simp] theorem modScreen_booth : (s.modScreen i f).booth = s.booth := rfl
@[simp] theorem modScreen_counter : (s.modScreen i f).counter = s.counter := rfl
@[simp] theorem modScreen_mem : (s.modScreen i f).mem = s.mem := rfl
@[simp] theorem modScreen_mon : (s.modScreen i f).mon = s.mon := rfl
@[simp] theorem modScreen_lot : (s.modScreen i f).lot = s.lot := rfl
@[simp] theorem modScreen_gate : (s.modScreen i f).gate = s.gate := rfl
@[simp] theorem modScreen_shows : (s.modScreen i f).shows = { s.shows with screens := upd s.shows.screens i f } := rfl
@[simp] theorem modScreen_chans : (s.modScreen i f).chans = s.chans := rfl
@[simp] theorem modScreen_disp : (s.modScreen i f).disp = s.disp := rfl
@[simp] theorem modScreen_posts : (s.modScreen i f).posts = s.posts := rfl
@[simp] theorem modScreen_ords : (s.modScreen i f).ords = s.ords := rfl
@[simp] theorem modScreen_night : (s.modScreen i f).night = s.night := rfl
@[simp] theorem modScreen_doms : (s.modScreen i f).doms = s.doms := rfl
@[simp] theorem modScreen_store : (s.modScreen i f).store = s.store := rfl

end

/-! ## `State.modSound` -/

section

variable (i : Fin 6) (f : SoundRecord → SoundRecord) (s : State)

@[simp] theorem modSound_pending : (s.modSound i f).pending = s.pending := rfl
@[simp] theorem modSound_sys : (s.modSound i f).sys = s.sys := rfl
@[simp] theorem modSound_booth : (s.modSound i f).booth = s.booth := rfl
@[simp] theorem modSound_counter : (s.modSound i f).counter = s.counter := rfl
@[simp] theorem modSound_mem : (s.modSound i f).mem = s.mem := rfl
@[simp] theorem modSound_mon : (s.modSound i f).mon = s.mon := rfl
@[simp] theorem modSound_lot : (s.modSound i f).lot = s.lot := rfl
@[simp] theorem modSound_gate : (s.modSound i f).gate = s.gate := rfl
@[simp] theorem modSound_shows : (s.modSound i f).shows = s.shows := rfl
@[simp] theorem modSound_chans : (s.modSound i f).chans = { s.chans with sounds := upd s.chans.sounds i f } := rfl
@[simp] theorem modSound_disp : (s.modSound i f).disp = s.disp := rfl
@[simp] theorem modSound_posts : (s.modSound i f).posts = s.posts := rfl
@[simp] theorem modSound_ords : (s.modSound i f).ords = s.ords := rfl
@[simp] theorem modSound_night : (s.modSound i f).night = s.night := rfl
@[simp] theorem modSound_doms : (s.modSound i f).doms = s.doms := rfl
@[simp] theorem modSound_store : (s.modSound i f).store = s.store := rfl

end

/-! ## `State.modChannel` -/

section

variable (i : Fin 12) (f : Channel → Channel) (s : State)

@[simp] theorem modChannel_pending : (s.modChannel i f).pending = s.pending := rfl
@[simp] theorem modChannel_sys : (s.modChannel i f).sys = s.sys := rfl
@[simp] theorem modChannel_booth : (s.modChannel i f).booth = s.booth := rfl
@[simp] theorem modChannel_counter : (s.modChannel i f).counter = s.counter := rfl
@[simp] theorem modChannel_mem : (s.modChannel i f).mem = s.mem := rfl
@[simp] theorem modChannel_mon : (s.modChannel i f).mon = s.mon := rfl
@[simp] theorem modChannel_lot : (s.modChannel i f).lot = s.lot := rfl
@[simp] theorem modChannel_gate : (s.modChannel i f).gate = s.gate := rfl
@[simp] theorem modChannel_shows : (s.modChannel i f).shows = s.shows := rfl
@[simp] theorem modChannel_chans : (s.modChannel i f).chans = { s.chans with channels := upd s.chans.channels i f } := rfl
@[simp] theorem modChannel_disp : (s.modChannel i f).disp = s.disp := rfl
@[simp] theorem modChannel_posts : (s.modChannel i f).posts = s.posts := rfl
@[simp] theorem modChannel_ords : (s.modChannel i f).ords = s.ords := rfl
@[simp] theorem modChannel_night : (s.modChannel i f).night = s.night := rfl
@[simp] theorem modChannel_doms : (s.modChannel i f).doms = s.doms := rfl
@[simp] theorem modChannel_store : (s.modChannel i f).store = s.store := rfl

end

/-! ## `State.modRow` -/

section

variable (i : Fin 48) (f : Row → Row) (s : State)

@[simp] theorem modRow_pending : (s.modRow i f).pending = s.pending := rfl
@[simp] theorem modRow_sys : (s.modRow i f).sys = s.sys := rfl
@[simp] theorem modRow_booth : (s.modRow i f).booth = s.booth := rfl
@[simp] theorem modRow_counter : (s.modRow i f).counter = s.counter := rfl
@[simp] theorem modRow_mem : (s.modRow i f).mem = s.mem := rfl
@[simp] theorem modRow_mon : (s.modRow i f).mon = s.mon := rfl
@[simp] theorem modRow_lot : (s.modRow i f).lot = s.lot := rfl
@[simp] theorem modRow_gate : (s.modRow i f).gate = s.gate := rfl
@[simp] theorem modRow_shows : (s.modRow i f).shows = s.shows := rfl
@[simp] theorem modRow_chans : (s.modRow i f).chans = s.chans := rfl
@[simp] theorem modRow_disp : (s.modRow i f).disp = s.disp := rfl
@[simp] theorem modRow_posts : (s.modRow i f).posts = { s.posts with rows := upd s.posts.rows i f } := rfl
@[simp] theorem modRow_ords : (s.modRow i f).ords = s.ords := rfl
@[simp] theorem modRow_night : (s.modRow i f).night = s.night := rfl
@[simp] theorem modRow_doms : (s.modRow i f).doms = s.doms := rfl
@[simp] theorem modRow_store : (s.modRow i f).store = s.store := rfl

end

/-! ## `State.modRunner` -/

section

variable (i : Fin 12) (f : Runner → Runner) (s : State)

@[simp] theorem modRunner_pending : (s.modRunner i f).pending = s.pending := rfl
@[simp] theorem modRunner_sys : (s.modRunner i f).sys = s.sys := rfl
@[simp] theorem modRunner_booth : (s.modRunner i f).booth = s.booth := rfl
@[simp] theorem modRunner_counter : (s.modRunner i f).counter = s.counter := rfl
@[simp] theorem modRunner_mem : (s.modRunner i f).mem = s.mem := rfl
@[simp] theorem modRunner_mon : (s.modRunner i f).mon = s.mon := rfl
@[simp] theorem modRunner_lot : (s.modRunner i f).lot = s.lot := rfl
@[simp] theorem modRunner_gate : (s.modRunner i f).gate = s.gate := rfl
@[simp] theorem modRunner_shows : (s.modRunner i f).shows = s.shows := rfl
@[simp] theorem modRunner_chans : (s.modRunner i f).chans = s.chans := rfl
@[simp] theorem modRunner_disp : (s.modRunner i f).disp = s.disp := rfl
@[simp] theorem modRunner_posts : (s.modRunner i f).posts = s.posts := rfl
@[simp] theorem modRunner_ords : (s.modRunner i f).ords = { s.ords with runners := upd s.ords.runners i f } := rfl
@[simp] theorem modRunner_night : (s.modRunner i f).night = s.night := rfl
@[simp] theorem modRunner_doms : (s.modRunner i f).doms = s.doms := rfl
@[simp] theorem modRunner_store : (s.modRunner i f).store = s.store := rfl

end

/-! ## `State.modDomain` -/

section

variable (i : Fin 8) (f : Domain → Domain) (s : State)

@[simp] theorem modDomain_pending : (s.modDomain i f).pending = s.pending := rfl
@[simp] theorem modDomain_sys : (s.modDomain i f).sys = s.sys := rfl
@[simp] theorem modDomain_booth : (s.modDomain i f).booth = s.booth := rfl
@[simp] theorem modDomain_counter : (s.modDomain i f).counter = s.counter := rfl
@[simp] theorem modDomain_mem : (s.modDomain i f).mem = s.mem := rfl
@[simp] theorem modDomain_mon : (s.modDomain i f).mon = s.mon := rfl
@[simp] theorem modDomain_lot : (s.modDomain i f).lot = s.lot := rfl
@[simp] theorem modDomain_gate : (s.modDomain i f).gate = s.gate := rfl
@[simp] theorem modDomain_shows : (s.modDomain i f).shows = s.shows := rfl
@[simp] theorem modDomain_chans : (s.modDomain i f).chans = s.chans := rfl
@[simp] theorem modDomain_disp : (s.modDomain i f).disp = s.disp := rfl
@[simp] theorem modDomain_posts : (s.modDomain i f).posts = s.posts := rfl
@[simp] theorem modDomain_ords : (s.modDomain i f).ords = s.ords := rfl
@[simp] theorem modDomain_night : (s.modDomain i f).night = s.night := rfl
@[simp] theorem modDomain_doms : (s.modDomain i f).doms = { s.doms with domains := upd s.doms.domains i f } := rfl
@[simp] theorem modDomain_store : (s.modDomain i f).store = s.store := rfl

end

/-! ## `State.modAdmSlot` -/

section

variable (i : Fin 1024) (f : Slot Admission → Slot Admission) (s : State)

@[simp] theorem modAdmSlot_pending : (s.modAdmSlot i f).pending = s.pending := rfl
@[simp] theorem modAdmSlot_sys : (s.modAdmSlot i f).sys = s.sys := rfl
@[simp] theorem modAdmSlot_booth : (s.modAdmSlot i f).booth = s.booth := rfl
@[simp] theorem modAdmSlot_counter : (s.modAdmSlot i f).counter = s.counter := rfl
@[simp] theorem modAdmSlot_mem : (s.modAdmSlot i f).mem = { s.mem with admissions := upd s.mem.admissions i f } := rfl
@[simp] theorem modAdmSlot_mon : (s.modAdmSlot i f).mon = s.mon := rfl
@[simp] theorem modAdmSlot_lot : (s.modAdmSlot i f).lot = s.lot := rfl
@[simp] theorem modAdmSlot_gate : (s.modAdmSlot i f).gate = s.gate := rfl
@[simp] theorem modAdmSlot_shows : (s.modAdmSlot i f).shows = s.shows := rfl
@[simp] theorem modAdmSlot_chans : (s.modAdmSlot i f).chans = s.chans := rfl
@[simp] theorem modAdmSlot_disp : (s.modAdmSlot i f).disp = s.disp := rfl
@[simp] theorem modAdmSlot_posts : (s.modAdmSlot i f).posts = s.posts := rfl
@[simp] theorem modAdmSlot_ords : (s.modAdmSlot i f).ords = s.ords := rfl
@[simp] theorem modAdmSlot_night : (s.modAdmSlot i f).night = s.night := rfl
@[simp] theorem modAdmSlot_doms : (s.modAdmSlot i f).doms = s.doms := rfl
@[simp] theorem modAdmSlot_store : (s.modAdmSlot i f).store = s.store := rfl

end

/-! ## `State.modOrderSlot` -/

section

variable (i : Fin 256) (f : Slot Order → Slot Order) (s : State)

@[simp] theorem modOrderSlot_pending : (s.modOrderSlot i f).pending = s.pending := rfl
@[simp] theorem modOrderSlot_sys : (s.modOrderSlot i f).sys = s.sys := rfl
@[simp] theorem modOrderSlot_booth : (s.modOrderSlot i f).booth = s.booth := rfl
@[simp] theorem modOrderSlot_counter : (s.modOrderSlot i f).counter = s.counter := rfl
@[simp] theorem modOrderSlot_mem : (s.modOrderSlot i f).mem = { s.mem with orders := upd s.mem.orders i f } := rfl
@[simp] theorem modOrderSlot_mon : (s.modOrderSlot i f).mon = s.mon := rfl
@[simp] theorem modOrderSlot_lot : (s.modOrderSlot i f).lot = s.lot := rfl
@[simp] theorem modOrderSlot_gate : (s.modOrderSlot i f).gate = s.gate := rfl
@[simp] theorem modOrderSlot_shows : (s.modOrderSlot i f).shows = s.shows := rfl
@[simp] theorem modOrderSlot_chans : (s.modOrderSlot i f).chans = s.chans := rfl
@[simp] theorem modOrderSlot_disp : (s.modOrderSlot i f).disp = s.disp := rfl
@[simp] theorem modOrderSlot_posts : (s.modOrderSlot i f).posts = s.posts := rfl
@[simp] theorem modOrderSlot_ords : (s.modOrderSlot i f).ords = s.ords := rfl
@[simp] theorem modOrderSlot_night : (s.modOrderSlot i f).night = s.night := rfl
@[simp] theorem modOrderSlot_doms : (s.modOrderSlot i f).doms = s.doms := rfl
@[simp] theorem modOrderSlot_store : (s.modOrderSlot i f).store = s.store := rfl

end

/-! ## `State.modStallSlot` -/

section

variable (i : Fin 1024) (f : Slot Stall → Slot Stall) (s : State)

@[simp] theorem modStallSlot_pending : (s.modStallSlot i f).pending = s.pending := rfl
@[simp] theorem modStallSlot_sys : (s.modStallSlot i f).sys = s.sys := rfl
@[simp] theorem modStallSlot_booth : (s.modStallSlot i f).booth = s.booth := rfl
@[simp] theorem modStallSlot_counter : (s.modStallSlot i f).counter = s.counter := rfl
@[simp] theorem modStallSlot_mem : (s.modStallSlot i f).mem = { s.mem with stalls := upd s.mem.stalls i f } := rfl
@[simp] theorem modStallSlot_mon : (s.modStallSlot i f).mon = s.mon := rfl
@[simp] theorem modStallSlot_lot : (s.modStallSlot i f).lot = s.lot := rfl
@[simp] theorem modStallSlot_gate : (s.modStallSlot i f).gate = s.gate := rfl
@[simp] theorem modStallSlot_shows : (s.modStallSlot i f).shows = s.shows := rfl
@[simp] theorem modStallSlot_chans : (s.modStallSlot i f).chans = s.chans := rfl
@[simp] theorem modStallSlot_disp : (s.modStallSlot i f).disp = s.disp := rfl
@[simp] theorem modStallSlot_posts : (s.modStallSlot i f).posts = s.posts := rfl
@[simp] theorem modStallSlot_ords : (s.modStallSlot i f).ords = s.ords := rfl
@[simp] theorem modStallSlot_night : (s.modStallSlot i f).night = s.night := rfl
@[simp] theorem modStallSlot_doms : (s.modStallSlot i f).doms = s.doms := rfl
@[simp] theorem modStallSlot_store : (s.modStallSlot i f).store = s.store := rfl

end

end Sys2Proof.Machine
end

