-- ==== Sys2Proof/Laws/Ops.lean ====
section
/-!
SUPPORT. What the shared operations can do, said once: the handing over of a command, the reads and writes of the
checked tables, and the frames of the operations that read or keep records.
-/

namespace Sys2Proof.Machine

open Sys2Proof

/-! ## The handing over of a command (R199) -/

section

variable (p : PortId) (code : Byte) (ok : Bool) (block : State → Reply) (s : State)

theorem command_held (h : s.sys.phase = .held) : s.command p code ok block = s := by
  simp [State.command, h]

theorem command_starting (h : s.sys.phase = .checking) :
    s.command p code ok block = s.answer p code .starting [] := by
  simp [State.command, State.portCheck, h]

theorem command_busy (h : s.sys.phase = .running) (hw : s.sys.resetWaiting = true) :
    s.command p code ok block = s.answer p code .busy [] := by
  simp [State.command, State.portCheck, h, hw]

theorem command_privilege (h : s.sys.phase = .running) (hw : s.sys.resetWaiting = false)
    (ht : takenOn code p = false) : s.command p code ok block = s.answer p code .privilege [] := by
  simp [State.command, State.portCheck, h, hw, ht]

theorem command_length (h : s.takes p code) : s.command p code false block = s.answer p code .length [] := by
  obtain ⟨h, hw, ht⟩ := h
  simp [State.command, State.portCheck, h, hw, ht]

/-- A command that passes its port's checks is its block's effect and answer. -/
theorem command_taken (h : s.takes p code) :
    s.command p code true block = (block s).state.answer p code (block s).status (block s).data := by
  obtain ⟨h, hw, ht⟩ := h
  simp [State.command, State.portCheck, h, hw, ht]

theorem whileRunning_running (f : State → State) (h : s.sys.phase = .running) : s.whileRunning f = f s := by
  simp [State.whileRunning, h]

theorem whileRunning_other (f : State → State) (h : s.sys.phase ≠ .running) : s.whileRunning f = s := by
  simp [State.whileRunning, h]

end

@[simp] theorem ok_state (s : State) (d : List Byte) : (s.ok d).state = s := rfl
@[simp] theorem ok_status (s : State) (d : List Byte) : (s.ok d).status = .ok := rfl
@[simp] theorem ok_data (s : State) (d : List Byte) : (s.ok d).data = d := rfl
@[simp] theorem refuse_state (s : State) (x : Status) : (s.refuse x).state = s := rfl
@[simp] theorem refuse_status (s : State) (x : Status) : (s.refuse x).status = x := rfl
@[simp] theorem refuse_data (s : State) (x : Status) : (s.refuse x).data = [] := rfl

/-! ## Operands -/

theorem numbered_some {n : Nat} {b : Byte} (h : 1 ≤ b.toNat ∧ b.toNat ≤ n) :
    numbered n b = some ⟨b.toNat - 1, by omega⟩ := by
  simp [numbered, h]

theorem numbered_none {n : Nat} {b : Byte} (h : ¬ (1 ≤ b.toNat ∧ b.toNat ≤ n)) : numbered n b = none := by
  simp only [numbered, h, dite_false]

theorem indexed_some {n : Nat} {b : Byte} (h : b.toNat < n) : indexed n b = some ⟨b.toNat, h⟩ := by
  simp [indexed, h]

/-! ## What only reads and keeps records may change -/

/-- `t` differs from `s` at most in the record memory, the monitor and the ports. -/
def State.readFrame (s t : State) : Prop :=
  t = { s with mem := t.mem, mon := t.mon, booth := t.booth, counter := t.counter }

/-- `t` differs from `s` at most in the record memory, the monitor, the ports and the lot map. -/
def State.lotFrame (s t : State) : Prop :=
  t = { s with mem := t.mem, mon := t.mon, booth := t.booth, counter := t.counter, lot := t.lot }

theorem readFrame_refl (s : State) : s.readFrame s := rfl

theorem lotFrame_refl (s : State) : s.lotFrame s := rfl

theorem readFrame_trans {s t u : State} (h : s.readFrame t) (k : t.readFrame u) : s.readFrame u := by
  unfold State.readFrame at *
  rw [k, h]

theorem lotFrame_trans {s t u : State} (h : s.lotFrame t) (k : t.lotFrame u) : s.lotFrame u := by
  unfold State.lotFrame at *
  rw [k, h]

theorem readFrame_lotFrame {s t : State} (h : s.readFrame t) : s.lotFrame t := by
  unfold State.readFrame at h
  unfold State.lotFrame
  rw [h]

theorem readFrame_pending {s t : State} (h : s.readFrame t) : t.pending = s.pending := by rw [State.readFrame] at h; rw [h]
theorem readFrame_sys {s t : State} (h : s.readFrame t) : t.sys = s.sys := by rw [State.readFrame] at h; rw [h]
theorem readFrame_lot {s t : State} (h : s.readFrame t) : t.lot = s.lot := by rw [State.readFrame] at h; rw [h]
theorem readFrame_gate {s t : State} (h : s.readFrame t) : t.gate = s.gate := by rw [State.readFrame] at h; rw [h]
theorem readFrame_shows {s t : State} (h : s.readFrame t) : t.shows = s.shows := by rw [State.readFrame] at h; rw [h]
theorem readFrame_chans {s t : State} (h : s.readFrame t) : t.chans = s.chans := by rw [State.readFrame] at h; rw [h]
theorem readFrame_disp {s t : State} (h : s.readFrame t) : t.disp = s.disp := by rw [State.readFrame] at h; rw [h]
theorem readFrame_posts {s t : State} (h : s.readFrame t) : t.posts = s.posts := by rw [State.readFrame] at h; rw [h]
theorem readFrame_ords {s t : State} (h : s.readFrame t) : t.ords = s.ords := by rw [State.readFrame] at h; rw [h]
theorem readFrame_night {s t : State} (h : s.readFrame t) : t.night = s.night := by rw [State.readFrame] at h; rw [h]
theorem readFrame_doms {s t : State} (h : s.readFrame t) : t.doms = s.doms := by rw [State.readFrame] at h; rw [h]
theorem readFrame_store {s t : State} (h : s.readFrame t) : t.store = s.store := by rw [State.readFrame] at h; rw [h]

theorem lotFrame_pending {s t : State} (h : s.lotFrame t) : t.pending = s.pending := by rw [State.lotFrame] at h; rw [h]
theorem lotFrame_sys {s t : State} (h : s.lotFrame t) : t.sys = s.sys := by rw [State.lotFrame] at h; rw [h]
theorem lotFrame_gate {s t : State} (h : s.lotFrame t) : t.gate = s.gate := by rw [State.lotFrame] at h; rw [h]
theorem lotFrame_shows {s t : State} (h : s.lotFrame t) : t.shows = s.shows := by rw [State.lotFrame] at h; rw [h]
theorem lotFrame_chans {s t : State} (h : s.lotFrame t) : t.chans = s.chans := by rw [State.lotFrame] at h; rw [h]
theorem lotFrame_disp {s t : State} (h : s.lotFrame t) : t.disp = s.disp := by rw [State.lotFrame] at h; rw [h]
theorem lotFrame_posts {s t : State} (h : s.lotFrame t) : t.posts = s.posts := by rw [State.lotFrame] at h; rw [h]
theorem lotFrame_ords {s t : State} (h : s.lotFrame t) : t.ords = s.ords := by rw [State.lotFrame] at h; rw [h]
theorem lotFrame_night {s t : State} (h : s.lotFrame t) : t.night = s.night := by rw [State.lotFrame] at h; rw [h]
theorem lotFrame_doms {s t : State} (h : s.lotFrame t) : t.doms = s.doms := by rw [State.lotFrame] at h; rw [h]
theorem lotFrame_store {s t : State} (h : s.lotFrame t) : t.store = s.store := by rw [State.lotFrame] at h; rw [h]

/-! ## Attention and events -/

theorem raiseBooth_readFrame (s : State) (k : BoothKind) : s.readFrame (s.raiseBooth k) := rfl

theorem raiseCounter_readFrame (s : State) (k : CounterKind) : s.readFrame (s.raiseCounter k) := rfl

theorem raiseDamaged_readFrame (s : State) : s.readFrame s.raiseDamaged := rfl

theorem event_readFrame (s : State) (x : EventPlace) (k : EventKind) : s.readFrame (s.event x k) := rfl

theorem storeEvent_readFrame (s : State) (a : Fin 6) (u : Fin 64) (k : EventKind) :
    s.readFrame (s.storeEvent a u k) := by cases k <;> rfl

theorem modMem_readFrame (s : State) (f : RecordMemory → RecordMemory) : s.readFrame (s.modMem f) := rfl

/-! ## Admissions -/

theorem readAdm_clean {s : State} {a : Fin 1024} (h : s.admClean a) : s.readAdm a = (some (s.adm a), s) := by
  obtain ⟨h, k⟩ := h
  simp only [Fin.getElem_fin] at h k
  simp [State.readAdm, State.adm, h, k]

theorem readAdm_marked {s : State} {a : Fin 1024} (h : s.mem.admissions[a].marked = true) :
    s.readAdm a = (none, s) := by
  simp only [Fin.getElem_fin] at h
  simp [State.readAdm, h]

theorem readAdm_readFrame (s : State) (a : Fin 1024) : s.readFrame (s.readAdm a).2 := by
  unfold State.readAdm
  dsimp only
  split
  · rfl
  · split <;> rfl

theorem writeAdm_readFrame (s : State) (a : Fin 1024) (f : Admission → Admission) :
    s.readFrame (s.writeAdm a f) := rfl

theorem updateAdm_readFrame (s : State) (a : Fin 1024) (f : Admission → Admission) :
    s.readFrame (s.updateAdm a f) :=
  readFrame_trans (readAdm_readFrame s a) (writeAdm_readFrame _ a f)

theorem unmarkAdm_readFrame (s : State) (a : Fin 1024) : s.readFrame (s.unmarkAdm a) := by
  unfold State.unmarkAdm
  split <;> rfl

theorem retireAdmSlot_readFrame (s : State) (a : Fin 1024) : s.readFrame (s.retireAdmSlot a) := by
  have h1 : s.readFrame (s.modAdmSlot a (Slot.write Admission.freePattern)) := rfl
  exact readFrame_trans (readFrame_trans h1 (unmarkAdm_readFrame _ a)) (modMem_readFrame _ _)

theorem createAdm_readFrame (s : State) (a : Fin 1024) (x : Admission) : s.readFrame (s.createAdm a x) := rfl

/-! ## Orders -/

theorem readOrder_clean {s : State} {o : Fin 256} (h : s.orderClean o) :
    s.readOrder o = (some (s.order o), s) := by
  obtain ⟨h, k⟩ := h
  simp only [Fin.getElem_fin] at h k
  simp [State.readOrder, State.order, h, k]

theorem readOrder_marked {s : State} {o : Fin 256} (h : s.mem.orders[o].marked = true) :
    s.readOrder o = (none, s) := by
  simp only [Fin.getElem_fin] at h
  simp [State.readOrder, h]

theorem readOrder_readFrame (s : State) (o : Fin 256) : s.readFrame (s.readOrder o).2 := by
  unfold State.readOrder
  dsimp only
  split
  · rfl
  · split <;> rfl

theorem writeOrder_readFrame (s : State) (o : Fin 256) (f : Order → Order) :
    s.readFrame (s.writeOrder o f) := rfl

theorem updateOrder_readFrame (s : State) (o : Fin 256) (f : Order → Order) :
    s.readFrame (s.updateOrder o f) :=
  readFrame_trans (readOrder_readFrame s o) (writeOrder_readFrame _ o f)

theorem unmarkOrder_readFrame (s : State) (o : Fin 256) : s.readFrame (s.unmarkOrder o) := by
  unfold State.unmarkOrder
  split <;> rfl

theorem retireOrderSlot_readFrame (s : State) (o : Fin 256) : s.readFrame (s.retireOrderSlot o) := by
  have h1 : s.readFrame (s.modOrderSlot o (Slot.write Order.freePattern)) := rfl
  exact readFrame_trans (readFrame_trans h1 (unmarkOrder_readFrame _ o)) (modMem_readFrame _ _)

/-- Orders that are all clean are read as they were written, and nothing changes. -/
theorem readOrders_clean (s : State) (l : List (Fin 256)) (h : ∀ o ∈ l, s.orderClean o) :
    s.readOrders l = (l.map fun o => (o, s.order o), true, s) := by
  induction l with
  | nil => rfl
  | cons o rest ih =>
    have ho := readOrder_clean (h o (by simp))
    have hr := ih fun x hx => h x (by simp [hx])
    simp [State.readOrders, ho, hr]

theorem readOrders_readFrame (l : List (Fin 256)) (s : State) : s.readFrame (s.readOrders l).2.2 := by
  induction l generalizing s with
  | nil => rfl
  | cons o rest ih =>
    have h := readFrame_trans (readOrder_readFrame s o) (ih (s.readOrder o).2)
    unfold State.readOrders
    generalize hr : s.readOrder o = r at *
    obtain ⟨x, u⟩ := r
    cases x <;> exact h

/-- A clean admission with clean orders is read as it was written, and nothing changes. -/
theorem readTab_clean {s : State} {a : Fin 1024} (h : s.tabClean a) :
    s.readTab a = (some (s.adm a, s.tabOrders a), s) := by
  obtain ⟨ha, ho⟩ := h
  have hl : ∀ o ∈ (s.adm a).orders.map OrderHandle.slot, s.orderClean o := by
    intro o h
    obtain ⟨x, hx, rfl⟩ := List.mem_map.mp h
    exact ho x hx
  simp [State.readTab, readAdm_clean ha, readOrders_clean s _ hl, State.tabOrders, Function.comp_def]

theorem readTab_readFrame (s : State) (a : Fin 1024) : s.readFrame (s.readTab a).2 := by
  have h := readAdm_readFrame s a
  unfold State.readTab
  generalize s.readAdm a = r at *
  obtain ⟨x, u⟩ := r
  cases x with
  | none => exact h
  | some x => exact readFrame_trans h (readOrders_readFrame _ u)

/-! ## Stalls -/

theorem readStall_clean {s : State} {i : Fin 1024} (h : s.stallClean i) : s.readStall i = (s.stall i, s) := by
  unfold State.stallClean at h
  simp only [Fin.getElem_fin] at h
  simp [State.readStall, State.stall, h]

theorem rebuildStall_lotFrame (s : State) (i : Fin 1024) : s.lotFrame (s.rebuildStall i) := rfl

theorem readStall_lotFrame (s : State) (i : Fin 1024) : s.lotFrame (s.readStall i).2 := by
  unfold State.readStall
  dsimp only
  generalize (s.mem.stalls[i]).health = h
  cases h <;> rfl

theorem writeStall_lotFrame (s : State) (i : Fin 1024) (f : Stall → Stall) :
    s.lotFrame (s.writeStall i f) := rfl

theorem holdStall_lotFrame (s : State) (i a : Fin 1024) (h : Hold) : s.lotFrame (s.holdStall i a h) := rfl

theorem giveStall_lotFrame (s : State) (i a : Fin 1024) (x : Admission) :
    s.lotFrame (s.giveStall i a x) := by
  unfold State.giveStall
  cases x.state <;> rfl

theorem examineQueue_lotFrame (i : Fin 1024) (k : StallKind) (l : List (Fin 1024)) (s : State) :
    s.lotFrame (s.examineQueue i k l) := by
  induction l generalizing s with
  | nil => rfl
  | cons a rest ih =>
    have h := readFrame_lotFrame (readAdm_readFrame s a)
    unfold State.examineQueue
    generalize s.readAdm a = r at *
    obtain ⟨x, u⟩ := r
    cases x with
    | none => exact lotFrame_trans h (ih u)
    | some x =>
      dsimp only
      split
      · exact lotFrame_trans h (giveStall_lotFrame u i a x)
      · exact lotFrame_trans h (ih u)

theorem releaseStall_lotFrame (s : State) (i : Fin 1024) : s.lotFrame (s.releaseStall i) := by
  unfold State.releaseStall
  have h0 : s.lotFrame (s.modLot fun l => { l with occupants := upd l.occupants i fun _ => none }) := rfl
  have h := lotFrame_trans h0 (readStall_lotFrame _ i)
  dsimp only
  split
  · exact lotFrame_trans h (writeStall_lotFrame _ i _)
  · split
    · exact h
    · exact lotFrame_trans h (lotFrame_trans (writeStall_lotFrame _ i _) (examineQueue_lotFrame _ _ _ _))

theorem searchStalls_lotFrame (l : List (Fin 1024)) (s : State) : s.lotFrame (s.searchStalls l).2 := by
  induction l generalizing s with
  | nil => rfl
  | cons i rest ih =>
    have h := readStall_lotFrame s i
    unfold State.searchStalls
    generalize s.readStall i = r at *
    obtain ⟨x, u⟩ := r
    dsimp only
    split
    · exact h
    · exact lotFrame_trans h (ih u)

theorem searchField_lotFrame (n : Fin 6) (c : VehicleClass) (s : State) : s.lotFrame (s.searchField n c).2 := by
  have h := searchStalls_lotFrame
  unfold State.searchField
  cases c with
  | tall => exact h _ s
  | car =>
    have h1 : s.lotFrame (s.searchKinds n [.front, .standard]).2 := h _ s
    generalize s.searchKinds n [.front, .standard] = r at *
    obtain ⟨x, u⟩ := r
    cases x with
    | none => exact lotFrame_trans h1 (h _ u)
    | some i => exact h1

theorem offerReturn_lotFrame (s : State) (a : Fin 1024) : s.lotFrame (s.offerReturn a) := by
  unfold State.offerReturn
  split
  · rfl
  · next n _ =>
    have h := readFrame_lotFrame (readAdm_readFrame s a)
    generalize s.readAdm a = r at *
    obtain ⟨x, u⟩ := r
    cases x with
    | none => exact h
    | some x =>
      have k := lotFrame_trans h (searchField_lotFrame n x.cls u)
      dsimp only at k ⊢
      generalize u.searchField n x.cls = q at *
      obtain ⟨i, v⟩ := q
      cases i with
      | none => exact k
      | some i => exact lotFrame_trans k (giveStall_lotFrame v i a _)

/-- All that a return does to the gate: its lane is IDLE and unbound, with one more return counted. -/
theorem returnAdm_gate (n : Fin 4) (a : Fin 1024) (s : State) :
    (s.returnAdm n a).gate = { s.gate with
      lanes := upd s.gate.lanes n fun l =>
        { l.dropRaise with
          state := .idle, bound := none, voidTimer := none, returnTimer := none, voids := countUp l.voids } } := by
  unfold State.returnAdm
  dsimp only
  split
  · rw [lotFrame_gate (offerReturn_lotFrame _ a)]
    rfl
  · rfl

/-! ## The standing store -/

theorem readUnit_readFrame (a : Fin 6) (u : Fin 64) (s : State) : s.readFrame (s.readUnit a u).2 := by
  unfold State.readUnit
  dsimp only
  split
  · rfl
  · exact storeEvent_readFrame _ _ _ _
  · exact storeEvent_readFrame _ _ _ _

theorem readUnits_readFrame (l : List (Fin 384)) (s : State) : s.readFrame (s.readUnits l) := by
  unfold State.readUnits State.each
  induction l generalizing s with
  | nil => rfl
  | cons i rest ih =>
    exact readFrame_trans (readUnit_readFrame _ _ s) (ih _)

end Sys2Proof.Machine
end

