-- ==== Sys2Proof/Laws/PerInstr.lean ====
section
/-!
SUPPORT. What is proved of every command and event one by one: the code that carries it stands in the command
summary, and a well-formed command fits the 44 parameter bytes of a frame.
-/

namespace Sys2Proof.Laws.Carried

open Sys2Proof Sys2Proof.Machine

set_option linter.unusedSimpArgs false

/-- The code of a command is in the command summary, and its parameters fit a frame (R199, Command summary). -/
def Statement (i : Instr) : Prop :=
  ∀ p code l, encodeCommand i = some (p, code, l) → code ∈ commandCodes ∧ (i.wf = true → l.length ≤ 44)

theorem of_none {i : Instr} (h : encodeCommand i = none) : Statement i := by
  intro p code l k
  rw [h] at k
  exact absurd k (by simp)

theorem of_some {i : Instr} {p : PortId} {code : Byte} {l : List Byte} (h : encodeCommand i = some (p, code, l))
    (hc : code ∈ commandCodes) (hl : i.wf = true → l.length ≤ 44) : Statement i := by
  intro p' code' l' k
  rw [h] at k
  obtain ⟨rfl, rfl, rfl⟩ : p = p' ∧ code = code' ∧ l = l' := by simpa using k
  exact ⟨hc, hl⟩

theorem segments_length (l : List (BitVec 32)) : (l.flatMap segmentBytes).length = 4 * l.length := by
  induction l with
  | nil => rfl
  | cons x l ih => simp [segmentBytes, ih]; omega

theorem lines_length (l : List RawLine) : (l.flatMap fun x => [x.item, x.quantity]).length = 2 * l.length := by
  induction l with
  | nil => rfl
  | cons x l ih => simp [ih]; omega

theorem handles_length (l : List Word16) : (l.flatMap wordBytes).length = 2 * l.length := by
  induction l with
  | nil => rfl
  | cons x l ih => simp [wordBytes, ih]; omega

theorem powerOnReset : Statement .powerOnReset :=
  of_none rfl

theorem resetRelease : Statement .resetRelease :=
  of_none rfl

theorem startUpCheckEnd : Statement .startUpCheckEnd :=
  of_none rfl

theorem frameBegin (p : PortId) : Statement (.frameBegin p) :=
  of_none rfl

theorem frameEnd (p : PortId) : Statement (.frameEnd p) :=
  of_none rfl

theorem frameTimerExpiry (p : PortId) : Statement (.frameTimerExpiry p) :=
  of_none rfl

theorem portClockRisingEdge (p : PortId) (din : Bool) : Statement (.portClockRisingEdge p din) :=
  of_none rfl

theorem nop (p : PortId) : Statement (.nop p) :=
  of_some rfl (by decide) fun _ => Nat.le_of_ble_eq_true rfl

theorem readPort (p : PortId) : Statement (.readPort p) :=
  of_some rfl (by decide) fun _ => Nat.le_of_ble_eq_true rfl

theorem readAttention (p : PortId) : Statement (.readAttention p) :=
  of_some rfl (by decide) fun _ => Nat.le_of_ble_eq_true rfl

theorem setAttentionMask (p : PortId) (mask : Word24) : Statement (.setAttentionMask p mask) :=
  of_some rfl (by decide) fun _ => Nat.le_of_ble_eq_true rfl

theorem readReport (p : PortId) : Statement (.readReport p) :=
  of_some rfl (by decide) fun _ => Nat.le_of_ble_eq_true rfl

theorem partReset (p : PortId) : Statement (.partReset p) :=
  of_some rfl (by decide) fun _ => Nat.le_of_ble_eq_true rfl

theorem readIntegrity (p : PortId) : Statement (.readIntegrity p) :=
  of_some rfl (by decide) fun _ => Nat.le_of_ble_eq_true rfl

theorem clearIntegrity (p : PortId) : Statement (.clearIntegrity p) :=
  of_some rfl (by decide) fun _ => Nat.le_of_ble_eq_true rfl

theorem patrolRead : Statement .patrolRead :=
  of_none rfl

theorem loopInputChange (lane : Fin 4) (loop : Loop) (occupied : Bool) : Statement (.loopInputChange lane loop occupied) :=
  of_none rfl

theorem presenceTimerExpiry (lane : Fin 4) (loop : Loop) : Statement (.presenceTimerExpiry lane loop) :=
  of_none rfl

theorem upChange (lane : Fin 4) (high : Bool) : Statement (.upChange lane high) :=
  of_none rfl

theorem barrierTimerExpiry (lane : Fin 4) : Statement (.barrierTimerExpiry lane) :=
  of_none rfl

theorem stuckTimerExpiry (lane : Fin 4) : Statement (.stuckTimerExpiry lane) :=
  of_none rfl

theorem voidTimerExpiry (lane : Fin 4) : Statement (.voidTimerExpiry lane) :=
  of_none rfl

theorem returnTimerExpiry (lane : Fin 4) : Statement (.returnTimerExpiry lane) :=
  of_none rfl

theorem tabClear (lane : Fin 4) : Statement (.tabClear lane) :=
  of_none rfl

theorem admitCar (p : PortId) (lane screen cls : Byte) (stall : Word16) : Statement (.admitCar p lane screen cls stall) :=
  of_some rfl (by decide) fun _ => Nat.le_of_ble_eq_true rfl

theorem void (p : PortId) (handle : Word16) : Statement (.void p handle) :=
  of_some rfl (by decide) fun _ => Nat.le_of_ble_eq_true rfl

theorem exit (p : PortId) (lane : Byte) (handle : Word16) : Statement (.exit p lane handle) :=
  of_some rfl (by decide) fun _ => Nat.le_of_ble_eq_true rfl

theorem clearLane (p : PortId) (lane : Byte) : Statement (.clearLane p lane) :=
  of_some rfl (by decide) fun _ => Nat.le_of_ble_eq_true rfl

theorem readLane (p : PortId) (lane : Byte) : Statement (.readLane p lane) :=
  of_some rfl (by decide) fun _ => Nat.le_of_ble_eq_true rfl

theorem move (p : PortId) (handle : Word16) (screen : Byte) (stall : Word16) : Statement (.move p handle screen stall) :=
  of_some rfl (by decide) fun _ => Nat.le_of_ble_eq_true rfl

theorem lookupAdmission (p : PortId) (handle : Word16) : Statement (.lookupAdmission p handle) :=
  of_some rfl (by decide) fun _ => Nat.le_of_ble_eq_true rfl

theorem repair (p : PortId) (handle : Word16) (cls lane : Byte) (entryTime : Word24) : Statement (.repair p handle cls lane entryTime) :=
  of_some rfl (by decide) fun _ => Nat.le_of_ble_eq_true rfl

theorem forceRetireAdmission (p : PortId) (handle : Word16) : Statement (.forceRetireAdmission p handle) :=
  of_some rfl (by decide) fun _ => Nat.le_of_ble_eq_true rfl

theorem closeStall (p : PortId) (screen : Byte) (stall : Word16) : Statement (.closeStall p screen stall) :=
  of_some rfl (by decide) fun _ => Nat.le_of_ble_eq_true rfl

theorem openStall (p : PortId) (screen : Byte) (stall : Word16) : Statement (.openStall p screen stall) :=
  of_some rfl (by decide) fun _ => Nat.le_of_ble_eq_true rfl

theorem lookupStall (p : PortId) (screen : Byte) (stall : Word16) : Statement (.lookupStall p screen stall) :=
  of_some rfl (by decide) fun _ => Nat.le_of_ble_eq_true rfl

theorem readField (p : PortId) (screen : Byte) : Statement (.readField p screen) :=
  of_some rfl (by decide) fun _ => Nat.le_of_ble_eq_true rfl

theorem loadShow (p : PortId) (screen count : Byte) (segments : List (BitVec 32)) (start : Word24) : Statement (.loadShow p screen count segments start) :=
  of_some rfl (by decide) (by
    intro h
    have h := of_decide_eq_true (Bool.and_eq_true_iff.mp h).1
    simp only [Instr.variableLength] at h
    simp only [wordBytes, wordBytes3, List.length_cons, List.length_append, List.length_nil, segments_length]
    omega)

theorem setStart (p : PortId) (screen : Byte) (start : Word24) : Statement (.setStart p screen start) :=
  of_some rfl (by decide) fun _ => Nat.le_of_ble_eq_true rfl

theorem startNow (p : PortId) (screen : Byte) : Statement (.startNow p screen) :=
  of_some rfl (by decide) fun _ => Nat.le_of_ble_eq_true rfl

theorem holdShow (p : PortId) (screen : Byte) : Statement (.holdShow p screen) :=
  of_some rfl (by decide) fun _ => Nat.le_of_ble_eq_true rfl

theorem resumeShow (p : PortId) (screen : Byte) : Statement (.resumeShow p screen) :=
  of_some rfl (by decide) fun _ => Nat.le_of_ble_eq_true rfl

theorem endShow (p : PortId) (screen : Byte) : Statement (.endShow p screen) :=
  of_some rfl (by decide) fun _ => Nat.le_of_ble_eq_true rfl

theorem readScreen (p : PortId) (screen : Byte) : Statement (.readScreen p screen) :=
  of_some rfl (by decide) fun _ => Nat.le_of_ble_eq_true rfl

theorem projectorInputChange (screen : Fin 6) (input : ProjectorInput) (high : Bool) : Statement (.projectorInputChange screen input high) :=
  of_none rfl

theorem projectorLevelChange (screen : Fin 6) (which : ProjectorLevel) : Statement (.projectorLevelChange screen which) :=
  of_none rfl

theorem markTaken (screen : Fin 6) : Statement (.markTaken screen) :=
  of_none rfl

theorem startTimerExpiry (screen : Fin 6) : Statement (.startTimerExpiry screen) :=
  of_none rfl

theorem segmentOverrun (screen : Fin 6) : Statement (.segmentOverrun screen) :=
  of_none rfl

theorem nightClockSecond : Statement .nightClockSecond :=
  of_none rfl

theorem retune (p : PortId) (screen : Byte) : Statement (.retune p screen) :=
  of_some rfl (by decide) fun _ => Nat.le_of_ble_eq_true rfl

theorem quarantineChannel (p : PortId) (channel : Byte) : Statement (.quarantineChannel p channel) :=
  of_some rfl (by decide) fun _ => Nat.le_of_ble_eq_true rfl

theorem readChannels (p : PortId) : Statement (.readChannels p) :=
  of_some rfl (by decide) fun _ => Nat.le_of_ble_eq_true rfl

theorem carrierOkChange (screen : Fin 6) (high : Bool) : Statement (.carrierOkChange screen high) :=
  of_none rfl

theorem carrierFault (screen : Fin 6) : Statement (.carrierFault screen) :=
  of_none rfl

theorem announceTimerExpiry (screen : Fin 6) : Statement (.announceTimerExpiry screen) :=
  of_none rfl

theorem channelSecond : Statement .channelSecond :=
  of_none rfl

theorem quarantineExpiry (channel : Fin 12) : Statement (.quarantineExpiry channel) :=
  of_none rfl

theorem displayWordStart : Statement .displayWordStart :=
  of_none rfl

theorem displayWordSent : Statement .displayWordSent :=
  of_none rfl

theorem toneFindingChange (row : Fin 48) (tones : Tones) : Statement (.toneFindingChange row tones) :=
  of_none rfl

theorem onTimerExpiry (row : Fin 48) : Statement (.onTimerExpiry row) :=
  of_none rfl

theorem dropoutTimerExpiry (row : Fin 48) : Statement (.dropoutTimerExpiry row) :=
  of_none rfl

theorem maxHoldTimerExpiry (row : Fin 48) : Statement (.maxHoldTimerExpiry row) :=
  of_none rfl

theorem offTimerExpiry (row : Fin 48) : Statement (.offTimerExpiry row) :=
  of_none rfl

theorem cycleTimerExpiry (row : Fin 48) : Statement (.cycleTimerExpiry row) :=
  of_none rfl

theorem interKeyTimeout (row : Fin 48) : Statement (.interKeyTimeout row) :=
  of_none rfl

theorem answerToneEnd (row : Fin 48) : Statement (.answerToneEnd row) :=
  of_none rfl

theorem requestAnswer (row : Fin 48) : Statement (.requestAnswer row) :=
  of_none rfl

theorem abortRow (p : PortId) (line : Byte) : Statement (.abortRow p line) :=
  of_some rfl (by decide) fun _ => Nat.le_of_ble_eq_true rfl

theorem readRow (p : PortId) (line : Byte) : Statement (.readRow p line) :=
  of_some rfl (by decide) fun _ => Nat.le_of_ble_eq_true rfl

theorem place (p : PortId) (screen : Byte) (stall : Word16) (count : Byte) (lines : List RawLine) : Statement (.place p screen stall count lines) :=
  of_some rfl (by decide) (by
    intro h
    have h := of_decide_eq_true (Bool.and_eq_true_iff.mp h).1
    simp only [Instr.variableLength] at h
    simp only [wordBytes, wordBytes3, List.length_cons, List.length_append, List.length_nil, lines_length]
    omega)

theorem placeRequest (row : Fin 48) : Statement (.placeRequest row) :=
  of_none rfl

theorem cancelNewest (row : Fin 48) : Statement (.cancelNewest row) :=
  of_none rfl

theorem confirm (row : Fin 48) : Statement (.confirm row) :=
  of_none rfl

theorem take (p : PortId) (handle : Option Word16) : Statement (.take p handle) := by
  cases handle with
  | none => exact of_some rfl (by decide) (by simp)
  | some h => exact of_some rfl (by decide) fun _ => Nat.le_of_ble_eq_true rfl

theorem ready (p : PortId) (handle : Word16) : Statement (.ready p handle) :=
  of_some rfl (by decide) fun _ => Nat.le_of_ble_eq_true rfl

theorem dispatch (p : PortId) (runner count : Byte) (handles : List Word16) : Statement (.dispatch p runner count handles) :=
  of_some rfl (by decide) (by
    intro h
    have h := of_decide_eq_true (Bool.and_eq_true_iff.mp h).1
    simp only [Instr.variableLength] at h
    simp only [wordBytes, wordBytes3, List.length_cons, List.length_append, List.length_nil, handles_length]
    omega)

theorem tripTimerExpiry (runner : Fin 12) : Statement (.tripTimerExpiry runner) :=
  of_none rfl

theorem delivered (p : PortId) (handle : Word16) : Statement (.delivered p handle) :=
  of_some rfl (by decide) fun _ => Nat.le_of_ble_eq_true rfl

theorem runnerBack (p : PortId) (runner : Byte) : Statement (.runnerBack p runner) :=
  of_some rfl (by decide) fun _ => Nat.le_of_ble_eq_true rfl

theorem cancel (p : PortId) (handle : Word16) : Statement (.cancel p handle) :=
  of_some rfl (by decide) fun _ => Nat.le_of_ble_eq_true rfl

theorem handover (p : PortId) (handle : Word16) : Statement (.handover p handle) :=
  of_some rfl (by decide) fun _ => Nat.le_of_ble_eq_true rfl

theorem runnerOn (p : PortId) (runner : Byte) : Statement (.runnerOn p runner) :=
  of_some rfl (by decide) fun _ => Nat.le_of_ble_eq_true rfl

theorem runnerOff (p : PortId) (runner : Byte) : Statement (.runnerOff p runner) :=
  of_some rfl (by decide) fun _ => Nat.le_of_ble_eq_true rfl

theorem readRunner (p : PortId) (runner : Byte) : Statement (.readRunner p runner) :=
  of_some rfl (by decide) fun _ => Nat.le_of_ble_eq_true rfl

theorem queuePeek (p : PortId) : Statement (.queuePeek p) :=
  of_some rfl (by decide) fun _ => Nat.le_of_ble_eq_true rfl

theorem lookupOrder (p : PortId) (handle : Word16) : Statement (.lookupOrder p handle) :=
  of_some rfl (by decide) fun _ => Nat.le_of_ble_eq_true rfl

theorem forceRetireOrder (p : PortId) (handle : Word16) : Statement (.forceRetireOrder p handle) :=
  of_some rfl (by decide) fun _ => Nat.le_of_ble_eq_true rfl

theorem settle (p : PortId) (handle : Word16) (amount : Word24) : Statement (.settle p handle amount) :=
  of_some rfl (by decide) fun _ => Nat.le_of_ble_eq_true rfl

theorem openNight (p : PortId) : Statement (.openNight p) :=
  of_some rfl (by decide) fun _ => Nat.le_of_ble_eq_true rfl

theorem closeNight (p : PortId) : Statement (.closeNight p) :=
  of_some rfl (by decide) fun _ => Nat.le_of_ble_eq_true rfl

theorem forceClose (p : PortId) : Statement (.forceClose p) :=
  of_some rfl (by decide) fun _ => Nat.le_of_ble_eq_true rfl

theorem readTotals (p : PortId) : Statement (.readTotals p) :=
  of_some rfl (by decide) fun _ => Nat.le_of_ble_eq_true rfl

theorem setRestPlan (p : PortId) (plan : Byte) : Statement (.setRestPlan p plan) :=
  of_some rfl (by decide) fun _ => Nat.le_of_ble_eq_true rfl

theorem rest (p : PortId) : Statement (.rest p) :=
  of_some rfl (by decide) fun _ => Nat.le_of_ble_eq_true rfl

theorem wake (p : PortId) (domain : Byte) : Statement (.wake p domain) :=
  of_some rfl (by decide) fun _ => Nat.le_of_ble_eq_true rfl

theorem readDomains (p : PortId) : Statement (.readDomains p) :=
  of_some rfl (by decide) fun _ => Nat.le_of_ble_eq_true rfl

theorem domainInputChange (domain : Fin 8) (input : DomainInput) (high : Bool) : Statement (.domainInputChange domain input high) :=
  of_none rfl

theorem domainLevelChange (domain : Fin 8) (input : DomainInput) : Statement (.domainLevelChange domain input) :=
  of_none rfl

theorem acknowledgeTimerExpiry (domain : Fin 8) : Statement (.acknowledgeTimerExpiry domain) :=
  of_none rfl

theorem wakeTimerExpiry (domain : Fin 8) : Statement (.wakeTimerExpiry domain) :=
  of_none rfl

theorem storeRead (p : PortId) (area unit : Byte) : Statement (.storeRead p area unit) :=
  of_some rfl (by decide) fun _ => Nat.le_of_ble_eq_true rfl

theorem storeProgram (p : PortId) (area unit : Byte) (content : List Byte) : Statement (.storeProgram p area unit content) :=
  of_some rfl (by decide) (by
    intro h
    have h := of_decide_eq_true (Bool.and_eq_true_iff.mp h).1
    simp only [Instr.variableLength] at h
    simp only [List.length_cons]
    omega)

theorem storeProgramComplete : Statement .storeProgramComplete :=
  of_none rfl

theorem storeErase (p : PortId) (area : Byte) : Statement (.storeErase p area) :=
  of_some rfl (by decide) fun _ => Nat.le_of_ble_eq_true rfl

theorem storeEraseComplete : Statement .storeEraseComplete :=
  of_none rfl

theorem storeStatus (p : PortId) : Statement (.storeStatus p) :=
  of_some rfl (by decide) fun _ => Nat.le_of_ble_eq_true rfl

end Sys2Proof.Laws.Carried
end

