-- ==== Sys2Proof/Laws/Resets.lean ====
section
/-!
SUPPORT. What the record memory check of the start-up check does to one slot and to the tables (R207), and what the
tone detector finds (R107).
-/

namespace Sys2Proof.Machine

open Sys2Proof

/-! ## One slot -/

section
variable {α : Type} (x : α) (slot : Slot α)

@[simp] theorem Slot.write_content : (slot.write x).content = x := rfl
@[simp] theorem Slot.write_health : (slot.write x).health = slot.flaws.headD .clean := rfl
@[simp] theorem Slot.write_flaws : (slot.write x).flaws = slot.flaws.tail := rfl
@[simp] theorem Slot.write_marked : (slot.write x).marked = slot.marked := rfl

/-- Whether a slot fails depends on its next flaw alone. -/
theorem Slot.fails_eq : slot.fails x = decide (slot.flaws.headD .clean ≠ .clean) := rfl

/-- A slot that reads back clean is written once. -/
theorem Slot.check_of_clean (h : slot.flaws.headD .clean = .clean) : slot.check x = slot.write x :=
  if_pos h

/-- A failing slot is written twice. -/
theorem Slot.check_of_failing (h : slot.flaws.headD .clean ≠ .clean) :
    slot.check x = (slot.write x).write x :=
  if_neg h

end

/-! ## The tables -/

section
variable (m : RecordMemory)

@[simp] theorem RecordMemory.check_admissions (a : Fin 1024) :
    m.check.admissions[a] = m.admissions[a].check Admission.freePattern := by simp [RecordMemory.check]

@[simp] theorem RecordMemory.check_orders (o : Fin 256) :
    m.check.orders[o] = m.orders[o].check Order.freePattern := by simp [RecordMemory.check]

@[simp] theorem RecordMemory.check_stalls (i : Fin 1024) :
    m.check.stalls[i] = m.stalls[i].check Stall.unusedPattern := by simp [RecordMemory.check]

end

/-! ## The tone detector -/

/-- The pair of each key, a single tone, silence, and two tones of one group. -/
theorem findingOf_cases :
    (∀ (i : Fin 4) (j : Fin 3), findingOf ⟨1 <<< i.val, 1 <<< j.val⟩ = .pair (keyOfTones i j)) ∧
    (∀ i : Fin 4, findingOf ⟨1 <<< i.val, 0⟩ = .noPair) ∧
    (∀ j : Fin 3, findingOf ⟨0, 1 <<< j.val⟩ = .noPair) ∧ findingOf ⟨0, 0⟩ = .noPair ∧
    (∀ (i k : Fin 4) (h : BitVec 3), i ≠ k → findingOf ⟨1 <<< i.val ||| 1 <<< k.val, h⟩ = .clash) ∧
    (∀ (j k : Fin 3) (l : BitVec 4), j ≠ k → findingOf ⟨l, 1 <<< j.val ||| 1 <<< k.val⟩ = .clash) := by
  decide +kernel

end Sys2Proof.Machine
end

