-- ==== Sys2Proof/Laws/Site.lean ====
section
/-!
SUPPORT. The frames of the operations of shows, sounds, displays, windows, domains and orders: what each of them may
change, said once.
-/

namespace Sys2Proof.Machine

open Sys2Proof

/-! ## What the shows, sounds and displays may change -/

/-- `t` differs from `s` at most in the shows, the channels, the displays, the windows, the night, the store and the
booth port. -/
def State.showFrame (s t : State) : Prop :=
  t = { s with
    booth := t.booth, shows := t.shows, chans := t.chans, disp := t.disp, night := t.night, store := t.store
    ords := { s.ords with windows := t.ords.windows } }

theorem showFrame_refl (s : State) : s.showFrame s := rfl

theorem showFrame_trans {s t u : State} (h : s.showFrame t) (k : t.showFrame u) : s.showFrame u := by
  unfold State.showFrame at *
  rw [k, h]

theorem showFrame_pending {s t : State} (h : s.showFrame t) : t.pending = s.pending := by rw [h]
theorem showFrame_sys {s t : State} (h : s.showFrame t) : t.sys = s.sys := by rw [h]
theorem showFrame_counter {s t : State} (h : s.showFrame t) : t.counter = s.counter := by rw [h]
theorem showFrame_mem {s t : State} (h : s.showFrame t) : t.mem = s.mem := by rw [h]
theorem showFrame_mon {s t : State} (h : s.showFrame t) : t.mon = s.mon := by rw [h]
theorem showFrame_lot {s t : State} (h : s.showFrame t) : t.lot = s.lot := by rw [h]
theorem showFrame_gate {s t : State} (h : s.showFrame t) : t.gate = s.gate := by rw [h]
theorem showFrame_posts {s t : State} (h : s.showFrame t) : t.posts = s.posts := by rw [h]
theorem showFrame_doms {s t : State} (h : s.showFrame t) : t.doms = s.doms := by rw [h]
theorem showFrame_ords {s t : State} (h : s.showFrame t) :
    t.ords = { s.ords with windows := t.ords.windows } := by
  rw [State.showFrame] at h
  exact congrArg State.ords h

/-- An operation that keeps the frame, done for each entry of a list, keeps it. -/
theorem each_showFrame {α : Type} {f : α → State → State} (h : ∀ (a : α) (s : State), s.showFrame (f a s)) (l : List α)
    (s : State) : s.showFrame (s.each l f) := by
  unfold State.each
  induction l generalizing s with
  | nil => rfl
  | cons a rest ih => exact showFrame_trans (h a s) (ih (f a s))

theorem raiseBooth_showFrame (s : State) (k : BoothKind) : s.showFrame (s.raiseBooth k) := rfl
theorem modScreen_showFrame (s : State) (n : Fin 6) (f : Screen → Screen) : s.showFrame (s.modScreen n f) := rfl
theorem modSound_showFrame (s : State) (n : Fin 6) (f : SoundRecord → SoundRecord) :
    s.showFrame (s.modSound n f) := rfl
theorem setChannel_showFrame (s : State) (c : Fin 12) (x : ChannelState) : s.showFrame (s.setChannel c x) := rfl
theorem quarantine_showFrame (s : State) (c : Fin 12) : s.showFrame (s.quarantine c) := rfl

theorem showSound_showFrame (s : State) (n : Fin 6) : s.showFrame (s.showSound n) :=
  each_showFrame (fun _ _ => by exact rfl) _ _

theorem showLamp_showFrame (s : State) (n : Fin 6) : s.showFrame (s.showLamp n) :=
  each_showFrame (fun _ _ => by exact rfl) _ _

theorem queueRows_showFrame (s : State) (n : Fin 6) : s.showFrame (s.queueRows n) :=
  each_showFrame (fun _ _ => by exact rfl) _ _

theorem showAllWords_showFrame (s : State) : s.showFrame s.showAllWords :=
  each_showFrame (fun _ _ => by exact rfl) _ _

theorem recomputeWindow_showFrame (n : Fin 6) (s : State) : s.showFrame (s.recomputeWindow n) := by
  unfold State.recomputeWindow
  dsimp only
  split
  · rfl
  · exact showFrame_trans (by exact rfl) (showLamp_showFrame _ n)

theorem recomputeWindows_showFrame (s : State) : s.showFrame s.recomputeWindows :=
  each_showFrame recomputeWindow_showFrame _ _

theorem closeNight_showFrame (s : State) : s.showFrame s.closeNight :=
  showFrame_trans (by exact rfl) (recomputeWindows_showFrame _)

theorem examineClose_showFrame (s : State) : s.showFrame s.examineClose := by
  unfold State.examineClose
  split
  · exact closeNight_showFrame s
  · rfl

theorem setShow_showFrame (s : State) (n : Fin 6) (x : ShowState) : s.showFrame (s.setShow n x) := by
  unfold State.setShow
  split
  · rfl
  · exact showFrame_trans (by exact rfl) (recomputeWindow_showFrame n _)

theorem addHold_showFrame (s : State) (n : Fin 6) (r : HoldReason) : s.showFrame (s.addHold n r) := by
  unfold State.addHold
  split
  · exact showFrame_trans (by exact rfl) (setShow_showFrame _ n _)
  · rfl

theorem removeHold_showFrame (s : State) (n : Fin 6) (r : HoldReason) : s.showFrame (s.removeHold n r) := by
  unfold State.removeHold
  dsimp only
  split
  · split
    · exact showFrame_trans (by exact rfl) (setShow_showFrame _ n _)
    · rfl
  · rfl

theorem enterSegment_showFrame (s : State) (n : Fin 6) (k : Nat) : s.showFrame (s.enterSegment n k) := by
  unfold State.enterSegment
  dsimp only
  split
  · exact showFrame_trans (by exact rfl) (setShow_showFrame _ n _)
  · rfl

theorem beginShow_showFrame (s : State) (n : Fin 6) : s.showFrame (s.beginShow n) := by
  unfold State.beginShow
  dsimp only
  have h : ∀ f : Screen → Screen, s.showFrame ((s.modScreen n f).enterSegment n 1) :=
    fun f => showFrame_trans (by exact rfl) (enterSegment_showFrame _ n 1)
  split
  · exact showFrame_trans (h _) (addHold_showFrame _ n _)
  · exact h _

theorem examineStart_showFrame (n : Fin 6) (s : State) : s.showFrame (s.examineStart n) := by
  unfold State.examineStart
  dsimp only
  have h : ∀ (f : Screen → Screen) (x : ShowState), s.showFrame ((s.modScreen n f).setShow n x) :=
    fun f x => showFrame_trans (by exact rfl) (setShow_showFrame _ n x)
  split
  · split
    · exact showFrame_trans (h _ _) (beginShow_showFrame _ n)
    · exact h _ _
  · rfl

theorem abandonStart_showFrame (s : State) (n : Fin 6) : s.showFrame (s.abandonStart n) := by
  unfold State.abandonStart
  split
  · exact showFrame_trans (showFrame_trans (by exact rfl) (setShow_showFrame _ n _)) (examineStart_showFrame n _)
  · rfl

theorem domainLost_showFrame (s : State) (n : Fin 6) : s.showFrame (s.domainLost n) :=
  showFrame_trans (abandonStart_showFrame s n) (addHold_showFrame _ n _)

theorem soundTaken_showFrame (s : State) (n : Fin 6) : s.showFrame (s.soundTaken n) := by
  unfold State.soundTaken
  split
  · split
    · exact examineStart_showFrame n s
    · exact removeHold_showFrame s n _
    · rfl
  · exact examineStart_showFrame n s
  · exact domainLost_showFrame s n
  · exact domainLost_showFrame s n

theorem setSound_showFrame (s : State) (n : Fin 6) (x : Sound) : s.showFrame (s.setSound n x) :=
  showFrame_trans (showFrame_trans (modSound_showFrame s n _) (soundTaken_showFrame _ n))
    (showSound_showFrame _ n)

theorem takeChannel_showFrame (s : State) (n : Fin 6) (c : Fin 12) : s.showFrame (s.takeChannel n c) :=
  showFrame_trans (setChannel_showFrame s c _) (setSound_showFrame _ n _)

theorem offer_showFrame (s : State) (c : Fin 12) : s.showFrame (s.offer c) := by
  unfold State.offer
  split
  · split
    · exact takeChannel_showFrame s _ c
    · rfl
  · rfl

theorem acquire_showFrame (s : State) (n : Fin 6) : s.showFrame (s.acquire n) := by
  unfold State.acquire
  split
  · exact takeChannel_showFrame s n _
  · exact showFrame_trans (setSound_showFrame s n _) (raiseBooth_showFrame _ _)

theorem giveUp_showFrame (s : State) (n : Fin 6) : s.showFrame (s.giveUp n) := by
  unfold State.giveUp
  dsimp only
  split
  · exact showFrame_trans (showFrame_trans (by exact rfl) (setSound_showFrame _ n _)) (offer_showFrame _ _)
  · rename_i c next cause _
    have h : s.showFrame ((((s.setChannel c .free).setChannel next .free).modSound n fun r =>
        { r with announceTimer := none }).setSound n .off) :=
      showFrame_trans (by exact rfl) (setSound_showFrame _ n _)
    split
    · exact showFrame_trans h (showFrame_trans (offer_showFrame _ _) (offer_showFrame _ _))
    · exact showFrame_trans h (showFrame_trans (offer_showFrame _ _) (offer_showFrame _ _))
  · exact setSound_showFrame s n _
  · rfl

theorem updateWanting_showFrame (n : Fin 6) (s : State) : s.showFrame (s.updateWanting n) := by
  unfold State.updateWanting
  split
  · rfl
  · split
    · exact showFrame_trans (by exact rfl) (acquire_showFrame _ n)
    · exact showFrame_trans (by exact rfl) (giveUp_showFrame _ n)

theorem announceChannel_showFrame (s : State) (n : Fin 6) (c next : Fin 12) (x : RetuneCause) :
    s.showFrame (s.announceChannel n c next x) :=
  showFrame_trans (by exact rfl) (setSound_showFrame _ n _)

theorem loseSound_showFrame (s : State) (n : Fin 6) (c : Fin 12) : s.showFrame (s.loseSound n c) :=
  showFrame_trans (showFrame_trans (by exact rfl) (setSound_showFrame _ n _)) (raiseBooth_showFrame _ _)

theorem carrierFaultAt_showFrame (s : State) (n : Fin 6) : s.showFrame (s.carrierFaultAt n) := by
  unfold State.carrierFaultAt
  split
  · split
    · exact announceChannel_showFrame s n _ _ _
    · exact loseSound_showFrame s n _
  · rfl
  · rfl
  · rfl

theorem announcedQuarantined_showFrame (s : State) (n : Fin 6) (c next : Fin 12) (x : RetuneCause) :
    s.showFrame (s.announcedQuarantined n c next x) := by
  unfold State.announcedQuarantined
  dsimp only
  split
  · exact showFrame_trans (by exact rfl) (announceChannel_showFrame _ n _ _ _)
  · cases x
    · exact showFrame_trans (showFrame_trans (by exact rfl) (setSound_showFrame _ n _)) (raiseBooth_showFrame _ _)
    · exact showFrame_trans (by exact rfl) (loseSound_showFrame _ n c)

theorem switchChannel_showFrame (s : State) (n : Fin 6) (c next : Fin 12) (x : RetuneCause) :
    s.showFrame (s.switchChannel n c next x) := by
  unfold State.switchChannel
  dsimp only
  cases x
  · exact showFrame_trans (showFrame_trans (showFrame_trans (by exact rfl) (setSound_showFrame _ n _))
      (offer_showFrame _ c)) (raiseBooth_showFrame _ _)
  · exact showFrame_trans (showFrame_trans (by exact rfl) (setSound_showFrame _ n _)) (raiseBooth_showFrame _ _)

theorem goDark_showFrame (s : State) (n : Fin 6) : s.showFrame (s.goDark n) :=
  showFrame_trans (showFrame_trans (showFrame_trans (by exact rfl) (setShow_showFrame _ n _))
    (updateWanting_showFrame n _)) (examineClose_showFrame _)

theorem examineEnded_showFrame (s : State) (n : Fin 6) : s.showFrame (s.examineEnded n) := by
  unfold State.examineEnded
  split
  · exact goDark_showFrame s n
  · rfl

theorem endShow_showFrame (s : State) (n : Fin 6) : s.showFrame (s.endShow n) :=
  showFrame_trans (showFrame_trans (by exact rfl) (setShow_showFrame _ n _)) (examineEnded_showFrame _ n)

theorem tearScreen_showFrame (n : Fin 6) (s : State) : s.showFrame (s.tearScreen n) :=
  showFrame_trans (by exact rfl) (setShow_showFrame _ n _)

theorem tearSound_showFrame (n : Fin 6) (s : State) : s.showFrame (s.tearSound n) :=
  showFrame_trans (by exact rfl) (setSound_showFrame _ n _)

/-! ## What a change of a domain may change -/

/-- `t` differs from `s` at most in what `showFrame` allows, the posts and the domains. -/
def State.domainFrame (s t : State) : Prop :=
  t = { s with
    booth := t.booth, shows := t.shows, chans := t.chans, disp := t.disp, night := t.night, store := t.store
    posts := t.posts, doms := t.doms, ords := { s.ords with windows := t.ords.windows } }

theorem domainFrame_trans {s t u : State} (h : s.domainFrame t) (k : t.domainFrame u) : s.domainFrame u := by
  unfold State.domainFrame at *
  rw [k, h]

theorem showFrame_domainFrame {s t : State} (h : s.showFrame t) : s.domainFrame t := by
  unfold State.showFrame at h
  unfold State.domainFrame
  rw [h]

theorem domainFrame_sys {s t : State} (h : s.domainFrame t) : t.sys = s.sys := by rw [h]
theorem domainFrame_mem {s t : State} (h : s.domainFrame t) : t.mem = s.mem := by rw [h]
theorem domainFrame_lot {s t : State} (h : s.domainFrame t) : t.lot = s.lot := by rw [h]
theorem domainFrame_gate {s t : State} (h : s.domainFrame t) : t.gate = s.gate := by rw [h]

theorem each_domainFrame {α : Type} {f : α → State → State} (h : ∀ (a : α) (s : State), s.domainFrame (f a s)) (l : List α)
    (s : State) : s.domainFrame (s.each l f) := by
  unfold State.each
  induction l generalizing s with
  | nil => rfl
  | cons a rest ih => exact domainFrame_trans (h a s) (ih (f a s))

theorem takePresent_domainFrame (r : Fin 48) (s : State) : s.domainFrame (s.takePresent r) := by
  unfold State.takePresent
  split <;> rfl

theorem reportLost_domainFrame (d : Fin 8) (s : State) : s.domainFrame (s.reportLost d) := by
  unfold State.reportLost
  split
  · rename_i n _
    exact domainFrame_trans (showFrame_domainFrame
      (showFrame_trans (domainLost_showFrame s n) (updateWanting_showFrame n _)))
      (each_domainFrame (fun _ _ => by exact rfl) _ _)
  · split
    · exact showFrame_domainFrame (recomputeWindows_showFrame s)
    · rfl

theorem reportGained_domainFrame (d : Fin 8) (s : State) : s.domainFrame (s.reportGained d) := by
  unfold State.reportGained
  split
  · rename_i n _
    exact domainFrame_trans (domainFrame_trans (showFrame_domainFrame
      (showFrame_trans (examineStart_showFrame n s) (updateWanting_showFrame n _)))
      (each_domainFrame takePresent_domainFrame _ _)) (showFrame_domainFrame (queueRows_showFrame _ n))
  · split
    · exact showFrame_domainFrame (recomputeWindows_showFrame s)
    · rfl

theorem domainActive_domainFrame (d : Fin 8) (s : State) : s.domainFrame (s.domainActive d) :=
  domainFrame_trans (by exact rfl) (reportGained_domainFrame d _)

theorem examineDomain_domainFrame (d : Fin 8) (s : State) : s.domainFrame (s.examineDomain d) := by
  unfold State.examineDomain
  split
  · exact domainFrame_trans (domainActive_domainFrame d s) rfl
  · rfl

theorem domainWaking_domainFrame (d : Fin 8) (s : State) : s.domainFrame (s.domainWaking d) :=
  domainFrame_trans (by exact rfl) (examineDomain_domainFrame d _)

theorem domainReturn_domainFrame (d : Fin 8) (s : State) : s.domainFrame (s.domainReturn d) := by
  unfold State.domainReturn
  split
  · exact domainActive_domainFrame d s
  · exact domainWaking_domainFrame d s

theorem domainStopping_domainFrame (d : Fin 8) (s : State) : s.domainFrame (s.domainStopping d) := by
  unfold State.domainStopping
  dsimp only
  split
  · exact domainFrame_trans (by exact rfl) (reportLost_domainFrame d _)
  · rfl

theorem domainFaulted_domainFrame (d : Fin 8) (s : State) : s.domainFrame (s.domainFaulted d) := by
  unfold State.domainFaulted
  dsimp only
  split
  · exact domainFrame_trans (by exact rfl) (reportLost_domainFrame d _)
  · rfl

theorem endRest_domainFrame (d : Fin 8) (s : State) : s.domainFrame (s.endRest d) := by
  unfold State.endRest
  split
  · exact domainReturn_domainFrame d s
  · exact domainWaking_domainFrame d s
  · rfl
  · rfl
  · rfl

theorem examineStatus_domainFrame (s : State) : s.domainFrame s.examineStatus := by
  unfold State.examineStatus
  split <;> rfl

theorem withdrawRest_domainFrame (n : Fin 6) (s : State) : s.domainFrame (s.withdrawRest n) := by
  unfold State.withdrawRest
  dsimp only
  split
  · exact domainFrame_trans (by exact rfl) (endRest_domainFrame _ _)
  · exact domainFrame_trans (by exact rfl) (endRest_domainFrame _ _)
  · rfl
  · rfl
  · rfl

theorem leaveDark_domainFrame (n : Fin 6) (s : State) : s.domainFrame (s.leaveDark n) :=
  domainFrame_trans (domainFrame_trans (showFrame_domainFrame (setShow_showFrame s n _))
    (withdrawRest_domainFrame n _)) (showFrame_domainFrame (updateWanting_showFrame n _))

theorem applyPlan_domainFrame (d : Fin 8) (s : State) : s.domainFrame (s.applyPlan d) := by
  unfold State.applyPlan
  dsimp only
  split
  all_goals first
    | exact domainStopping_domainFrame d s
    | exact endRest_domainFrame d s
    | rfl

/-! ## What the retirement of an order may change -/

/-- `t` differs from `s` at most in the record memory, the monitor, the ports, the displays, the night, the store, and
the queue, runners, windows and tab clears of the order table. -/
def State.orderFrame (s t : State) : Prop :=
  t = { s with
    mem := t.mem, mon := t.mon, booth := t.booth, counter := t.counter, disp := t.disp, night := t.night
    store := t.store
    ords := { s.ords with
      kitchen := t.ords.kitchen, runners := t.ords.runners, windows := t.ords.windows
      tabClears := t.ords.tabClears } }

theorem orderFrame_trans {s t u : State} (h : s.orderFrame t) (k : t.orderFrame u) : s.orderFrame u := by
  unfold State.orderFrame at *
  rw [k, h]

theorem readFrame_orderFrame {s t : State} (h : s.readFrame t) : s.orderFrame t := by
  unfold State.readFrame at h
  unfold State.orderFrame
  rw [h]

theorem orderFrame_gate {s t : State} (h : s.orderFrame t) : t.gate = s.gate := by rw [h]
theorem orderFrame_lot {s t : State} (h : s.orderFrame t) : t.lot = s.lot := by rw [h]
theorem orderFrame_shows {s t : State} (h : s.orderFrame t) : t.shows = s.shows := by rw [h]
theorem orderFrame_chans {s t : State} (h : s.orderFrame t) : t.chans = s.chans := by rw [h]
theorem orderFrame_posts {s t : State} (h : s.orderFrame t) : t.posts = s.posts := by rw [h]
theorem orderFrame_doms {s t : State} (h : s.orderFrame t) : t.doms = s.doms := by rw [h]
theorem orderFrame_sys {s t : State} (h : s.orderFrame t) : t.sys = s.sys := by rw [h]

theorem each_orderFrame {α : Type} {f : α → State → State} (h : ∀ (a : α) (s : State), s.orderFrame (f a s)) (l : List α)
    (s : State) : s.orderFrame (s.each l f) := by
  unfold State.each
  induction l generalizing s with
  | nil => rfl
  | cons a rest ih => exact orderFrame_trans (h a s) (ih (f a s))

theorem showLamp_orderFrame (s : State) (n : Fin 6) : s.orderFrame (s.showLamp n) :=
  each_orderFrame (fun _ _ => by exact rfl) _ _

theorem recomputeWindow_orderFrame (n : Fin 6) (s : State) : s.orderFrame (s.recomputeWindow n) := by
  unfold State.recomputeWindow
  dsimp only
  split
  · rfl
  · exact orderFrame_trans (by exact rfl) (showLamp_orderFrame _ n)

theorem examineClose_orderFrame (s : State) : s.orderFrame s.examineClose := by
  unfold State.examineClose State.closeNight
  split
  · exact orderFrame_trans (by exact rfl) (each_orderFrame recomputeWindow_orderFrame _ _)
  · rfl

theorem retireOrder_orderFrame (k : Fin 256) (s : State) : s.orderFrame (s.retireOrder k) :=
  orderFrame_trans (orderFrame_trans (by exact rfl) (readFrame_orderFrame (retireOrderSlot_readFrame _ k)))
    (examineClose_orderFrame _)

theorem examineTab_orderFrame (a : Fin 1024) (s : State) : s.orderFrame (s.examineTab a) := by
  have h := readFrame_orderFrame (readAdm_readFrame s a)
  unfold State.examineTab
  generalize s.readAdm a = r at *
  obtain ⟨x, u⟩ := r
  cases x with
  | none => exact h
  | some x =>
    dsimp only
    split
    · split
      · exact orderFrame_trans h rfl
      · exact h
    · exact h

theorem deliver_orderFrame (k : Fin 256) (x : Order) (s : State) : s.orderFrame (s.deliver k x) := by
  unfold State.deliver
  dsimp only
  split
  · exact orderFrame_trans (orderFrame_trans (by exact rfl) (retireOrder_orderFrame k _)) (examineTab_orderFrame _ _)
  · exact orderFrame_trans (by exact rfl) (examineTab_orderFrame _ _)

theorem cancelPlaced_orderFrame (a : Fin 1024) (k : Fin 256) (s : State) :
    s.orderFrame (s.cancelPlaced a k) :=
  orderFrame_trans (by exact rfl) (retireOrder_orderFrame k _)

theorem payOrders_orderFrame (a : Fin 1024) (orders : List (Fin 256 × Order)) (s : State) :
    s.orderFrame (s.payOrders a orders) := by
  have h : ∀ (o : Fin 256 × Order) (s : State), s.orderFrame ((s.leaveList a o.1).retireOrder o.1) :=
    fun o s => orderFrame_trans (readFrame_orderFrame (writeAdm_readFrame s a _)) (retireOrder_orderFrame o.1 _)
  have w : ∀ (o : Fin 256 × Order) (s : State),
      s.orderFrame (s.writeOrder o.1 fun x => { x with paid := true }) :=
    fun o s => readFrame_orderFrame (writeOrder_readFrame s o.1 _)
  unfold State.payOrders
  exact orderFrame_trans (each_orderFrame w (orders.filter fun o => o.2.state.charged) s) (each_orderFrame h _ _)

theorem exitOrders_orderFrame (a : Fin 1024) (orders : List (Fin 256 × Order)) (s : State) :
    s.orderFrame (s.exitOrders a orders) := by
  have h : ∀ (o : Fin 256 × Order) (s : State), s.orderFrame (s.cancelPlaced a o.1) :=
    fun o s => cancelPlaced_orderFrame a o.1 s
  have w : ∀ (o : Fin 256 × Order) (s : State),
      s.orderFrame (s.writeOrder o.1 fun x => { x with collect := true }) :=
    fun o s => readFrame_orderFrame (writeOrder_readFrame s o.1 _)
  unfold State.exitOrders
  exact orderFrame_trans (each_orderFrame h (orders.filter fun o => o.2.state = .placed) s)
    (each_orderFrame w _ _)

end Sys2Proof.Machine
end

