-- ==== Sys2Proof/Laws/Store.lean ====
section
/-!
SUPPORT. What the operations of the standing store and of the row display bus can do.
-/

namespace Sys2Proof.Machine

open Sys2Proof

/-! ## Units (R183, R184, R190) -/

variable (b : Vector Byte 16) (u : StoreUnit) (w : BitVec 137)

@[simp] theorem StoreUnit.write_stored : (u.write b).stored = turnBits (u.flaws.headD 0) b := rfl
@[simp] theorem StoreUnit.write_check :
    (u.write b).check = Config.storeCheck b ^^^ (u.flaws.headD 0).extractLsb' 128 9 := rfl
@[simp] theorem StoreUnit.write_wrong : (u.write b).wrong = u.flaws.headD 0 := rfl
@[simp] theorem StoreUnit.write_flaws : (u.write b).flaws = u.flaws.tail := rfl

/-- Turning the same bits over twice changes nothing. -/
@[simp] theorem turnBits_turnBits : turnBits w (turnBits w b) = b := by
  ext i hi
  simp [turnBits]

@[simp] theorem turnBits_zero : turnBits 0 b = b := by
  ext i hi
  simp [turnBits]

/-- A unit with no wrong bit reads its content as stored (R184). -/
theorem StoreUnit.bytes_of_clean (h : u.health = .clean) : u.bytes = u.stored := by
  simp [StoreUnit.bytes, h]

/-- A unit with two wrong bits reads its bytes as stored (R184). -/
theorem StoreUnit.bytes_of_double (h : u.health = .double) : u.bytes = u.stored := by
  simp [StoreUnit.bytes, h]

theorem StoreUnit.health_eq_clean : u.health = .clean ↔ u.wrong = 0 := by
  unfold StoreUnit.health
  by_cases h : u.wrong = 0
  · simp [h]
  · rw [if_neg h]
    split <;> simpa using h

/-- One wrong bit is a single error (R184). -/
theorem StoreUnit.health_of_one (k : Nat) (hk : k < 137) (h : u.wrong = 1#137 <<< k) : u.health = .single := by
  have one : ∀ j : Fin 137, 1#137 <<< j.val ≠ 0 ∧ ones (1#137 <<< j.val) = 1 := by decide +kernel
  obtain ⟨h0, h1⟩ := one ⟨k, hk⟩
  rw [StoreUnit.health, h, if_neg h0, if_pos h1]

/-- Two wrong bits are a double error (R184). -/
theorem StoreUnit.health_of_two (j k : Nat) (hjk : j < k) (hk : k < 137) (hj : u.wrong.getLsbD j = true)
    (hb : u.wrong.getLsbD k = true) : u.health = .double := by
  have two : 2 ≤ ones u.wrong := by
    rw [ones, List.countP_eq_length_filter]
    have hs : [j, k] ⊆ (List.range 137).filter fun i => u.wrong.getLsbD i := by
      simp [hj, hb, hk, hjk.trans hk]
    exact (List.Nodup.subperm (by simp [hjk.ne]) hs).length_le
  have h0 : u.wrong ≠ 0 := by
    intro h
    simp [h] at hj
  rw [StoreUnit.health, if_neg h0, if_neg (by omega)]

/-- A unit written reads what was written, unless the write leaves two bits wrong (R190). -/
theorem StoreUnit.bytes_write (h : (u.write b).health ≠ .double) : (u.write b).bytes = b := by
  cases hh : (u.write b).health with
  | clean =>
    rw [StoreUnit.bytes_of_clean _ hh]
    have hw := (StoreUnit.health_eq_clean _).1 hh
    rw [StoreUnit.write_wrong] at hw
    rw [StoreUnit.write_stored, hw, turnBits_zero]
  | single => simp [StoreUnit.bytes, hh]
  | double => exact absurd hh h

/-- What a write that leaves no bit wrong makes a unit read: ERASED for the erased pattern, PROGRAMMED for any other
content (R184, R190). -/
theorem StoreUnit.status_write (h : u.flaws.headD 0 = 0) :
    (u.write b).status = if b = erasedBytes then .erased else .programmed := by
  have hh : (u.write b).health = .clean := (StoreUnit.health_eq_clean _).2 h
  have hb : (u.write b).bytes = b := StoreUnit.bytes_write b u (by simp [hh])
  simp [StoreUnit.status, hh, hb]

/-- The check code of the erased pattern is every bit one (R183). -/
theorem storeCheck_erased : Config.storeCheck erasedBytes = 0x1FF := by
  simp [Config.storeCheck, erasedBytes]

/-! ## Reads (R184) -/

/-- A read of a unit changes the monitor and the booth port only. -/
theorem State.readUnit_frame (area : Fin 6) (unit : Fin 64) (s : State) :
    (s.readUnit area unit).2 =
      { s with mon := (s.readUnit area unit).2.mon, booth := (s.readUnit area unit).2.booth } := by
  unfold State.readUnit
  dsimp only
  split <;> rfl

/-- Reads of units in order change the monitor and the booth port only. -/
theorem State.readUnits_frame (l : List (Fin 384)) (s : State) :
    s.readUnits l = { s with mon := (s.readUnits l).mon, booth := (s.readUnits l).booth } := by
  unfold State.readUnits
  induction l generalizing s with
  | nil => rfl
  | cons i l ih =>
    simp only [State.each, List.foldl_cons] at ih ⊢
    rw [ih, State.readUnit_frame]

/-! ## The row display bus (R206, R210) -/

/-- Between words RD_CLK rests high. -/
theorem Display.rdClk_idle (d : Display) (h : d.bus = none) : d.rdClk = true := by simp [Display.rdClk, h]

/-- Between words RD_DAT holds its level. -/
theorem Display.rdDat_idle (d : Display) (h : d.bus = none) : d.rdDat = d.dat := by simp [Display.rdDat, h]

end Sys2Proof.Machine
end

