-- ==== Sys2Proof/Tests/Slice0.lean ====
section
/-!
SUPPORT. Tests of the model: the ill-formed terms that each check refuses, commands read from their bytes, single
steps on small states, and for every statement that has hypotheses a state and operands that meet them, clause by
clause.
-/

namespace Sys2Proof.Tests

open Sys2Proof Sys2Proof.Machine

set_option Elab.async false

/-! ## Small states -/

/-- The state that one command leaves. -/
def run (c : Instr) (s : State) : State :=
  match exec c s with
  | .next t => t
  | .fault _ => s
  | .refused _ => s

/-- The status and data of a port's pending answer. -/
def ans (p : PortId) (s : State) : Option (Status × List Byte) := (s.port p).answer.map fun a => (a.status, a.data)

/-- The status of a port's pending answer. -/
def status (p : PortId) (s : State) : Option Status := (ans p s).map Prod.fst

/-- The part running, with every domain ACTIVE. -/
def up : State :=
  { State.reset with
    sys := { State.reset.sys with phase := .running }
    doms := { State.reset.doms with
      domains := State.reset.doms.domains.map fun d =>
        { d with state := .active, ready := { raw := true, level := true, timer := none } } } }

/-- The start-up check under way. -/
def checking : State := State.reset.modSys fun y => { y with phase := .checking, checkTimer := some 250 }

/-- A PART_RESET waiting. -/
def waiting : State := up.modSys fun y => { y with resetWaiting := true }

/-- Three rows of pattern B (R21): two STANDARD rows of 40 stalls and a HIGH row of 24. -/
def field : Field :=
  { rowCount := 3, pattern := .b, home := 2, capacity := 1, ordersDuringFeature := true, stallCount := 104,
    firstIndex := 0 }

/-- A night OPEN with a field on screen 1, its first two stalls written, lane 1 an ENTRY lane and lane 2 an EXIT lane
with a car at each, and screen 1 in PRESHOW. -/
def site : State :=
  { up with
    lot := { LotMap.reset with
      fields := #v[some field, none, none, none, none, none]
      tallies := upd LotMap.reset.tallies 0 fun _ => freeTallies (some field) }
    mem := { up.mem with
      stalls := upd (upd up.mem.stalls 0 fun x => { x with content := field.stall 0 1 }) 1
        fun x => { x with content := field.stall 0 2 } }
    gate := { up.gate with
      lanes := #v[{ Lane.reset false false false with role := .entry, state := .present },
        { Lane.reset false false false with role := .exit, state := .present },
        Lane.reset false false false, Lane.reset false false false] }
    night := { up.night with state := .opened, secondTimer := some 1000 }
    shows := { up.shows with screens := upd up.shows.screens 0 fun c => { c with state := .preshow } }
    ords := { up.ords with
      prices := up.ords.prices.set 99 250, windows := up.ords.windows.set 0 true }
    posts := { up.posts with rows := upd up.posts.rows 0 fun r => { r with positions := 40 } } }

/-- An admission of a car on screen 1. -/
def car (st : AdmState) (stall : Option Nat) (orders : List OrderHandle) : Admission :=
  { Admission.freePattern with state := st, stall := stall, orders := orders }

/-- A car SEATED in stall 1, its record in slot 0. -/
def parked : State :=
  ((site.createAdm 0 (car .seated (some 1) [])).holdStall 0 0 .occupation).modGate fun g =>
    { g with live := upd g.live 0 (· + 1) }

/-- An order of the car in slot 0, for item 99 once. -/
def order1 (st : OrderState) (paid collect : Bool) : Order :=
  { Order.freePattern with
    state := st, stall := 1, lines := [{ item := 99, quantity := 1 }], amount := 250, paid := paid
    collect := collect, runner := (if st = .running then some 11 else none) }

/-- The car with one order in slot 0: in the kitchen queue while PLACED, on runner 12 while RUNNING. -/
def withOrder (st : OrderState) (paid collect : Bool) : State :=
  let s := (parked.createOrder 0 (order1 st paid collect)).writeAdm 0 fun y =>
    { y with orders := [⟨0, 0⟩], owed := (if st = .placed ∨ paid then 0 else 250) }
  let s := if st = .placed then s.modOrds fun y => { y with kitchen := [0] } else s
  if st = .running then s.modRunner 11 fun r =>
    { r with state := .out, carried := [0], tripStart := some 0, tripTimer := some 900000 } else s

/-- The same state with the record of the car lost. -/
def lost (s : State) : State := s.modAdmSlot 0 fun x => { x with health := .double }

/-- Lane `n` changed by `f`, with the car of `parked` on the lot. -/
def laneWith (n : Fin 4) (f : Lane → Lane) : State := parked.modLane n f

/-- The car ISSUED through lane 1, with its void timer running. -/
def issued : State :=
  (((site.createAdm 0 (car .issued (some 1) [])).holdStall 0 0 .reservation).modGate fun g =>
    { g with live := upd g.live 0 (· + 1) }).modLane 0 fun l =>
      { l with state := .issued, bound := some 0, raise := true, voidTimer := some 60000 }

/-- A car in lane 2 on its way out, in the given lane state. -/
def leaving (st : LaneState) : State :=
  (parked.writeAdm 0 fun x => { x with state := (if st = .paying then .paying else .leaving), exitLane := some 1 }).modLane
    1 fun l => { l with state := st, bound := some 0, returnTimer := (if st = .leaving then some 60000 else none) }

/-- Loop `l` of lane `n` about to be found at the level on its pin. -/
def about (n : Fin 4) (l : Loop) (high : Bool) (s : State) : State :=
  s.modLane n (Lane.modLoop l fun i => { i with raw := high, level := !high, timer := some 0 })

/-- Screen 1 in a show state, with the list and the current segment given. -/
def showing (st : ShowState) (list : List Segment) (k : Option Nat) : State :=
  site.modScreen 0 fun c => { c with state := st, list := list, current := k, remaining := some 60 }

/-- Screen 1 with the given sound, channels 1 to `free` free and permitted. -/
def sounding (x : Sound) (free : Nat) : State :=
  ((site.modChans fun m => { m with
    channels := (Vector.finRange 12).map fun c => { permitted := true, state := (if c.val < free then .free
      else .quarantined 60) } }).modSound 0 fun r => { r with sound := x, wanting := true, chsel := x.code })

/-- Row 1 changed by `f`. -/
def rowWith (f : Row → Row) : State := site.modRow 0 f

/-- Domain `d` in a state, with READY at the given level. -/
def domainWith (d : Fin 8) (st : DomainState) (ready : Bool) (s : State) : State :=
  s.modDomain d fun x =>
    { x with
      state := st, stopReq := st.stopReq
      timer := if st = .stopping ∨ st = .waking then some 1000 else none
      ready := { raw := ready, level := ready, timer := none } }

/-! ## Well-formed commands -/


/-- 44 parameter bytes are the most that a frame carries: nine LOAD_SHOW segments and 21 order lines still fit. -/
theorem test_wf_longest :
    (Instr.loadShow .booth 1 9 (List.replicate 9 0) 0).wf = true ∧
    (Instr.place .booth 1 1 20 (List.replicate 20 ⟨0, 1⟩)).wf = true ∧
    (Instr.dispatch .counter 1 21 (List.replicate 21 0)).wf = true := by decide

theorem test_wf_refuses_too_long :
    (Instr.loadShow .booth 1 10 (List.replicate 10 0) 0).wf = false ∧
    (Instr.place .booth 1 1 21 (List.replicate 21 ⟨0, 1⟩)).wf = false ∧
    (Instr.dispatch .counter 1 22 (List.replicate 22 0)).wf = false := by decide

theorem test_wf_refuses_wrong_count :
    (Instr.loadShow .booth 1 2 [0] 0).wf = false ∧ (Instr.place .booth 1 1 0 [⟨0, 1⟩]).wf = false ∧
    (Instr.dispatch .counter 1 3 [0, 0]).wf = false := by decide

theorem test_wf_refuses_wrong_content :
    (Instr.storeProgram .booth 1 0 (List.replicate 15 0)).wf = false ∧
    (Instr.storeProgram .booth 1 0 (List.replicate 17 0)).wf = false ∧
    (Instr.storeProgram .booth 1 0 (List.replicate 16 0)).wf = true := by decide

/-! ## Commands read from their bytes -/

theorem test_table_word_spells_nothing : decodeTableWord 8 0 = none := by decide

/-- One command of each group of codes, written out from the command summary of chapter 11 and R209. -/
theorem test_decode_commands :
    decodeCommand .counter 0x03 [0x00, 0x00, 0x3F] = some (.setAttentionMask .counter 0x00003F) ∧
    decodeCommand .booth 0x10 [1, 6, 2, 0x01, 0x02] = some (.admitCar .booth 1 6 2 0x0102) ∧
    decodeCommand .booth 0x17 [0x12, 0x34, 1, 4, 0x01, 0x51, 0x7F] =
      some (.repair .booth 0x1234 1 4 0x01517F) ∧
    decodeCommand .booth 0x20 [3, 0x00, 0x68] = some (.closeStall .booth 3 0x0068) ∧
    decodeCommand .booth 0x28 [1, 1, 0x80, 0x3C, 0, 7, 0xFF, 0xFF, 0xFF] =
      some (.loadShow .booth 1 1 [0x803C0007] 0xFFFFFF) ∧
    decodeCommand .booth 0x31 [12] = some (.quarantineChannel .booth 12) ∧
    decodeCommand .booth 0x39 [48] = some (.readRow .booth 48) ∧
    decodeCommand .counter 0x40 [1, 0, 1, 2, 99, 9, 0, 1] =
      some (.place .counter 1 1 2 [⟨99, 9⟩, ⟨0, 1⟩]) ∧
    decodeCommand .counter 0x43 [12, 2, 0, 1, 2, 3] = some (.dispatch .counter 12 2 [0x0001, 0x0203]) ∧
    decodeCommand .counter 0x50 [0, 1, 0, 0, 250] = some (.settle .counter 0x0001 0x0000FA) ∧
    decodeCommand .booth 0x62 [8] = some (.wake .booth 8) ∧
    decodeCommand .booth 0x6A [5] = some (.storeErase .booth 5) := by decide

theorem test_decode_refuses_wrong_length :
    decodeCommand .counter 0x40 [1, 0, 1, 2, 99, 9] = none ∧ decodeCommand .counter 0x41 [0] = none ∧
    decodeCommand .booth 0x69 (0 :: 0 :: List.replicate 15 0) = none ∧ decodeCommand .booth 0x06 [] = none := by
  decide

/-! ## Witnesses: steps, ports and frames -/

theorem witness_PortChecks :
    encodeCommand (.readTotals .counter) = some (.counter, 0x5B, []) ∧ State.reset.sys.phase = .held ∧
    checking.sys.phase = .checking ∧ waiting.sys.phase = .running ∧ waiting.sys.resetWaiting = true ∧
    up.sys.phase = .running ∧ up.sys.resetWaiting = false ∧ takenOn 0x5B .counter = false ∧
    encodeCommand (.storeProgram .booth 5 63 []) = some (.booth, 0x69, [5, 63]) ∧ up.takes .booth 0x69 ∧
    (Instr.storeProgram .booth 5 63 []).wf = false ∧ (0x6B : Byte) ∈ commandCodes := by decide +kernel

theorem witness_CommandBytesRoundTrip :
    let i : Instr := .place .counter 6 0x0140 20 (List.replicate 20 ⟨99, 9⟩)
    let l : List Byte := [6, 0x01, 0x40, 20] ++ (List.replicate 20 [99, 9]).flatten
    encodeCommand i = some (.counter, 0x40, l) ∧ i.wf = true ∧ l.length = 44 := by decide +kernel

/-- A frame on the counter port with these bytes, bits and pending answer. -/
def framed (bytes : List Byte) (bits : List Bool) (edges : Nat) (image : Option Answer) (s : State) : State :=
  s.modPort .counter fun p =>
    { p with link := .inFrame { image := image, bytes := bytes, bits := bits, edges := edges, timer := some 100 } }

theorem witness_FrameTaking :
    (up.port .counter).link = .idle ∧ up.sys.phase ≠ .held ∧
    ((framed [] [] 0 none up).port .counter).link = .inFrame ⟨none, [], [], 0, some 100⟩ ∧
    ((framed [] (List.replicate 6 true) 6 none up).port .counter).link =
      .inFrame ⟨none, [], List.replicate 6 true, 6, some 100⟩ ∧
    ((framed (List.replicate 48 0) (List.replicate 7 true) 391 none up).port .counter).link =
      .inFrame ⟨none, List.replicate 48 0, List.replicate 7 true, 391, some 100⟩ ∧
    ((run (.frameTimerExpiry .counter) (framed [] [] 0 none up)).port .counter).link = .abandoned := by
  decide +kernel

/-- An answer of the greatest length. -/
def longAnswer : Answer := { code := 0x2E, status := .ok, data := List.replicate 45 0xA5 }

theorem witness_FrameSendsPendingAnswer :
    let r (image : Option Answer) (edges : Nat) := (framed [] [] edges image up).counter
    (r none 0).link = .inFrame ⟨none, [], [], 0, some 100⟩ ∧
    (r (some longAnswer) 383).link = .inFrame ⟨some longAnswer, [], [], 383, some 100⟩ ∧
    longAnswer.data.length ≤ 45 ∧ 383 < 8 * (3 + longAnswer.data.length) ∧
    ([longAnswer.code, longAnswer.status.value, BitVec.ofNat 8 longAnswer.data.length] ++ longAnswer.data)[383 / 8]? =
      some 0xA5 ∧
    (r (some longAnswer) 383).dout = true ∧ 8 * (3 + longAnswer.data.length) ≤ 384 ∧
    (r (some longAnswer) 384).dout = false := by decide +kernel

theorem witness_FrameEnds :
    let f (bytes : List Byte) (bits : List Bool) (edges : Nat) : Frame := ⟨none, bytes, bits, edges, some 100⟩
    ((framed [1] [true] 9 none up).port .counter).link = .inFrame (f [1] [true] 9) ∧
    (f [1] [true] 9).edges % 8 ≠ 0 ∧ (f [1] [] 8).edges / 8 = 1 ∧ (f [] [] 0).edges = 0 ∧
    (f [0, 0] [] 16).edges % 8 = 0 ∧ 2 ≤ (f [0, 0] [] 16).edges / 8 ∧
    checking.sys.phase = .checking ∧ waiting.sys.phase = .running ∧ waiting.sys.resetWaiting = true ∧
    (f [0x06, 0] [] 16).code ∉ commandCodes ∧ takenOn (f [0x5B, 0] [] 16).code .counter = false ∧
    (f [0x5B, 0] [] 16).code ∈ commandCodes ∧ (f [0x4B, 0] [] 16).code ∈ commandCodes ∧
    takenOn (f [0x4B, 0] [] 16).code .counter = true ∧ (f [0x4B, 0] [] 16).paramLength = 0 ∧
    decodeCommand .counter 0x4B [] = some (.queuePeek .counter) ∧
    decodeCommand .counter 0x4B [7] = none ∧ (f [0x4B, 45] [] 16).paramLength = 45 ∧
    ¬ (2 + (f [0x4B, 2] [] 16).paramLength ≤ (f [0x4B, 2] [] 16).edges / 8) := by decide +kernel

theorem witness_PortAndReports :
    up.takes .booth 0x00 ∧ up.takes .counter 0x00 ∧ up.takes .booth 0x01 ∧ up.takes .counter 0x01 ∧
    up.takes .booth 0x04 ∧ up.takes .booth 0x08 ∧ up.takes .booth 0x09 := by decide +kernel

theorem witness_AttentionReadAndMask :
    up.takes .booth 0x02 ∧ up.takes .counter 0x02 ∧ up.takes .booth 0x03 ∧ up.takes .counter 0x03 ∧
    (0x040000#24 &&& ~~~(0x03FFFF#24) ≠ 0) ∧ (0x03FFFF#24 &&& ~~~(0x03FFFF#24) = 0) ∧
    (0x000040#24 &&& ~~~(0x00003F#24) ≠ 0) ∧ (0x00003F#24 &&& ~~~(0x00003F#24) = 0) := by decide +kernel

/-- A program of the last unit of the store in flight. -/
def programming : State := up.modStore fun r => { r with op := some (.program 5 63 erasedBytes (some 2)) }

/-- An erase of area 1 in flight. -/
def erasing : State := up.modStore fun r => { r with op := some (.erase 1 (some 300)) }

theorem witness_PartResetMadeOrWaiting :
    up.takes .booth 0x05 ∧ up.store.op = none ∧ programming.takes .booth 0x05 ∧ programming.store.op ≠ none := by
  decide +kernel

theorem witness_PowerOnResetHoldsThePart :
    up.store.op = none ∧ programming.store.op = some (.program 5 63 erasedBytes (some 2)) ∧
    unitIndex 5 63 = 383 ∧ erasing.store.op = some (.erase 1 (some 300)) ∧ (64 : Fin 384).val / 64 = 1 ∧
    (63 : Fin 384).val / 64 ≠ 1 := by decide +kernel

/-- A store with one bit wrong in the check code of its last unit, and two in the unit before it. -/
def worn : State :=
  State.reset.modStore fun r => { r with
    units := upd (upd r.units 383 fun x => { x with wrong := 1#137 <<< 136 }) 382 fun x => { x with wrong := 3 } }

/-- Slots held in reset: one whose first write fails, one whose second alone would, and one that goes on failing. -/
def weak : State :=
  ((State.reset.modAdmSlot 1023 fun x => { x with flaws := [.single] }).modOrderSlot 0 fun x =>
    { x with flaws := [.clean, .double] }).modStallSlot 5 fun x => { x with flaws := [.double, .double, .single] }

theorem witness_StartUpCheck_slots :
    weak.sys.phase = .held ∧ weak.mem.admissions[(1023 : Fin 1024)].flaws = [.single] ∧
    weak.mem.orders[(0 : Fin 256)].flaws = [.clean, .double] ∧
    weak.mem.stalls[(5 : Fin 1024)].flaws = [.double, .double, .single] := by decide +kernel

/-- A slot that fails its first write counts even when its second reads clean; one good at its first is written once. -/
theorem test_slot_check :
    let slot (flaws : List Health) : Slot Nat := Slot.fresh 7 flaws
    let left (flaws : List Health) := ((slot flaws).fails 0, ((slot flaws).check 0).content,
      ((slot flaws).check 0).health, ((slot flaws).check 0).flaws)
    left [.single] = (true, 0, .clean, []) ∧ left [.clean, .double] = (false, 0, .clean, [.double]) ∧
    left [.double, .double, .single] = (true, 0, .double, [.single]) ∧ left [] = (false, 0, .clean, []) := by
  decide +kernel

theorem witness_StartUpCheck :
    (worn.sys.phase = .held ∧ worn.mon.count ≤ 65535 ∧ worn.mon.trap = none ∧
      worn.store.units[(382 : Fin 384)].health ≠ .clean) ∧
    (let t := run .resetRelease worn; (t.sys.scan.firstBad, t.mon.count) = (some (5, 62), 2)) ∧
    State.reset.sys.phase = .held ∧ up.sys.phase ≠ .held ∧ checking.sys.phase = .checking ∧
    checking.doms.domains[(0 : Fin 8)].ready.raw = false ∧
    (checking.modDomain 7 fun x => { x with ready := { x.ready with raw := true } }).sys.phase = .checking ∧
    (checking.modDomain 7 fun x =>
      { x with ready := { x.ready with raw := true } }).doms.domains[(7 : Fin 8)].ready.raw = true := by decide +kernel

theorem test_reset_release : (run .resetRelease State.reset).sys.checkTimer = some 250 := by decide +kernel

/-! ## Witnesses: records and check words -/

/-- The first slot of each record table with the given health and mark. -/
def slots (h : Health) (m : Bool) : State :=
  (up.modAdmSlot 0 fun x => { x with health := h, marked := m }).modOrderSlot 0 fun x =>
    { x with health := h, marked := m }

theorem witness_ReadsOfRecords :
    let a (h : Health) (m : Bool) := (slots h m).mem.admissions[(0 : Fin 1024)]
    let o (h : Health) (m : Bool) := (slots h m).mem.orders[(0 : Fin 256)]
    ((a .double true).marked = true ∧ (a .clean false).marked = false ∧ (a .clean false).health = .clean ∧
      (a .single false).marked = false ∧ (a .single false).health = .single ∧
      (a .double false).marked = false ∧ (a .double false).health = .double) ∧
    ((o .double true).marked = true ∧ (o .clean false).marked = false ∧ (o .clean false).health = .clean ∧
      (o .single false).marked = false ∧ (o .single false).health = .single ∧
      (o .double false).marked = false ∧ (o .double false).health = .double) := by decide +kernel

/-- A night in CLOSING with nothing live. -/
def emptied : State := up.modNight fun n => { n with state := .closing }

theorem witness_RetirementAndCreation :
    (parked.mem.admFree = 1 :: (List.finRange 1024).drop 2 ∧ (1 : Fin 1024) ∉ (List.finRange 1024).drop 2) ∧
    (parked.mem.orderFree = 0 :: (List.finRange 256).drop 1 ∧ (0 : Fin 256) ∉ (List.finRange 256).drop 1) ∧
    (emptied.night.state = .closing ∧ emptied.mem.admFree.length = 1024 ∧ emptied.mem.orderFree.length = 256 ∧
      ∀ n : Fin 6, emptied.shows.screens[n].state = .dark) ∧
    (emptied.modScreen 5 fun c => { c with state := .ended }).shows.screens[(5 : Fin 6)].state = .ended ∧
    up.night.state ≠ .closing := by decide +kernel

/-- The patrol at slot `k` of its round, with its timer running. -/
def patrolAt (k : Fin 2304) (s : State) : State :=
  s.modMem fun m => { m with patrolPosition := k, patrolTimer := some 0 }

theorem witness_PatrolReadsNextSlot :
    (patrolAt 0 parked).sys.phase = .running ∧ (patrolAt 0 parked).mem.patrolTimer ≠ none ∧
    (0 : Fin 2304).val = (0 : Fin 1024).val ∧ parked.admLive 0 = true ∧ parked.admLive 1 = false ∧
    parked.mem.admissions[(1 : Fin 1024)].health = .clean ∧
    (slots .single false).admLive 0 = false ∧
    (slots .single false).mem.admissions[(0 : Fin 1024)].health ≠ .clean ∧
    (1023 : Fin 2304).val = (1023 : Fin 1024).val ∧ (1024 : Fin 2304).val = 1024 + (0 : Fin 1024).val ∧
    parked.lot.inUse 0 = true ∧ up.lot.inUse 0 = false ∧ up.mem.stalls[(0 : Fin 1024)].health = .clean ∧
    (up.modStallSlot 0 fun x => { x with health := .double }).mem.stalls[(0 : Fin 1024)].health ≠ .clean ∧
    (2047 : Fin 2304).val = 1024 + (1023 : Fin 1024).val ∧ (2048 : Fin 2304).val = 2048 + (0 : Fin 256).val ∧
    (withOrder .placed false false).orderLive 0 = true ∧ parked.orderLive 0 = false ∧
    parked.mem.orders[(0 : Fin 256)].health = .clean ∧
    (slots .double false).mem.orders[(0 : Fin 256)].health ≠ .clean ∧
    (2303 : Fin 2304).val = 2048 + (255 : Fin 256).val ∧ (2303 : Fin 2304) + 1 = 0 := by decide +kernel

/-! ## Witnesses: the lot -/

theorem witness_StallNames :
    (Pattern.u.leastRows ≤ 1 ∧ Pattern.u.stallCount 1 = 40) ∧
    (field.pattern.leastRows ≤ field.rowCount ∧ field.rowCount ≤ 8 ∧ field.pattern.stallCount 3 = 104) ∧
    (Pattern.fb.leastRows ≤ 8 ∧ 1 ≤ 1 ∧ Pattern.fb.stallCount 8 = 256) ∧
    (∀ n : Fin 6, up.lot.fields[n] = none) ∧ site.lot.fields[(0 : Fin 6)] ≠ none ∧
    ¬ (1 ≤ (0 : Byte).toNat ∧ (0 : Byte).toNat ≤ 6) ∧ ¬ (1 ≤ (7 : Byte).toNat ∧ (7 : Byte).toNat ≤ 6) ∧
    (6 : Byte).toNat = (5 : Fin 6).val + 1 ∧ site.lot.fields[(5 : Fin 6)] = none ∧
    (1 : Byte).toNat = (0 : Fin 6).val + 1 ∧ site.lot.fields[(0 : Fin 6)] = some field ∧
    ¬ (1 ≤ (0 : Word16).toNat ∧ (0 : Word16).toNat ≤ field.stallCount) ∧
    ¬ (1 ≤ (105 : Word16).toNat ∧ (105 : Word16).toNat ≤ field.stallCount) ∧
    (1 ≤ (104 : Word16).toNat ∧ (104 : Word16).toNat ≤ field.stallCount) := by decide +kernel

/-- The parked car's stall, found with the given health. -/
def stallFound (h : Health) (s : State) : State := s.modStallSlot 0 fun x => { x with health := h }

theorem witness_StallReadsAndTallies :
    (site.lot.place 0).isSome ∧ (site.lot.place 103).map Stall.kind = some .high ∧
    0 < site.lot.tally 0 .standard site.lot.counted[(0 : Fin 1024)] ∧
    site.lot.counted[(0 : Fin 1024)] ≠ StallState.closed ∧
    site.mem.stalls[(0 : Fin 1024)].health = .clean ∧
    (stallFound .single site).mem.stalls[(0 : Fin 1024)].health = .single ∧
    (stallFound .double site).mem.stalls[(0 : Fin 1024)].health = .double ∧
    site.lot.occupants[(0 : Fin 1024)] = none ∧ (stallFound .double parked).lot.occupants[(0 : Fin 1024)] ≠ none := by
  decide +kernel

/-- Stall 2 of screen 1 closed by the operator. -/
def shut : State := run (.closeStall .booth 1 2) site

theorem witness_StallCommands :
    (up.lot.named 1 1 = .error .badState ∧ up.takes .booth 0x20 ∧ up.takes .booth 0x21) ∧
    (site.lot.named 1 1 = .ok (0, 0) ∧ site.takes .booth 0x20 ∧ site.takes .booth 0x21 ∧
      (site.readStall 0).1.state (site.readStall 0).2.lot.occupants[(0 : Fin 1024)] = .free) ∧
    ((parked.readStall 0).1.state (parked.readStall 0).2.lot.occupants[(0 : Fin 1024)] = .occupied) ∧
    ((issued.readStall 0).1.state (issued.readStall 0).2.lot.occupants[(0 : Fin 1024)] = .reserved) ∧
    (shut.lot.named 1 2 = .ok (0, 1) ∧ shut.takes .booth 0x20 ∧ shut.takes .booth 0x21 ∧
      (shut.readStall 1).1.state (shut.readStall 1).2.lot.occupants[(1 : Fin 1024)] = .closed) := by decide +kernel

/-- A car at the head of the holding queue of screen 1. -/
def queued (st : AdmState) : State :=
  (site.createAdm 0 (car st none [])).modLot fun m => { m with queues := upd m.queues 0 (· ++ [0]) }

theorem witness_ReleaseExamination :
    ((lost (queued .waiting)).readAdm 0).1 = none ∧
    ((queued .paying).readAdm 0).1.any (fun x => x.state ≠ .issued ∧ x.state ≠ .waiting) = true ∧
    VehicleClass.tall.fits .standard = false ∧ VehicleClass.car.fits .standard = true ∧
    ((queued .issued).readAdm 0).1.map Admission.state = some .issued ∧
    ((queued .waiting).readAdm 0).1.map Admission.state = some .waiting := by decide +kernel

theorem witness_Allocation_named :
    (1 : Word16) ≠ 0 ∧ up.lot.named 1 1 = .error .badState ∧ site.lot.named 1 1 = .ok (0, 0) ∧
    (site.readStall 0).1.state site.lot.occupants[(0 : Fin 1024)] = .free ∧
    (parked.readStall 0).1.state parked.lot.occupants[(0 : Fin 1024)] ≠ .free ∧
    (site.readStall 0).1.kind ≠ .high ∧ (site.lot.place 103).map Stall.kind = some .high := by decide +kernel

/-- A field of one STANDARD row (R21). -/
def smallSite : State :=
  site.modLot fun m => { m with
    fields := m.fields.set 0 (some { field with rowCount := 1, pattern := .u, stallCount := 40 }) }

theorem witness_Allocation_searched :
    (smallSite.searchField 0 .car).1 = some 0 ∧ (site.searchField 5 .car).1 = none ∧
    site.lot.capacity 5 ≤ site.lot.queues[(5 : Fin 6)].length ∧
    ∀ i ∈ smallSite.lot.stallsOf 0 [.front, .standard, .high], smallSite.stallClean i := by decide +kernel

/-- The field without a FREE stall: every stall of it counted CLOSED. -/
def packed : State :=
  site.modLot fun m => { m with tallies := Vector.replicate 6 (Vector.replicate 12 0) }

theorem witness_Allocation_queue :
    (packed.searchField 0 .car).1 = none ∧ packed.lot.queues[(0 : Fin 6)].length < packed.lot.capacity 0 ∧
    ((packed.modLot fun m => { m with queues := upd m.queues 0 (· ++ [0]) }).searchField 0 .car).1 = none ∧
    packed.lot.capacity 0 ≤ [(0 : Fin 1024)].length := by decide +kernel

theorem witness_LotLookups :
    up.takes .counter 0x22 ∧ up.lot.named 1 1 = .error .badState ∧ site.takes .counter 0x22 ∧
    site.lot.named 1 1 = .ok (0, 0) ∧ up.takes .booth 0x23 ∧ up.lot.loaded = false ∧ site.takes .booth 0x23 ∧
    site.lot.loaded = true ∧ ¬ (1 ≤ (7 : Byte).toNat ∧ (7 : Byte).toNat ≤ 6) ∧
    (6 : Byte).toNat = (5 : Fin 6).val + 1 ∧ site.lot.queues[(5 : Fin 6)].length ≤ 8 := by decide +kernel

/-! ## Witnesses: gate lanes and admissions -/

theorem witness_LaneInputs :
    (site.sys.phase = .running ∧ site.gate.lanes[(3 : Fin 4)].role = .unused ∧
      ((about 3 .a true site).gate.lanes[(3 : Fin 4)].loop .a).timer ≠ none) ∧
    (∀ st : LaneState, st ∈ [LaneState.idle, .issued, .leaving, .present, .passing, .faulted, .paying] →
      ∀ high : Bool, ∀ l ∈ [Loop.a, Loop.b],
        let s := about 0 l high (site.modLane 0 fun x => { x with state := st })
        s.sys.phase = .running ∧ (s.gate.lanes[(0 : Fin 4)].loop l).timer ≠ none ∧
          s.gate.lanes[(0 : Fin 4)].role ≠ .unused ∧ (s.gate.lanes[(0 : Fin 4)].loop l).raw = high ∧
          s.gate.lanes[(0 : Fin 4)].state = st) := by decide +kernel

/-- Lane `n` PASSING with the parked car bound to it, and loop B about to clear. -/
def passing (n : Fin 4) (s : State) : State :=
  about n .b false (s.modLane n fun x => { x with state := .passing, bound := some 0 })

theorem witness_LanePasses :
    (let s := passing 0 issued;
      s.sys.phase = .running ∧ s.gate.lanes[(0 : Fin 4)].loopB.timer ≠ none ∧
        s.gate.lanes[(0 : Fin 4)].loopB.raw = false ∧ s.gate.lanes[(0 : Fin 4)].state = .passing ∧
        s.gate.lanes[(0 : Fin 4)].bound = some 0 ∧ s.gate.lanes[(0 : Fin 4)].role = .entry ∧
        s.lot.stallHeldBy 0 = some 0 ∧ s.lot.screenOf 0 = some 0 ∧ s.admClean 0) ∧
    (let s := passing 1 parked;
      s.gate.lanes[(1 : Fin 4)].bound = some 0 ∧ s.gate.lanes[(1 : Fin 4)].role = .exit ∧
        s.mem.admissions[(0 : Fin 1024)].marked = false) ∧
    ((passing 1 parked).markAdm 0).mem.admissions[(0 : Fin 1024)].marked = true ∧
    ((passing 0 issued).markAdm 0).mem.admissions[(0 : Fin 1024)].marked = true := by decide +kernel

theorem witness_LaneTimersAndVoids_timers :
    (let s := laneWith 0 fun l => { l with barrierTimer := some 0, stuckTimer := some 0 };
      s.sys.phase = .running ∧ s.gate.lanes[(0 : Fin 4)].barrierTimer ≠ none ∧
        s.gate.lanes[(0 : Fin 4)].stuckTimer ≠ none ∧ s.gate.lanes[(0 : Fin 4)].state ≠ .faulted) ∧
    (let s := laneWith 0 fun l => { l with barrierTimer := some 0, stuckTimer := some 0, state := .faulted };
      s.gate.lanes[(0 : Fin 4)].state = .faulted ∧ s.gate.lanes[(0 : Fin 4)].barrierTimer ≠ none ∧
        s.gate.lanes[(0 : Fin 4)].stuckTimer ≠ none) ∧
    (issued.gate.lanes[(0 : Fin 4)].voidTimer ≠ none ∧ issued.gate.lanes[(0 : Fin 4)].state = .issued ∧
      issued.gate.lanes[(0 : Fin 4)].bound = some 0 ∧ issued.gate.lanes[(0 : Fin 4)].role = .entry ∧
      issued.mem.admissions[(0 : Fin 1024)].marked = false ∧
      (issued.markAdm 0).mem.admissions[(0 : Fin 1024)].marked = true) := by decide +kernel

theorem witness_LaneTimersAndVoids_void :
    AdmHandle.ofWord 0 = ⟨0, 0⟩ ∧ AdmHandle.ofWord 0xFFFF = ⟨1023, 63⟩ ∧ issued.takes .booth 0x11 ∧
    up.admCurrent (AdmHandle.ofWord 0xFFFF) = false ∧ issued.admCurrent (AdmHandle.ofWord 0) = true ∧
    ((lost issued).readAdm 0).1 = none ∧ (parked.readAdm 0).1.map Admission.state = some .seated ∧
    (issued.readAdm 0).1.map Admission.state = some .issued ∧
    (issued.readAdm 0).2.gate.laneOf 0 = some 0 ∧ issued.gate.lanes[(0 : Fin 4)].role = .entry := by decide +kernel

theorem witness_ReturnsAndTabClear :
    (let s := leaving .leaving;
      s.sys.phase = .running ∧ s.gate.lanes[(1 : Fin 4)].returnTimer ≠ none ∧
        s.gate.lanes[(1 : Fin 4)].state = .leaving ∧ s.gate.lanes[(1 : Fin 4)].bound = some 0 ∧ s.admClean 0 ∧
        s.lot.stallHeldBy 0 ≠ none) ∧
    (let s := about 1 .a false (leaving .paying);
      s.gate.lanes[(1 : Fin 4)].loopA.timer ≠ none ∧ s.gate.lanes[(1 : Fin 4)].loopA.raw = false ∧
        s.gate.lanes[(1 : Fin 4)].role = .exit ∧ s.gate.lanes[(1 : Fin 4)].state = .paying ∧
        s.gate.lanes[(1 : Fin 4)].bound = some 0 ∧ s.tabClean 0) ∧
    (let s := (leaving .paying).modOrds fun y => { y with tabClears := [(0, ⟨5, 0⟩), (1, ⟨0, 0⟩)] };
      s.sys.phase = .running ∧ s.ords.tabClears = [(0, ⟨5, 0⟩)] ++ ((1, ⟨0, 0⟩) :: []) ∧
        s.gate.lanes[(1 : Fin 4)].state = .paying ∧ s.gate.lanes[(1 : Fin 4)].bound = some 0 ∧
        s.mem.admGen[(0 : Fin 1024)] = 0) ∧
    (leaving .leaving).gate.lanes[(1 : Fin 4)].state ≠ .paying := by decide +kernel

/-- The car that leaves the exit window is a return, which R59 counts. -/
theorem test_return_from_window :
    (let t := run (.presenceTimerExpiry 1 .a) (about 1 .a false (leaving .paying));
      t.gate.lanes[(1 : Fin 4)].voids = 1 ∧ t.gate.lanes[(1 : Fin 4)].state = .idle ∧
        t.gate.lanes[(1 : Fin 4)].bound = none ∧ (t.adm 0).state = .seated) ∧
    (run (.returnTimerExpiry 1) (leaving .leaving)).gate.lanes[(1 : Fin 4)].voids = 1 := by decide +kernel

theorem witness_Admit :
    site.takes .booth 0x10 ∧ numbered 4 (0 : Byte) = none ∧ numbered 4 (5 : Byte) = none ∧
    numbered 6 (7 : Byte) = none ∧ VehicleClass.ofByte 3 = none ∧ numbered 4 (4 : Byte) = some 3 ∧
    numbered 6 (6 : Byte) = some 5 ∧ numbered 4 (1 : Byte) = some 0 ∧ numbered 6 (1 : Byte) = some 0 ∧
    VehicleClass.ofByte 1 = some .car ∧ VehicleClass.ofByte 2 = some .tall ∧
    site.mem.admFree = 0 :: (List.finRange 1024).drop 1 ∧
    status .booth (run (.admitCar .booth 1 1 1 0) up) = some .closed ∧
    status .booth (run (.admitCar .booth 2 1 1 0) site) = some .badState ∧
    status .booth (run (.admitCar .booth 1 6 1 0) site) = some .closed ∧
    (site.allocate 1 0 105 .car).1 = .refused .badParam ∧ (site.allocate 1 0 1 .car).1 = .stall 0 ∧
    (packed.allocate 1 0 0 .car).1 = .queued := by decide +kernel

theorem test_admit : ans .booth (run (.admitCar .booth 1 1 1 0) site) = some (.ok, [0, 0, 0, 1, 0]) := by
  decide +kernel

theorem witness_ExitAndClearLane_exit :
    parked.takes .booth 0x12 ∧ parked.admCurrent (AdmHandle.ofWord 0xFFFF) = false ∧
    parked.admCurrent (AdmHandle.ofWord 0) = true ∧ numbered 4 (5 : Byte) = none ∧
    numbered 4 (2 : Byte) = some 1 ∧ status .booth (run (.exit .booth 1 0) parked) = some .badState ∧
    ((lost parked).readTab 0).1 = none ∧ (parked.readTab 0).1.map (fun t => (t.1.owed, t.2.length)) = some (0, 0) ∧
    ((withOrder .ready false false).readTab 0).1.map (fun t => (t.1.owed, t.2.length)) = some (250, 1) := by
  decide +kernel

theorem test_exit :
    ans .booth (run (.exit .booth 2 0) parked) = some (.ok, [0, 0, 0, 0]) ∧
    ans .booth (run (.exit .booth 2 0) (withOrder .ready false false)) = some (.tabOpen, [0, 0, 250, 1]) := by
  decide +kernel

/-- Lane `n` FAULTED from a state, the parked car bound to it if `b`. -/
def faultedLane (n : Fin 4) (from' : LaneState) (b : Bool) : State :=
  laneWith n fun l =>
    { l with
      state := .faulted, cause := some .barrier, faultedFrom := some from', bound := if b then some 0 else none }

theorem witness_ExitAndClearLane_clear :
    parked.takes .booth 0x13 ∧ numbered 4 (0 : Byte) = none ∧ numbered 4 (4 : Byte) = some 3 ∧
    parked.gate.lanes[(3 : Fin 4)].state ≠ .faulted ∧
    (let l := (faultedLane 0 .present false).gate.lanes[(0 : Fin 4)];
      l.state = .faulted ∧ l.bound = none ∧ l.role ≠ .unused) ∧
    (∀ st ∈ [LaneState.issued, .passing],
      let l := (faultedLane 0 st true).gate.lanes[(0 : Fin 4)]
      l.state = .faulted ∧ l.bound ≠ none ∧ l.faultedFrom = some st ∧ l.role = .entry) ∧
    (∀ st ∈ [LaneState.leaving, .passing, .paying],
      let l := (faultedLane 1 st true).gate.lanes[(1 : Fin 4)]
      l.state = .faulted ∧ l.bound = some 0 ∧ l.faultedFrom = some st ∧ l.role = .exit) := by decide +kernel

theorem witness_ExitAndClearLane_operations :
    (∀ st ∈ [OrderState.placed, .delivered],
      let s := withOrder st false false
      ((s.tabOrders 0).map Prod.fst).Nodup ∧ s.mem.admFree.length ≠ 1024 ∧
        (s.tabOrders 0).map (fun o => o.2.state) = [st] ∧ s.mem.orders[(0 : Fin 256)].marked = false ∧
        (1 : Fin 256) ∉ (s.tabOrders 0).map Prod.fst ∧ s.mem.admissions[(0 : Fin 1024)].marked = false) ∧
    (withOrder .placed false false).ords.runners[(11 : Fin 12)].carried = [] ∧
    (withOrder .ready false true).tabClean 0 ∧ ((lost parked).readAdm 0).1 = none ∧
    ((leaving .paying).readAdm 0).1.map (fun x => (x.exitLane, x.state, x.owed, x.orders)) =
      some (some 1, .paying, 0, []) ∧
    (parked.readAdm 0).1.map Admission.exitLane = some none := by decide +kernel

/-- EXIT cancels the PLACED order, which leaves the kitchen queue and the list, and flags the other COLLECT. -/
theorem test_exit_orders :
    (let t := run (.exit .booth 2 0) (withOrder .placed false false);
      t.orderLive 0 = false ∧ t.ords.kitchen = [] ∧ (t.adm 0).orders = [] ∧ t.counter.attention = 0) ∧
    (let t := run (.exit .booth 2 0) (withOrder .ready false false);
      t.orderLive 0 = true ∧ (t.order 0).collect = true ∧ (t.adm 0).state = .paying) := by decide +kernel

/-- A second car SEATED in stall 2, its record in slot 1. -/
def twoCars : State :=
  ((parked.createAdm 1 (car .seated (some 2) [])).holdStall 1 1 .occupation).modGate fun g =>
    { g with live := upd g.live 0 (· + 1) }

theorem witness_Move :
    parked.takes .booth 0x15 ∧ parked.admCurrent (AdmHandle.ofWord 0xFFFF) = false ∧
    parked.admCurrent (AdmHandle.ofWord 0) = true ∧ ((lost parked).readTab 0).1 = none ∧
    ((leaving .leaving).readTab 0).1.map (fun t => t.1.state) = some .leaving ∧
    (parked.readTab 0).1.map (fun t => t.1.state) = some .seated ∧
    (parked.readTab 0).2.lot.named 1 105 = .error .badParam ∧ parked.lot.named 1 2 = .ok (0, 1) ∧
    parked.shows.screens[(0 : Fin 6)].state = .preshow ∧
    status .booth (run (.move .booth 0 1 2) (twoCars.modNight fun n => { n with state := .closing })) =
      some .closed ∧
    (twoCars.readStall 1).1.state twoCars.lot.occupants[(1 : Fin 1024)] = .occupied ∧
    (parked.readStall 1).1.state parked.lot.occupants[(1 : Fin 1024)] = .free ∧ parked.tabClean 0 ∧
    parked.lot.stallHeldBy 0 = some 0 ∧ parked.lot.screenOf 0 = some 0 := by decide +kernel

theorem test_move : ans .booth (run (.move .booth 0 1 2) parked) = some (.ok, [0, 2, 0]) := by decide +kernel

/-- A field of one row on screen 6 as well. -/
def twoFields : State :=
  parked.modLot fun m => { m with
    fields := m.fields.set 5 (some { field with rowCount := 1, pattern := .u, stallCount := 40, firstIndex := 104 }) }

theorem witness_Move_between_screens :
    twoFields.lot.named 6 40 = .ok (5, 143) ∧ twoFields.lot.screenOf 0 = some 0 ∧ (0 : Fin 6) ≠ 5 := by
  decide +kernel

theorem witness_RepairAndForceRetire_repair :
    parked.takes .booth 0x17 ∧ status .booth (run (.repair .booth 0xFFFF 1 1 0) parked) = some .stale ∧
    status .booth (run (.repair .booth 0 1 1 0) parked) = some .badState ∧
    status .booth (run (.repair .booth 0 1 1 86400) (parked.markAdm 0)) = some .badParam ∧
    (parked.markAdm 0).admCurrent ⟨0, 0⟩ = true ∧ (parked.markAdm 0).mem.admissions[(0 : Fin 1024)].marked = true ∧
    (86399#24).toNat ≤ 86399 ∧ VehicleClass.ofByte 1 = some .car ∧ numbered 4 (4 : Byte) = some 3 ∧
    ((withOrder .ready false false).readOrders [0]).2.1 = true ∧
    (((withOrder .ready false false).markOrder 0).readOrders [0]).2.1 = false := by decide +kernel

/-- REPAIR of a record lost in a PAYING lane finds its orders by placed time, its state and its lane. -/
theorem test_repair_orders :
    (let s := (((withOrder .ready false false).createOrder 1 { order1 .delivered false false with placed := 7 }).modLane 1
        fun l => { l with state := .paying, bound := some 0 }).modOrderSlot 0 fun x =>
          { x with content := { x.content with placed := 9 } };
      let t := run (.repair .booth 0 1 4 60) (s.markAdm 0);
      (t.adm 0).orders = [⟨1, 0⟩, ⟨0, 0⟩] ∧ (t.adm 0).owed = 500 ∧ (t.adm 0).state = .paying ∧
        (t.adm 0).exitLane = some 1) := by decide +kernel

theorem test_repair : status .booth (run (.repair .booth 0 1 4 86399) (parked.markAdm 0)) = some .ok := by
  decide +kernel

theorem witness_RepairAndForceRetire_force :
    parked.takes .booth 0x18 ∧ parked.admCurrent (AdmHandle.ofWord 0xFFFF) = false ∧
    parked.admCurrent (AdmHandle.ofWord 0) = true ∧
    (((withOrder .ready false false).ordersToForce ⟨0, 0⟩).1 = some [0]) ∧ ([0] : List (Fin 256)).Nodup ∧
    ((((withOrder .ready false false).markAdm 0).markOrder 0).ordersToForce ⟨0, 0⟩).1 = none ∧
    (((withOrder .ready false false).markAdm 0).ordersToForce ⟨0, 0⟩).1 = some [0] ∧
    issued.gate.laneOf 0 = some 0 ∧ (parked.readAdm 0).1.isSome ∧ ((lost parked).readAdm 0).1 = none := by
  decide +kernel

theorem test_force_retire_admission :
    ans .booth (run (.forceRetireAdmission .booth 0) (withOrder .ready false false)) = some (.ok, [0, 0, 250]) := by
  decide +kernel

theorem witness_LaneAndAdmissionLookups :
    up.takes .booth 0x14 ∧ numbered 4 (0 : Byte) = none ∧ numbered 4 (4 : Byte) = some 3 ∧
    parked.takes .counter 0x16 ∧ parked.admCurrent (AdmHandle.ofWord 0xFFFF) = false ∧
    parked.admCurrent (AdmHandle.ofWord 0) = true ∧
    (parked.readAdm 0).1.map (fun x => x.orders.length) = some 0 ∧ ((lost parked).readAdm 0).1 = none := by
  decide +kernel

/-! ## Witnesses: screens, channels and displays -/

/-- A segment of the least length. -/
def short : Segment := { kind := .trailer, length := 60, title := 7 }

theorem witness_ShowOperations :
    site.shows.screens[(0 : Fin 6)].state ≠ .dark ∧ up.shows.screens[(0 : Fin 6)].state = .dark ∧
    (∀ st ∈ [ShowState.running, .intermission, .held],
      (showing st [short] (some 1)).shows.screens[(0 : Fin 6)].state = st) ∧
    ((showing .held [short] (some 1)).modScreen 0 fun c =>
      { c with reasons := c.reasons.set .operator true }).shows.screens[(0 : Fin 6)].reasons.has .operator = true ∧
    (showing .held [short] (some 1)).shows.screens[(0 : Fin 6)].reasons.has .operator = false ∧
    [short, short][1]? = some short ∧ [short][1]? = none ∧ site.gate.live[(0 : Fin 6)] = 0 ∧
    (let s := (sounding (.live 2) 0).modScreen 0 fun c => { c with start := some 0, list := [short] };
      s.shows.screens[(0 : Fin 6)].state = .preshow ∧ 0 ≤ s.night.clock ∧
        s.doms.domains[screenDomain 0].state = .active ∧ s.chans.sounds[(0 : Fin 6)].sound = .live 2 ∧
        (s.examineStart 0).shows.screens[(0 : Fin 6)].state = .starting) := by decide +kernel

theorem witness_ShowCommands_load :
    site.takes .booth 0x28 ∧ (Instr.loadShow .booth 1 8 (List.replicate 8 0x003C0000) 0xFFFFFF).wf = true ∧
    (Instr.loadShow .booth 1 0 [] 0).wf = true ∧ (Instr.loadShow .booth 1 9 (List.replicate 9 0) 0).wf = true ∧
    ¬ (1 ≤ (9 : Byte).toNat ∧ (9 : Byte).toNat ≤ 8) ∧ 86399 < (86400#24).toNat ∧ ¬ 86399 < (86399#24).toNat ∧
    (Segment.ofWord 0x003C0000).length = 60 ∧ (Segment.ofWord 0x003B0000).length = 59 ∧
    (Segment.ofWord 0x38400000).length = 14400 ∧ numbered 6 (1 : Byte) = some 0 ∧
    status .booth (run (.loadShow .booth 1 1 [0x003C0000] 86400) site) = some .badParam ∧
    status .booth (run (.loadShow .booth 6 1 [0x003C0000] 0) site) = some .closed ∧
    status .booth (run (.loadShow .booth 1 1 [0x003C0000] 0) (showing .ended [] none)) = some .badState ∧
    status .booth (run (.loadShow .booth 1 1 [0x003C0000] 0) (domainWith 0 .faulted false site)) = some .domainDown ∧
    status .booth (run (.loadShow .booth 1 1 [0x003C0000] 86399) site) = some .ok ∧
    status .booth (run (.loadShow .booth 1 1 [0x003C0000] 0) (showing .dark [] none)) = some .ok := by decide +kernel

theorem witness_ShowCommands :
    (∀ code ∈ ([0x29, 0x2A, 0x2B, 0x2C, 0x2D] : List Byte), site.takes .booth code) ∧
    numbered 6 (0 : Byte) = none ∧ numbered 6 (6 : Byte) = some 5 ∧ site.shows.screens[(5 : Fin 6)].state = .dark ∧
    site.shows.screens[(0 : Fin 6)].state = .preshow ∧
    (showing .ended [] none).shows.screens[(0 : Fin 6)].state = .ended ∧
    (let s := run (.holdShow .booth 1) (showing .running [short] (some 1));
      s.shows.screens[(0 : Fin 6)].state = .held ∧ s.shows.screens[(0 : Fin 6)].reasons.operator = true ∧
        ans .booth s = some (.ok, [4]) ∧ ans .booth (run (.resumeShow .booth 1) s) = some (.ok, [4, 0])) := by
  decide +kernel

theorem witness_ProjectorEvents :
    (∀ st ∈ [ShowState.dark, .preshow, .starting, .running, .intermission, .held, .ended], ∀ high : Bool,
      let s := (showing st [short] (some 1)).modScreen 0 fun c =>
        { c with
          running := { raw := high, level := !high, timer := some 0 }
          fault := { raw := high, level := !high, timer := some 0 } }
      let c := s.shows.screens[(0 : Fin 6)]
      s.sys.phase = .running ∧ c.running.timer ≠ none ∧ c.fault.timer ≠ none ∧ c.state = st ∧
        c.running.raw = high ∧ c.fault.raw = high ∧ c.current = some 1) ∧
    (let c := (run (.startNow .booth 1) ((sounding (.live 2) 0).modScreen 0 fun c =>
        { c with list := [short] })).shows.screens[(0 : Fin 6)];
      c.state = .starting ∧ c.startTimer ≠ none) := by decide +kernel

theorem witness_ShowClockAndRead :
    site.sys.phase = .running ∧ up.sys.phase = .running ∧ up.night.state = .closed ∧ site.night.state ≠ .closed ∧
    (site.modNight fun n => { n with clock := 86399 }).night.clock = 86399 ∧
    (let c := (showing .running [short] (some 1)).shows.screens[(0 : Fin 6)];
      c.remaining ≠ none ∧ c.overrun = false ∧ c.state = .running) ∧
    ((showing .held [short] (some 1)).modScreen 0 fun c =>
      { c with remaining := some 0 }).shows.screens[(0 : Fin 6)].remaining = some 0 ∧
    (showing .held [short] (some 1)).shows.screens[(0 : Fin 6)].remaining ≠ some 0 ∧ site.takes .booth 0x2E ∧
    numbered 6 (7 : Byte) = none ∧ numbered 6 (6 : Byte) = some 5 ∧
    site.shows.screens[(5 : Fin 6)].list.length ≤ 8 := by decide +kernel

theorem test_start_and_first_segment :
    let s := run (.startNow .booth 1) ((sounding (.live 2) 0).modScreen 0 fun c =>
      { c with list := [short], running := { raw := true, level := true, timer := none } })
    let c := s.shows.screens[(0 : Fin 6)]
    c.state = .running ∧ c.current = some 1 ∧ c.remaining = some 180 ∧ c.runReq = true ∧ c.pauseReq = false := by
  decide +kernel

theorem witness_SoundOperations :
    (Sound.live 2).code = 3 ∧ Sound.failed.code = 0 ∧ (sounding (.live 2) 0).chans.sounds[(0 : Fin 6)].chsel = 3 ∧
    (sounding (.live 2) 0).chans.sounds[(0 : Fin 6)].sound = .live 2 ∧
    (sounding .failed 0).chans.sounds[(0 : Fin 6)].sound = .failed ∧
    (sounding .off 3).lot.fields[(0 : Fin 6)] = some field ∧
    (sounding .off 3).chans.channels[field.home] = { permitted := true, state := .free } ∧
    (sounding .off 1).chans.channels[(0 : Fin 12)] = { permitted := true, state := .free } ∧
    (sounding .off 1).chans.channels[field.home] ≠ { permitted := true, state := .free } ∧
    (sounding .off 1).spare = some 0 ∧
    (∀ c : Fin 12, (sounding .off 0).chans.channels[c] ≠ { permitted := true, state := .free }) ∧
    (sounding .off 0).spare = none ∧ (sounding (.live 2) 1).spare = some 0 ∧
    (∀ st ∈ [ShowState.preshow, .held],
      let s := (sounding (.announce 2 1 .operator) 0).modScreen 0 fun c => { c with state := st };
      s.chans.sounds[(0 : Fin 6)].sound = .announce 2 1 .operator ∧ s.shows.screens[(0 : Fin 6)].state = st) ∧
    (∀ m : Fin 6, (sounding (.live 2) 1).chans.sounds[m].sound ≠ .failed) := by decide +kernel

theorem witness_Retune :
    up.takes .booth 0x30 ∧ numbered 6 (0 : Byte) = none ∧ numbered 6 (6 : Byte) = some 5 ∧
    numbered 6 (1 : Byte) = some 0 ∧ (sounding (.live 2) 1).chans.sounds[(0 : Fin 6)].sound = .live 2 ∧
    (sounding (.live 2) 1).spare = some 0 ∧ (sounding (.live 2) 0).spare = none ∧
    (sounding (.announce 2 1 .carrier) 0).chans.sounds[(0 : Fin 6)].sound = .announce 2 1 .carrier ∧
    (sounding .failed 0).chans.sounds[(0 : Fin 6)].sound = .failed ∧
    up.chans.sounds[(5 : Fin 6)].sound = .off := by decide +kernel

theorem test_retune : ans .booth (run (.retune .booth 1) (sounding (.live 2) 1)) = some (.accepted, [1]) := by
  decide +kernel

/-- Screen 1 holding channel 3 live and channel 2 announced, channels 1 to `free` free. -/
def retuning (x : RetuneCause) (free : Nat) : State :=
  ((sounding (.announce 2 1 x) free).setChannel 2 (.held 0 .live)).setChannel 1 (.held 0 .announced) |>.modSound 0
    fun r => { r with announceTimer := some 0, faultTimer := some 0 }

theorem witness_ChannelCommandsAndEvents :
    up.takes .booth 0x31 ∧ up.takes .booth 0x32 ∧ numbered 12 (0 : Byte) = none ∧ numbered 12 (13 : Byte) = none ∧
    numbered 12 (12 : Byte) = some 11 ∧ (sounding .off 1).chans.channels[(0 : Fin 12)].state = .free ∧
    (sounding .off 1).chans.channels[(11 : Fin 12)].state = .quarantined 60 ∧
    (retuning .carrier 0).chans.channels[(2 : Fin 12)].state = .held 0 .live ∧
    (retuning .carrier 0).chans.channels[(1 : Fin 12)].state = .held 0 .announced ∧
    (retuning .carrier 0).chans.sounds[(0 : Fin 6)].sound = .announce 2 1 .carrier ∧
    ((retuning .operator 0).setChannel 1 (.quarantined 1800)).spare = none ∧
    ((retuning .carrier 0).setChannel 1 (.quarantined 1800)).spare = none ∧
    ((retuning .carrier 1).setChannel 1 (.quarantined 1800)).spare = some 0 ∧
    up.chans.sounds[(0 : Fin 6)].carrierOk ≠ true ∧ State.reset.sys.phase ≠ .running ∧
    (retuning .carrier 0).sys.phase = .running ∧ (retuning .carrier 0).chans.sounds[(0 : Fin 6)].faultTimer ≠ none ∧
    (retuning .operator 0).chans.sounds[(0 : Fin 6)].announceTimer ≠ none ∧
    (∀ k, up.chans.channels[(0 : Fin 12)].state ≠ .quarantined k) := by
  refine ⟨?_, ?_, ?_, ?_, ?_, ?_, ?_, ?_, ?_, ?_, ?_, ?_, ?_, ?_, ?_, ?_, ?_, ?_, fun k h => ?_⟩
  all_goals first
    | decide +kernel
    | exact absurd (h.symm.trans (show up.chans.channels[(0 : Fin 12)].state = .free by decide +kernel)) (by simp)

theorem witness_RowDisplayBus :
    (DisplayWord.mk 12 true true).channel ≤ 12 ∧
    (let d := up.disp;
      d.words[(0 : Fin 48)] = DisplayWord.blank ∧ d.words[(0 : Fin 48)] ≠ ⟨1, false, true⟩ ∧ d.bus = none ∧
        d.queued[(0 : Fin 48)] = true ∧ ∀ j : Fin 48, ¬ d.lastSent < j) ∧
    (run .displayWordStart up).disp.bus ≠ none ∧
    (let d := (run .displayWordSent (run .displayWordStart up)).disp;
      d.bus = none ∧ d.queued[(1 : Fin 48)] = true ∧ d.lastSent < 1 ∧
        ∀ j : Fin 48, d.lastSent < j → ¬ j < 1) ∧
    (run .displayWordStart up).disp.bus = some { row := 0, word := busWord 0 DisplayWord.blank, timer := some 2 } := by
  decide +kernel

/-- Line 1, blank: 000001 0000 0 0 and one one, so RD_DAT is high in the sixth and the last of the 16 periods. -/
theorem test_bus_pins :
    (((busLevels (busWord 0 DisplayWord.blank)).filter Prod.fst).map Prod.snd =
      [false, false, false, false, false, true, false, false, false, false, false, false, false, false, false, true]) ∧
    (run .displayWordStart up).disp.rdClk = false ∧
    (run .displayWordSent (run .displayWordStart up)).disp.rdClk = true ∧
    (run .displayWordSent (run .displayWordStart up)).disp.rdDat = true := by decide +kernel

/-- Line 48, channel 12, blinking, lamp on: 110000 1100 1 1 and six ones. -/
theorem test_bus_word : busWord 47 ⟨12, true, true⟩ = 0b1100001100110110 := by decide

/-! ## Witnesses: call posts -/

/-- The tones of *, one tone, and two of one group. -/
theorem witness_ToneQualifier_tones :
    findingOf ⟨8, 1⟩ = .pair .star ∧ findingOf ⟨8, 0⟩ = .noPair ∧ findingOf ⟨0, 0⟩ = .noPair ∧
    findingOf ⟨8, 5⟩ = .clash ∧ findingOf ⟨3, 0⟩ = .clash := by decide +kernel

theorem witness_ToneQualifier :
    (rowWith id).sys.phase = .running ∧ (rowWith id).posts.rows[(0 : Fin 48)].positions ≠ 0 ∧
    (rowWith id).doms.domains[screenDomain (rowScreen 0)].state = .active ∧
    (rowWith id).posts.rows[(0 : Fin 48)].finding = .noPair ∧ (rowWith id).posts.rows[(47 : Fin 48)].positions = 0 ∧
    (∀ q ∈ [Qualifier.clash, .stuck, .released .star, .held .star], ∀ cycle ∈ [none, some 0],
      let x := (rowWith fun y => { y with
        qualifier := q, onTimer := some 0, dropoutTimer := some 0, maxHoldTimer := some 0, offTimer := some 0
        cycleTimer := cycle }).posts.rows[(0 : Fin 48)]
      x.qualifier = q ∧ x.onTimer ≠ none ∧ x.dropoutTimer ≠ none ∧ x.maxHoldTimer ≠ none ∧ x.offTimer ≠ none ∧
        x.cycleTimer = cycle) ∧
    (rowWith fun y => { y with qualifier := .released .star }).posts.rows[(0 : Fin 48)].offTimer = none := by
  decide +kernel

/-- Row 1 with a sequence and answers of the order table on their way to it. -/
def answered (tag : Nat) (status : Status) : State :=
  (rowWith fun y => { y with sequence := .orderSent 40 [] 0 }).modPosts fun p =>
    { p with answers := [⟨1, 9, .ok⟩, ⟨0, tag, status⟩] }

theorem witness_KeySequences :
    (1 ≤ 10 * (4 : Fin 10).val + (0 : Fin 10).val ∧ 10 * (4 : Fin 10).val + (0 : Fin 10).val ≤ 40) ∧
    (10 * (1 : Fin 10).val + (2 : Fin 10).val = (11 : Fin 12).val + 1) ∧
    ¬ (1 ≤ 10 * (1 : Fin 10).val + (3 : Fin 10).val ∧ 10 * (1 : Fin 10).val + (3 : Fin 10).val ≤ 12) ∧
    site.ords.prices[10 * (9 : Fin 10).val + (9 : Fin 10).val]? = some 250 ∧
    site.ords.prices[10 * (0 : Fin 10).val + (0 : Fin 10).val]? = some 0 ∧
    Sequence.take 40 site.ords.prices .none .star = .stand (.orderPosition []) ∧
    Sequence.take 40 site.ords.prices .none (.digit 0) = .invalid ∧
    Sequence.take 40 site.ords.prices (.orderEntry 40 [] []) .star = .cancelled ∧
    Sequence.take 40 site.ords.prices (.orderEntry 40 [] []) .hash = .sendOrder 40 [] ∧
    Sequence.take 40 site.ords.prices (.deliveryClose 11 40) .hash = .sendDelivery 11 40 ∧
    (let s := rowWith fun y => { y with interKey := some 0, toneTimer := some 0 };
      s.sys.phase = .running ∧ s.posts.rows[(0 : Fin 48)].interKey ≠ none ∧
        s.posts.rows[(0 : Fin 48)].toneTimer ≠ none) ∧
    ((answered 0 .ok).posts.answers = [⟨1, 9, .ok⟩] ++ ((⟨0, 0, .ok⟩ : PostAnswer) :: []) ∧
      ∀ b ∈ [(⟨1, 9, .ok⟩ : PostAnswer)], b.row ≠ 0) ∧
    (answered 0 .ok).posts.rows[(0 : Fin 48)].sequence.sentTag = some 0 ∧
    (answered 0 .gone).posts.answers = [⟨1, 9, .ok⟩] ++ ((⟨0, 0, .gone⟩ : PostAnswer) :: []) ∧
    (answered 7 .ok).posts.rows[(0 : Fin 48)].sequence.sentTag ≠ some 7 := by decide +kernel

theorem witness_RowCommands :
    site.takes .booth 0x38 ∧ site.takes .booth 0x39 ∧ numbered 48 (0 : Byte) = none ∧
    numbered 48 (49 : Byte) = none ∧
    numbered 48 (48 : Byte) = some 47 ∧ numbered 48 (1 : Byte) = some 0 ∧
    site.posts.rows[(47 : Fin 48)].positions = 0 ∧ site.posts.rows[(0 : Fin 48)].positions ≠ 0 ∧
    site.posts.rows[(0 : Fin 48)].sequence.entries.length ≤ 8 := by decide +kernel

/-! ## Witnesses: orders, the kitchen and the runners -/

/-- The parked car with its list of orders at the order limit. -/
def fullTab : State := (withOrder .preparing false false).modOrds fun y => { y with orderLimit := 1 }

theorem witness_Placement_operation :
    up.ords.windows[(0 : Fin 6)] = false ∧ parked.ords.windows[(0 : Fin 6)] = true ∧
    site.lot.occupants[(0 : Fin 1024)] = none ∧
    parked.lot.occupants[(0 : Fin 1024)] = some { slot := 0, hold := .occupation } ∧
    parked.gate.laneOf 0 = none ∧ (leaving .paying).gate.laneOf 0 ≠ none ∧ ((lost parked).readTab 0).1 = none ∧
    (parked.readTab 0).1.isSome ∧ parked.mem.orderFree = 0 :: (List.finRange 256).drop 1 ∧
    (fullTab.placeOrder 0 0 1 .counter [⟨99, 1⟩]).status = .tooMany ∧
    (parked.placeOrder 0 0 1 .counter [⟨99, 9⟩, ⟨99, 9⟩, ⟨99, 6⟩]).status = .ok ∧
    (parked.placeOrder 0 0 1 .counter [⟨99, 9⟩, ⟨99, 9⟩, ⟨99, 7⟩]).status = .limit ∧
    ((parked.modMem fun m => { m with orderFree := [] }).placeOrder 0 0 1 .counter [⟨99, 1⟩]).status = .full := by
  decide +kernel

theorem witness_Placement_commands :
    parked.takes .booth 0x40 ∧ parked.takes .counter 0x40 ∧
    (Instr.place .counter 1 1 8 (List.replicate 8 ⟨99, 1⟩)).wf = true ∧
    (Instr.place .counter 1 1 0 []).wf = true ∧ parked.lot.named 1 0 = .error .badParam ∧
    parked.lot.named 1 1 = .ok (0, 0) ∧ ¬ (1 ≤ (9 : Byte).toNat ∧ (9 : Byte).toNat ≤ 8) ∧
    99 < (100 : Byte).toNat ∧ ¬ 99 < (99 : Byte).toNat ∧ ¬ (1 ≤ (10 : Byte).toNat ∧ (10 : Byte).toNat ≤ 9) ∧
    (1 ≤ (9 : Byte).toNat ∧ (9 : Byte).toNat ≤ 9) ∧ parked.ords.prices[98]? = some 0 ∧
    parked.ords.prices[99]? = some 250 := by decide +kernel

theorem test_place :
    ans .counter (run (.place .counter 1 1 1 [⟨99, 2⟩]) parked) = some (.ok, [0, 0, 0, 1, 244]) ∧
    (run (.place .counter 1 1 1 [⟨99, 2⟩]) parked).ords.kitchen = [0] := by decide +kernel

/-- A request of row 1 behind one of row 2. -/
def requested (body : RequestBody) (s : State) : State :=
  s.modPosts fun p => { p with requests := [⟨1, 4, body⟩, ⟨0, 5, body⟩] }

theorem witness_Placement_request :
    let q : PostRequest := ⟨1, 4, .place 0 1 [⟨99, 1⟩]⟩
    let s := requested (.place 0 1 [⟨99, 1⟩]) parked
    s.sys.phase = .running ∧ s.posts.requests = [q] ++ ((⟨0, 5, .place 0 1 [⟨99, 1⟩]⟩ : PostRequest) :: []) ∧
    q.row ≠ 0 ∧ s.lot.fields[(0 : Fin 6)] = some field ∧ 1 ≤ field.stallCount ∧
    (run (.placeRequest 0) s).posts.answers = [⟨0, 5, .ok⟩] := by decide +kernel

theorem witness_KitchenCommands :
    ((((withOrder .placed false false).markAdm 0).readOrderAdm 0).1 = none) ∧
    ((withOrder .placed false false).readOrderAdm 0).1.isSome ∧ parked.takes .counter 0x41 ∧
    parked.takes .counter 0x42 ∧ parked.takes .booth 0x4B ∧ parked.takes .booth 0x4C ∧
    OrderHandle.ofWord 0 = ⟨0, 0⟩ ∧ OrderHandle.ofWord 0xFFFF = ⟨255, 255⟩ ∧
    parked.orderCurrent (OrderHandle.ofWord 0xFFFF) = false ∧
    (withOrder .ready false false).orderCurrent (OrderHandle.ofWord 0) = true ∧
    (0 : Fin 256) ∉ (withOrder .ready false false).ords.kitchen ∧
    (0 : Fin 256) ∈ (withOrder .placed false false).ords.kitchen ∧ parked.ords.kitchen = [] ∧
    (withOrder .placed false false).ords.kitchen = [0] ∧
    (((withOrder .placed false false).markOrder 0).readOrder 0).1 = none ∧
    ((withOrder .placed false false).readOrder 0).1.map Order.state = some .placed ∧
    ((withOrder .preparing false false).readOrder 0).1.map Order.state = some .preparing ∧
    ((withOrder .ready false false).readOrder 0).1.map (fun x => x.lines.length) = some 1 := by decide +kernel

theorem test_take :
    ans .counter (run (.take .counter none) (withOrder .placed false false)) =
      some (.ok, [0, 0, 0, 0, 1, 0, 1, 1, 99, 1, 0, 0, 0, 0, 0, 0, 0, 0, 0, 0, 0, 0, 0, 0, 0, 0, 250]) ∧
    ((run (.take .counter none) (withOrder .placed false false)).adm 0).owed = 250 := by decide +kernel

/-- Runner 12 AVAILABLE. -/
def manned (s : State) : State := s.modRunner 11 fun r => { r with state := .available }

theorem witness_Runners :
    up.takes .counter 0x48 ∧ up.takes .counter 0x49 ∧ up.takes .booth 0x4A ∧ up.takes .counter 0x43 ∧
    up.takes .counter 0x45 ∧ numbered 12 (0 : Byte) = none ∧ numbered 12 (13 : Byte) = none ∧
    numbered 12 (12 : Byte) = some 11 ∧ (withOrder .running false false).sys.phase = .running ∧
    (withOrder .running false false).ords.runners[(11 : Fin 12)].tripTimer ≠ none ∧
    (Instr.dispatch .counter 12 3 [0, 1, 2]).wf = true ∧ (Instr.dispatch .counter 12 0 []).wf = true ∧
    ¬ (1 ≤ (4 : Byte).toNat ∧ (4 : Byte).toNat ≤ 3) ∧
    status .counter (run (.dispatch .counter 12 1 [0xFFFF]) (manned (withOrder .ready false false))) = some .stale ∧
    status .counter (run (.dispatch .counter 12 2 [0, 0]) (manned (withOrder .ready false false))) =
      some .badParam ∧
    status .counter (run (.dispatch .counter 12 1 [0]) (withOrder .ready false false)) = some .badState ∧
    (manned (withOrder .ready false false)).ords.runners[(11 : Fin 12)].state = .available ∧
    ((withOrder .ready false false).readOrders [0]).2.1 = true ∧
    (((withOrder .ready false false).markOrder 0).readOrders [0]).2.1 = false ∧
    ((withOrder .placed false false).readOrders [0]).1.map (fun x => x.2.state) = [.placed] ∧
    ((withOrder .ready false false).readOrders [0]).1.map (fun x => x.2.state) = [.ready] ∧
    up.ords.runners[(11 : Fin 12)].state ≠ .out ∧
    (withOrder .running false false).ords.runners[(11 : Fin 12)].state = .out ∧
    ((withOrder .running false false).readOrders [0]).2.1 = true := by decide +kernel

theorem test_dispatch :
    let s := run (.dispatch .counter 12 1 [0]) (manned (withOrder .ready false false))
    status .counter s = some .ok ∧ s.ords.runners[(11 : Fin 12)].carried = [0] ∧ (s.order 0).state = .running := by
  decide +kernel

theorem witness_Deliveries_commands :
    up.takes .counter 0x44 ∧ up.takes .counter 0x47 ∧ parked.orderCurrent (OrderHandle.ofWord 0xFFFF) = false ∧
    (withOrder .running false false).orderCurrent (OrderHandle.ofWord 0) = true ∧
    (((withOrder .running false false).markOrder 0).readOrder 0).1 = none ∧
    (let s := (withOrder .running true false).markAdm 0;
      (s.readOrder 0).1.map Order.paid = some true ∧ ((s.readOrder 0).2.readAdm 0).1 = none) ∧
    ((withOrder .ready false false).readOrder 0).1.map (fun x => (x.paid, x.state)) = some (false, .ready) ∧
    ((withOrder .running true false).readOrder 0).1.map (fun x => (x.paid, x.state)) = some (true, .running) ∧
    (((withOrder .ready false true).markAdm 0).readOrderAdm 0).1 = none ∧
    ((withOrder .ready false false).readOrderAdm 0).1.map (fun t => t.1.collect) = some false ∧
    ((withOrder .ready false true).readOrderAdm 0).1.map (fun t => (t.1.collect, t.1.state)) = some (true, .ready) ∧
    ((withOrder .running false true).readOrderAdm 0).1.map (fun t => (t.1.collect, t.1.state)) =
      some (true, .running) := by decide +kernel

theorem test_delivered_paid_order_retires :
    let s := run (.delivered .counter 0) (withOrder .running true false)
    status .counter s = some .ok ∧ s.orderLive 0 = false ∧ s.ords.runners[(11 : Fin 12)].tripTimer = none ∧
    s.night.delivered = 1 := by decide +kernel

theorem witness_Deliveries_confirm :
    let body : RequestBody := .confirm 11 0 1
    let s := requested body (withOrder .running false false)
    s.sys.phase = .running ∧
    s.posts.requests = [(⟨1, 4, body⟩ : PostRequest)] ++ ((⟨0, 5, body⟩ : PostRequest) :: []) ∧
    ((withOrder .running false false).readOrders [0]).1.map (fun x => (x.2.screen, x.2.stall, x.2.collect)) =
      [(0, 1, false)] ∧
    (run (.confirm 0) s).posts.answers = [⟨0, 5, .ok⟩] ∧
    (run (.confirm 0) (requested (.confirm 11 0 2) (withOrder .running false false))).posts.answers =
      [⟨0, 5, .notCarried⟩] ∧
    (run (.confirm 0) (requested body (withOrder .running false true))).posts.answers = [⟨0, 5, .gone⟩] ∧
    (run (.confirm 0) (requested body ((withOrder .running false false).markAdm 0))).posts.answers =
      [⟨0, 5, .damaged⟩] ∧
    (run (.confirm 0) (requested body ((withOrder .running false false).markOrder 0))).posts.answers =
      [⟨0, 5, .damaged⟩] := by decide +kernel

theorem witness_CancelsAndForceRetire_cancel :
    up.takes .booth 0x46 ∧ up.takes .counter 0x46 ∧ parked.orderCurrent (OrderHandle.ofWord 0xFFFF) = false ∧
    (withOrder .placed false false).orderCurrent (OrderHandle.ofWord 0) = true ∧
    (((withOrder .placed false false).markAdm 0).readOrderAdm 0).1 = none ∧
    (∀ st ∈ [OrderState.placed, .preparing, .ready, .running, .delivered],
      ((withOrder st false false).readOrderAdm 0).1.map (fun t => (t.1.state, t.1.paid)) = some (st, false)) ∧
    ((withOrder .ready true false).readOrderAdm 0).1.map (fun t => t.1.paid) = some true ∧
    (withOrder .ready false false).admClean 0 := by decide +kernel

theorem test_cancel :
    ans .booth (run (.cancel .booth 0) (withOrder .ready false false)) = some (.ok, [0, 0, 0]) ∧
    ans .booth (run (.cancel .booth 0) (withOrder .ready true false)) = some (.badState, []) := by decide +kernel

theorem witness_CancelsAndForceRetire_newest :
    let body : RequestBody := .cancelNewest 0 1
    let s (st : OrderState) := requested body (withOrder st false false)
    (s .placed).posts.requests = [(⟨1, 4, body⟩ : PostRequest)] ++ ((⟨0, 5, body⟩ : PostRequest) :: []) ∧
    (s .placed).lot.fields[(0 : Fin 6)] = some field ∧ site.carAt 0 = none ∧ parked.carAt 0 = some 0 ∧
    ((lost parked).readTab 0).1 = none ∧ (run (.cancelNewest 0) (s .placed)).posts.answers = [⟨0, 5, .ok⟩] ∧
    (run (.cancelNewest 0) (s .ready)).posts.answers = [⟨0, 5, .nonePlaced⟩] ∧ ¬ (105 ≤ field.stallCount) ∧
    (let s := requested (.cancelNewest 0 105) parked;
      (run (.cancelNewest 0) s).posts.answers = [⟨0, 5, .noCar⟩]) := by decide +kernel

theorem witness_CancelsAndForceRetire_force :
    up.takes .booth 0x4D ∧ up.takes .counter 0x4D ∧ parked.orderCurrent (OrderHandle.ofWord 0xFFFF) = false ∧
    (withOrder .ready false false).orderCurrent (OrderHandle.ofWord 0) = true ∧
    (let s := (withOrder .ready false false).markAdm 0;
      (s.readOrder 0).1.isSome ∧ (s.orderOwner ⟨0, 0⟩ (s.readOrder 0).1).1 = none) ∧
    (let s := (withOrder .ready false false).markOrder 0;
      (s.readOrder 0).1 = none ∧ (s.orderOwner ⟨0, 0⟩ none).1.map Prod.fst = some 0) := by decide +kernel

/-- The car's order with its damage mark. -/
def orderLost : State := (withOrder .ready false false).markOrder 0

/-- A slot that is not in the tail of the list of all slots is slot 0. -/
theorem zero_of_notMem_tail (n : Nat) (a : Fin (n + 1)) (h : a ∉ (List.finRange (n + 1)).tail) : a = 0 := by
  have mem := List.mem_finRange a
  rw [List.finRange_succ] at mem h
  exact (List.mem_cons.mp mem).resolve_right h

/-- The car's admission is the only live one. -/
theorem orderLost_live : ∀ a ∈ orderLost.liveAdms, a = 0 := by
  have free : orderLost.mem.admFree = (List.finRange 1024).tail := by decide +kernel
  intro a ha
  have notFree : a ∉ (List.finRange 1024).tail := by
    rw [← free]
    simpa [State.liveAdms, State.admLive] using ha
  exact zero_of_notMem_tail 1023 a notFree

theorem witness_CancelsAndForceRetire_owner :
    (∀ a ∈ orderLost.liveAdms, orderLost.mem.admissions[a].marked = true ∨ orderLost.admClean a) ∧
    orderLost.admLive 0 = true ∧ orderLost.admClean 0 ∧ orderLost.mem.admissions[(0 : Fin 1024)].marked = false ∧
    (orderLost.adm 0).orders = [⟨0, 0⟩] ∧ (parked.adm 0).orders = [] := by
  have clean : orderLost.admClean 0 := by decide +kernel
  refine ⟨fun a ha => .inr (orderLost_live a ha ▸ clean), ?_, clean, ?_⟩ <;> decide +kernel

theorem test_force_retire_marked_order :
    ans .booth (run (.forceRetireOrder .booth 0) ((withOrder .ready false false).markOrder 0)) =
      some (.ok, [0, 0, 250]) := by decide +kernel

/-! ## Witnesses: tabs and the night -/

theorem witness_Settle :
    up.takes .booth 0x50 ∧ up.takes .counter 0x50 ∧
    status .counter (run (.settle .counter 0xFFFF 0) parked) = some .stale ∧
    status .counter (run (.settle .counter 0 100000) parked) = some .badParam ∧
    status .counter (run (.settle .counter 0 99999) parked) = some .mismatch ∧
    ((lost parked).readTab 0).1 = none ∧
    ((withOrder .ready false false).readTab 0).1.map (fun t => t.1.owed) = some (250#24).toNat ∧
    (withOrder .ready false false).tabClean 0 ∧
    (((withOrder .ready false false).adm 0).orders.map OrderHandle.slot).Nodup := by decide +kernel

theorem test_settle :
    ans .counter (run (.settle .counter 0 250) (withOrder .delivered false false)) =
      some (.ok, [0, 0, 250, 1, 1, 0]) := by decide +kernel

/-- One unit of the store written with these bytes. -/
def withUnit (area : Fin 6) (unit : Fin 64) (b : Vector Byte 16) (s : State) : State :=
  s.modStore fun r => { r with units := upd r.units (unitIndex area unit) (StoreUnit.write b) }

/-- A layout of one field: one row of pattern U, home channel 1, capacity 8, orders during the feature; and a default
show of one segment for its screen. -/
def built : State :=
  withUnit 5 1 #v[0, 60, 0, 0, 7, 0, 0, 0, 0, 0, 0, 0, 0, 0, 0, 0] <|
  withUnit 5 0 #v[1, 0, 0, 0, 0, 0, 0, 0, 0, 0, 0, 0, 0, 0, 0, 0] <|
  withUnit 1 1 #v[1, 1, 1, 8, 1, 0, 0, 0, 0, 0, 0, 0, 0, 0, 0, 0] <|
  withUnit 1 0 #v[1, 0, 0, 0, 0, 0, 0, 0, 0, 0, 0, 0, 0, 0, 0, 0] up

theorem witness_OpenNight_refused :
    up.takes .booth 0x58 ∧ site.night.state ≠ .closed ∧ up.night.state = .closed ∧ programming.store.op ≠ none ∧
    up.store.op = none ∧ up.store.nightFault = some (1, 0) ∧ up.store.siteFault = none ∧
    up.store.priceFault = none ∧ up.store.layoutFault = some 0 ∧
    (withUnit 2 6 (Vector.replicate 16 0) up).store.siteFault = some 6 ∧
    (withUnit 3 12 #v[0x27, 0x10, 0, 0, 0, 0, 0, 0, 0, 0, 0, 0, 0, 0, 0, 0] up).store.priceFault = some 12 ∧
    (withUnit 3 12 #v[0x27, 0x0F, 0, 0, 0, 0, 0, 0, 0, 0, 0, 0, 0, 0, 0, 0] up).store.priceFault = none := by
  decide +kernel

theorem witness_OpenNight_opens :
    built.takes .booth 0x58 ∧ built.night.state = .closed ∧ built.store.op = none ∧
    built.store.nightFault = none ∧ (built.store.fields[(0 : Fin 6).val]?).join.isSome ∧
    (built.store.defaultShow 0).isSome ∧ built.store.defaultShow 5 = none := by decide +kernel

theorem test_open_night : ans .booth (run (.openNight .booth) built) = some (.ok, [1, 0, 40]) := by decide +kernel

theorem witness_CloseNightAndReadTotals :
    up.takes .booth 0x59 ∧ up.takes .booth 0x5B ∧ up.night.state = .closed ∧ site.night.state = .opened ∧
    (site.modNight fun n => { n with state := .closing }).night.state = .closing ∧
    (let s := up.modNight fun n => { n with state := .opened };
      s.mem.admFree.length = 1024 ∧ s.mem.orderFree.length = 256 ∧
        ∀ n : Fin 6, s.shows.screens[n].state = .dark) ∧
    parked.mem.admFree.length ≠ 1024 ∧ site.shows.screens[(0 : Fin 6)].state ≠ .dark ∧
    up.sys.phase = .running ∧ up.sys.resetWaiting = false := by decide +kernel

theorem witness_ForceClose :
    up.takes .booth 0x5A ∧ up.night.state = .closed ∧ parked.takes .booth 0x5A ∧ parked.night.state ≠ .closed ∧
    (let s := withOrder .ready false false;
      s.liveOrders = [0] ∧ s.orderMarked 0 = false ∧ s.orderClean 0 ∧ s.orderMarked 0 = false) ∧
    (let s := (withOrder .ready false false).markOrder 0; s.liveOrders = [0] ∧ s.orderMarked 0 = true) := by
  decide +kernel

/-! ## Witnesses: domains -/

theorem witness_DomainCommands :
    up.takes .booth 0x60 ∧ up.takes .booth 0x61 ∧ up.takes .booth 0x62 ∧ up.takes .booth 0x63 ∧
    up.liveOrders = [] ∧ numbered 8 (0 : Byte) = none ∧ numbered 8 (9 : Byte) = none ∧
    numbered 8 (8 : Byte) = some 7 ∧ (0x80 : Byte).getLsbD 7 = true ∧ (0x80 : Byte).getLsbD 0 = false ∧
    (∀ st ∈ [DomainState.active, .waking, .faulted, .stopping, .resting], ∀ ready : Bool,
      (domainWith 7 st ready up).doms.domains[(7 : Fin 8)].state = st ∧
        (domainWith 7 st ready up).doms.domains[(7 : Fin 8)].ready.level = ready) ∧
    (withOrder .ready false false).liveOrders = [0] ∧ (withOrder .ready false false).orderClean 0 ∧
    (∀ st ∈ [DomainState.active, .waking, .faulted, .stopping, .resting],
      (domainWith 5 st true up).doms.domains[screenDomain 5].state = st) := by
  decide +kernel

theorem test_rest :
    ans .booth (run (.rest .booth) (run (.setRestPlan .booth 0xC0) up)) = some (.ok, [1, 1, 1, 1, 1, 1, 2, 2]) ∧
    ans .booth (run (.rest .booth) (run (.setRestPlan .booth 0x41) (withOrder .ready false false))) =
      some (.planInvalid, [1]) := by decide +kernel

theorem witness_DomainInputs :
    ∀ st ∈ [DomainState.active, .waking, .faulted, .stopping, .resting], ∀ i ∈ [DomainInput.ready, .stopAck],
      ∀ high : Bool,
      let s := (domainWith 6 st true up).modDomain 6 (Domain.modInput i fun x =>
        { x with raw := high, timer := some 0 })
      s.sys.phase = .running ∧ (s.doms.domains[(6 : Fin 8)].input i).timer ≠ none ∧
        s.doms.domains[(6 : Fin 8)].state = st ∧ (s.doms.domains[(6 : Fin 8)].input i).raw = high := by
  decide +kernel

theorem witness_DomainChanges :
    (∀ st ∈ [DomainState.waking, .stopping],
      let s := domainWith 7 st true up
      s.sys.phase = .running ∧ s.doms.domains[(7 : Fin 8)].timer ≠ none ∧ s.doms.domains[(7 : Fin 8)].state = st ∧
        s.doms.domains[(7 : Fin 8)].ready.level = true) ∧
    (domainWith 7 .stopping false up).doms.domains[(7 : Fin 8)].ready.level = false ∧
    (0 : Fin 8).val = (0 : Fin 6).val ∧ (5 : Fin 8).val = (5 : Fin 6).val ∧
    (∀ st ∈ [ShowState.starting, .running, .intermission, .held],
      (showing st [short] (some 1)).shows.screens[(0 : Fin 6)].state = st) ∧
    site.doms.domains[(0 : Fin 8)].state = .active ∧
    (sounding (.live 2) 0).chans.sounds[(0 : Fin 6)].wanting = true ∧
    site.chans.sounds[(0 : Fin 6)].wanting = false := by decide +kernel

/-! ## Witnesses: the standing store -/

/-- An erased unit with the given bits wrong. -/
def wornUnit (w : BitVec 137) : StoreUnit := { StoreUnit.erased with wrong := w }

/-- The first and last bit of the bytes, the first and last of the check code, and two bits far apart. -/
theorem witness_StoreCommands_units :
    (∀ k ∈ [0, 127, 128, 136], k < 137 ∧ (wornUnit (1#137 <<< k)).wrong = 1#137 <<< k ∧
      (wornUnit (1#137 <<< k)).health = .single) ∧
    (wornUnit (1#137 <<< 128)).status = .erased ∧ (wornUnit (1#137 <<< 127)).status = .corrected ∧
    (let w := 1#137 <<< 136 ||| 1#137;
      (wornUnit w).wrong.getLsbD 0 = true ∧ (wornUnit w).wrong.getLsbD 136 = true ∧
        (wornUnit w).status = .uncorrectable) := by decide +kernel

/-- A weak cell leaves a unit CORRECTED at its first program; erased and written again, it is PROGRAMMED (R190). -/
theorem test_weak_cell :
    let content : Vector Byte 16 := Vector.replicate 16 7
    let first := StoreUnit.write content { StoreUnit.erased with flaws := [1#137 <<< 3] }
    first.status = .corrected ∧ first.bytes = content ∧ first.stored ≠ content ∧
    (StoreUnit.write erasedBytes first).status = .erased ∧
    (StoreUnit.write content (StoreUnit.write erasedBytes first)).status = .programmed := by decide +kernel

theorem witness_StoreCommands :
    up.takes .booth 0x68 ∧ up.takes .booth 0x69 ∧ up.takes .booth 0x6A ∧ up.takes .booth 0x6B ∧
    indexed 6 (6 : Byte) = none ∧ indexed 64 (64 : Byte) = none ∧ indexed 6 (5 : Byte) = some 5 ∧
    indexed 64 (63 : Byte) = some 63 ∧ indexed 6 (0 : Byte) = some 0 ∧
    programming.store.op.map StoreOp.area = some 5 ∧ programming.store.op.map StoreOp.area ≠ some 0 ∧
    (up.store.unit 5 0).status = .erased ∧
    ((withUnit 5 0 (Vector.replicate 16 7) up).store.unit 5 0).status ≠ .erased ∧
    (Vector.replicate 16 (7 : Byte)).toList = List.replicate 16 7 ∧
    status .booth (run (.storeProgram .booth 0 0 (List.replicate 16 7)) up) = some .locked ∧
    status .booth (run (.storeProgram .booth 1 0 (List.replicate 16 7)) programming) = some .busy ∧
    status .booth (run (.storeErase .booth 1) (up.modStore fun r => { r with locked := true })) = some .locked ∧
    status .booth (run (.storeErase .booth 5) (up.modStore fun r => { r with locked := true })) =
      some .accepted := by decide +kernel

theorem test_identity_unit_read :
    ans .booth (run (.storeRead .booth 0 0) up) =
      some (.ok, [2, 0x02, 0x60, 0x41, 0, 0, 0, 0, 0, 0, 0, 0, 0xFF, 0xFF, 0xFF, 0xFF, 0xFF]) := by decide +kernel

theorem witness_StoreCompletions :
    (let s := up.modStore fun r => { r with op := some (.program 1 0 (Vector.replicate 16 7) (some 0)) };
      s.store.op = some (.program 1 0 (Vector.replicate 16 7) (some 0)) ∧ s.sys.resetWaiting = false) ∧
    (waiting.modStore fun r => { r with op := some (.erase 1 (some 0)) }).sys.resetWaiting = true ∧
    erasing.store.op = some (.erase 1 (some 300)) ∧ up.store.op = none ∧
    (up.store.unit 1 0).flaws.headD 0 = 0 ∧ erasedBytes = Vector.replicate 16 255 := by decide +kernel

/-! ## Witnesses: the invariants -/

theorem witness_StepKeepsAttentionLines : (run (.nop .booth) up).attentionGood := by
  unfold State.attentionGood Port.attentionGood
  decide +kernel

theorem witness_StepKeepsOutputLines :
    site.projectorLinesGood ∧ site.stopLinesGood ∧ site.carrierCodesGood ∧ site.barriersGood := by
  unfold State.projectorLinesGood State.stopLinesGood State.carrierCodesGood State.barriersGood
  decide +kernel

theorem witness_StepKeepsWindows : up.windowsGood := by
  unfold State.windowsGood
  decide +kernel

theorem witness_StepKeepsLimits_counts : site.limitsGood := by
  unfold State.limitsGood
  decide +kernel

theorem countP_fresh {α : Type} (n : Nat) (x : α) :
    ((Vector.replicate n ([] : List Health)).map (Slot.fresh x)).toList.countP Slot.marked = 0 := by
  rw [List.countP_eq_zero]
  intro y hy
  simp only [Vector.toList_map, Vector.toList_replicate, List.map_replicate, List.mem_replicate] at hy
  rw [hy.2]
  simp [Slot.fresh]

theorem witness_StepKeepsLimits_marks : up.marksGood := ⟨(countP_fresh 1024 _).symm, (countP_fresh 256 _).symm⟩

end Sys2Proof.Tests
end

section
/-!
SUPPORT. What the proofs about the order table share: a command that its port takes, the first failing check of a
list, the reads of a list of owners, and the oldest request of a row.
-/

namespace Sys2Proof.Orders

open Sys2Proof Sys2Proof.Machine

/-! ## The handing over of a command (R199) -/

/-- A command that its port takes is answered with what its block hands back. -/
theorem next_command_of_block {p : PortId} {code : Byte} {block : State → Reply} {s : State} {r : Reply}
    (h : s.takes p code) (hb : block s = r) :
    (.next (s.command p code true block) : Host.Outcome State Fault Refusal) =
      .next (r.state.answer p code r.status r.data) := by
  rw [command_taken p code block s h, hb]

/-! ## Checks in order -/

@[simp] theorem firstFailing_nil : firstFailing [] = none := rfl

@[simp] theorem firstFailing_cons (fails : Bool) (status : Status) (checks : List (Bool × Status)) :
    firstFailing ((fails, status) :: checks) = if fails then some status else firstFailing checks := by
  cases fails <;> simp [firstFailing]

/-! ## Lists in an answer (R209) -/

/-- A list that fits its capacity takes its count byte and every place of the capacity. -/
theorem length_listBytes {α : Type} {capacity width : Nat} {enc : α → List Byte} {l : List α}
    (hw : ∀ x ∈ l, (enc x).length = width) (hl : l.length ≤ capacity) :
    (listBytes capacity width enc l).length = 1 + width * capacity := by
  have entries : (l.flatMap enc).length = width * l.length := by
    rw [List.length_flatMap, List.map_congr_left hw, List.map_const', List.sum_replicate, smul_eq_mul, mul_comm]
  have places : width * l.length + width * (capacity - l.length) = width * capacity := by
    rw [← mul_add, Nat.add_sub_cancel' hl]
  simp only [listBytes, List.take_of_length_le hl, List.length_append, List.length_cons, List.length_replicate, entries]
  omega

/-! ## Reads -/

theorem each_readFrame {α : Type} {f : α → State → State} (h : ∀ (a : α) (s : State), s.readFrame (f a s))
    (l : List α) (s : State) : s.readFrame (s.each l f) := by
  unfold State.each
  induction l generalizing s with
  | nil => rfl
  | cons a rest ih => exact readFrame_trans (h a s) (ih (f a s))

theorem readOwners_readFrame (l : List (Fin 256 × Order)) (s : State) : s.readFrame (s.readOwners l).2 := by
  induction l generalizing s with
  | nil => rfl
  | cons o rest ih => exact readFrame_trans (readAdm_readFrame s o.2.admission.slot) (ih _)

/-! ## Requests of the rows (R118) -/

/-- The oldest request of a row that `f` takes is handed to the order table, off the list, and its answer goes to the
row. -/
theorem takeRequest_oldest {α : Type} {row : Fin 48} {f : RequestBody → Option α} {q : PostRequest} {x : α}
    {before after : List PostRequest} {s : State} (act : α → State → Status × State)
    (hs : s.posts.requests = before ++ q :: after) (hb : ∀ y ∈ before, (f y.body).isSome → y.row ≠ row)
    (hrow : q.row = row) (hf : f q.body = some x) :
    s.takeRequest row f act =
      let r := act x { s with posts := { s.posts with requests := before ++ after } }
      r.2.answerRequest q r.1 := by
  have found : (before ++ q :: after).find? (fun y => decide (y.row = row ∧ (f y.body).isSome)) = some q := by
    refine List.find?_eq_some_iff_append.mpr ⟨by simp [hrow, hf], before, after, rfl, fun y hy => ?_⟩
    simpa only [Bool.not_eq_true', decide_eq_false_iff_not] using fun h => hb y hy h.2 h.1
  have notBefore : q ∉ before := fun hq => hb q hq (by simp [hf]) hrow
  have erased : (before ++ q :: after).erase q = before ++ after := by
    rw [List.erase_append_right _ notBefore, List.erase_cons_head]
  simp only [State.takeRequest, hs, found, hf, State.modPosts, erased]

theorem readFrame_answers {s t : State} (h : s.readFrame t) : t.posts.answers = s.posts.answers := by
  rw [readFrame_posts h]

theorem orderFrame_answers {s t : State} (h : s.orderFrame t) : t.posts.answers = s.posts.answers := by
  rw [orderFrame_posts h]

/-- An answer on its way when the taking kept the answers of `s`. -/
theorem answerRequest_eq {s t : State} {q : PostRequest} {status : Status} (h : t.posts.answers = s.posts.answers) :
    t.answerRequest q status = { t with posts := { t.posts with
      answers := s.posts.answers ++ [⟨q.row, q.tag, status⟩] } } := by
  rw [← h]
  rfl

end Sys2Proof.Orders
end

section
/-!
SUPPORT. The kitchen (R131 to R133) and the lookups (R147): what each block hands back for each outcome of its checks,
and the statement about them.
-/

namespace Sys2Proof.Orders

open Sys2Proof Sys2Proof.Machine

variable {w : Word16} {s u : State} {k : Fin 256}

/-! ## TAKE (R132) -/

theorem takeMember_damaged (h : s.readOrderAdm k = (none, u)) : s.takeMember k = u.refuse .damaged := by
  simp only [State.takeMember, h]

theorem takeMember_read {x : Order} {y : Admission} (h : s.readOrderAdm k = (some (x, y), u)) :
    s.takeMember k = (u.takeOrder k x).ok (u.ticket k x) := by
  simp only [State.takeMember, h]

theorem take_stale (h : s.orderCurrent (.ofWord w) = false) : take (some w) s = s.refuse .stale := by
  simp [take, h]

theorem take_badState (h : s.orderCurrent (.ofWord w) = true) (hk : (OrderHandle.ofWord w).slot ∉ s.ords.kitchen) :
    take (some w) s = s.refuse .badState := by
  simp [take, h, hk]

theorem take_named (h : s.orderCurrent (.ofWord w) = true) (hk : (OrderHandle.ofWord w).slot ∈ s.ords.kitchen) :
    take (some w) s = s.takeMember (OrderHandle.ofWord w).slot := by
  simp [take, h, hk]

theorem take_empty (h : s.ords.kitchen = []) : take none s = s.refuse .empty := by
  simp [take, h]

theorem take_head {rest : List (Fin 256)} (h : s.ords.kitchen = k :: rest) : take none s = s.takeMember k := by
  simp [take, h]

/-! ## READY (R133) -/

theorem readyCommand_stale (h : s.orderCurrent (.ofWord w) = false) : readyCommand w s = s.refuse .stale := by
  simp [readyCommand, h]

theorem readyCommand_damaged (h : s.orderCurrent (.ofWord w) = true)
    (hr : s.readOrder (OrderHandle.ofWord w).slot = (none, u)) : readyCommand w s = u.refuse .damaged := by
  simp [readyCommand, h, hr]

theorem readyCommand_read {x : Order} (h : s.orderCurrent (.ofWord w) = true)
    (hr : s.readOrder (OrderHandle.ofWord w).slot = (some x, u)) :
    readyCommand w s = if x.state ≠ .preparing then u.refuse .badState else
      (u.writeOrder (OrderHandle.ofWord w).slot fun y => { y with state := .ready }).ok [] := by
  simp [readyCommand, h, hr]

/-! ## LOOKUP_ORDER (R13, R147) -/

theorem lookupOrder_stale (h : s.orderCurrent (.ofWord w) = false) : lookupOrder w s = s.refuse .stale := by
  simp [lookupOrder, h]

theorem lookupOrder_read {x : Order} (h : s.orderCurrent (.ofWord w) = true)
    (hr : s.readOrder (OrderHandle.ofWord w).slot = (some x, u)) :
    lookupOrder w s = u.ok (x.bytes (.ofWord w)) := by
  simp [lookupOrder, h, hr]

theorem lookupOrder_damaged (h : s.orderCurrent (.ofWord w) = true)
    (hr : s.readOrder (OrderHandle.ofWord w).slot = (none, u)) :
    lookupOrder w s = ⟨u, .damaged, u.damagedOrderBytes (.ofWord w)⟩ := by
  simp [lookupOrder, h, hr]

/-- The answer for a readable order fills the 34 bytes of its format when the order has at most 8 lines. -/
theorem length_orderBytes (h : OrderHandle) {x : Order} (hl : x.lines.length ≤ 8) : (x.bytes h).length = 34 := by
  have lines := length_listBytes (enc := Line.bytes) (width := 2) (fun _ _ => rfl) hl
  simp only [Order.bytes, OrderHandle.bytes, AdmHandle.bytes, bytes2, bytes3, List.length_append, lines,
    List.length_cons, List.length_nil]

/-- The two bytes that the index store gives for a marked order: PLACED in the kitchen queue, RUNNING with its runner
on a carried list, and otherwise nothing. -/
theorem damagedOrderBytes_eq (h : OrderHandle) : s.damagedOrderBytes h =
    ([1] : List Byte) ++ h.bytes ++ (List.replicate 9 0 : List Byte) ++
      (if h.slot ∈ s.ords.kitchen then ([1, 0] : List Byte)
        else match s.ords.runnerOf h.slot with
          | some r => ([4, byte1 (r.val + 1)] : List Byte)
          | none => ([0, 0] : List Byte)) ++
      List.replicate 20 0 := by
  unfold State.damagedOrderBytes
  by_cases queued : h.slot ∈ s.ords.kitchen
  · simp [queued, OrderState.number, byte1]
  · cases carrier : s.ords.runnerOf h.slot <;>
      simp [queued, OrderState.number, numberByte, byte1]

/-! ## The statement -/

/-- Settles O43: each command is taken by its port, and its block's outcomes are those of the lemmas above. -/
theorem kitchenCommands : Obligations.KitchenCommands := by
  refine ⟨fun k s u => ⟨takeMember_damaged, fun x y => takeMember_read⟩, ?take, ?ready, ?peek, ?lookup⟩
  case take =>
    intro w s ht
    exact ⟨fun h => next_command_of_block ht (take_stale h),
      fun h hk => next_command_of_block ht (take_badState h hk),
      fun h hk => next_command_of_block ht (take_named h hk), fun h => next_command_of_block ht (take_empty h),
      fun k rest h => next_command_of_block ht (take_head h)⟩
  case ready =>
    intro w s u ht
    refine ⟨fun h => next_command_of_block ht (readyCommand_stale h),
      fun h hr => next_command_of_block ht (readyCommand_damaged h hr), fun x h hr => ?_⟩
    have read := readyCommand_read h hr
    exact ⟨fun hx => next_command_of_block ht (read.trans (if_pos hx)),
      fun hx => next_command_of_block ht (read.trans (if_neg (not_not.mpr hx)))⟩
  case peek => exact fun p s ht => next_command_of_block ht rfl
  case lookup =>
    intro p w s u ht
    refine ⟨fun h => next_command_of_block ht (lookupOrder_stale h),
      fun x h hr => ⟨next_command_of_block ht (lookupOrder_read h hr), length_orderBytes _⟩, fun h hr => ?_⟩
    have damaged := lookupOrder_damaged h hr
    rw [damagedOrderBytes_eq] at damaged
    exact next_command_of_block ht damaged

end Sys2Proof.Orders
end

section
/-!
SUPPORT. The runners (R134 to R136, R140): what each block hands back for each outcome of its checks, and the statement
about them.
-/

namespace Sys2Proof.Orders

open Sys2Proof Sys2Proof.Machine

variable {b : Byte} {r : Fin 12} {s u : State}

/-! ## RUNNER_ON, RUNNER_OFF and READ_RUNNER (R134) -/

theorem runnerOn_badParam (h : numbered 12 b = none) : runnerOn b s = s.refuse .badParam := by
  simp [runnerOn, h]

theorem runnerOn_off (h : numbered 12 b = some r) (hoff : s.ords.runners[r].state = .off) :
    runnerOn b s = (s.modRunner r fun x => { x with state := .available }).ok [2] := by
  have now : (upd s.ords.runners r fun x => { x with state := .available })[r].state = .available := by
    rw [upd_get, if_pos rfl]
  simp only [runnerOn, h, if_pos hoff, modRunner_ords, now]
  rfl

theorem runnerOn_working (h : numbered 12 b = some r) (hoff : s.ords.runners[r].state ≠ .off) :
    runnerOn b s = s.ok [byte1 s.ords.runners[r].state.number] := by
  simp only [runnerOn, h, if_neg hoff]

theorem runnerOff_badParam (h : numbered 12 b = none) : runnerOff b s = s.refuse .badParam := by
  simp [runnerOff, h]

theorem runnerOff_available (h : numbered 12 b = some r) (hx : s.ords.runners[r].state = .available) :
    runnerOff b s = (s.modRunner r fun x => { x with state := .off }).ok [1] := by
  simp only [runnerOff, h, hx]
  rfl

theorem runnerOff_off (h : numbered 12 b = some r) (hx : s.ords.runners[r].state = .off) :
    runnerOff b s = s.ok [1] := by
  simp only [runnerOff, h, hx]
  rfl

theorem runnerOff_out (h : numbered 12 b = some r) (hx : s.ords.runners[r].state = .out) :
    runnerOff b s = s.refuse .badState := by
  simp only [runnerOff, h, hx]

theorem readRunner_badParam (h : numbered 12 b = none) : readRunner b s = s.refuse .badParam := by
  simp [readRunner, h]

theorem readRunner_named (h : numbered 12 b = some r) :
    readRunner b s =
      let x := s.ords.runners[r]
      s.ok ([byte1 x.state.number] ++ listBytes 3 2 (fun k => (s.orderHandle k).bytes) x.carried ++
        optSeconds x.tripStart ++ [flagByte x.late] ++ bytes2 (secondsUp (x.tripTimer.getD 0))) := by
  simp only [readRunner, h]

/-! ## TRIP_TIMER_EXPIRY (R136) -/

theorem execTripTimerExpiry_running (hs : s.sys.phase = .running) (ht : s.ords.runners[r].tripTimer ≠ none) :
    execTripTimerExpiry r s =
      .next ((s.modRunner r fun y => { y with late := true, tripTimer := none }).raiseCounter .runnerLate) := by
  rw [execTripTimerExpiry, whileRunning_running s _ hs, if_pos (Option.isSome_iff_ne_none.mpr ht)]

/-! ## DISPATCH (R135) -/

section

variable {count : Byte} {handles : List Word16}

/-- The order slots that the handles of a DISPATCH name. -/
def handleSlots (handles : List Word16) : List (Fin 256) := (handles.map OrderHandle.ofWord).map OrderHandle.slot

/-- The checks of DISPATCH between those of its numbers and those of its orders: the handles, each once, and the
runner (R135 checks 2 to 4). -/
def dispatchChecks (r : Fin 12) (handles : List Word16) (s : State) : List (Bool × Status) :=
  [(!(handles.map OrderHandle.ofWord).all s.orderCurrent, .stale),
    (decide (¬ (handleSlots handles).Nodup), .badParam), (decide (s.ords.runners[r].state ≠ .available), .badState)]

theorem dispatch_badParam (h : numbered 12 b = none ∨ ¬ (1 ≤ count.toNat ∧ count.toNat ≤ 3)) :
    dispatch b count handles s = s.refuse .badParam := by
  cases hb : numbered 12 b with
  | none => simp only [dispatch, hb]
  | some r => simp only [dispatch, hb, if_pos (h.resolve_left (by simp [hb]))]

theorem dispatchChecks_pass : firstFailing (dispatchChecks r handles s) = none ↔
    (handles.map OrderHandle.ofWord).all s.orderCurrent = true ∧ (handleSlots handles).Nodup ∧
      s.ords.runners[r].state = .available := by
  simp only [dispatchChecks, firstFailing_cons, firstFailing_nil, decide_eq_true_eq]
  split_ifs <;> simp_all

theorem dispatch_refused {status : Status} (h : numbered 12 b = some r) (hc : 1 ≤ count.toNat ∧ count.toNat ≤ 3)
    (hf : firstFailing (dispatchChecks r handles s) = some status) : dispatch b count handles s = s.refuse status := by
  simp only [dispatchChecks, firstFailing_cons, firstFailing_nil, decide_eq_true_eq] at hf
  simp only [dispatch, h, if_neg (not_not.mpr hc)]
  split at hf
  case isTrue stale =>
    cases hf
    rw [if_pos stale]
  case isFalse current =>
    rw [if_neg current]
    split at hf
    case isTrue twice =>
      cases hf
      exact if_pos twice
    case isFalse once =>
      split at hf
      case isTrue away =>
        cases hf
        exact (if_neg once).trans (if_pos away)
      case isFalse => cases hf

theorem dispatch_damaged {xs : List (Fin 256 × Order)} (h : numbered 12 b = some r)
    (hc : 1 ≤ count.toNat ∧ count.toNat ≤ 3) (hf : firstFailing (dispatchChecks r handles s) = none)
    (hr : s.readOrders (handleSlots handles) = (xs, false, u)) : dispatch b count handles s = u.refuse .damaged := by
  obtain ⟨current, once, there⟩ := dispatchChecks_pass.mp hf
  simp only [handleSlots] at once hr
  simp only [dispatch, h, if_neg (not_not.mpr hc), current, once, there, hr]
  rfl

theorem dispatch_read {xs : List (Fin 256 × Order)} (h : numbered 12 b = some r)
    (hc : 1 ≤ count.toNat ∧ count.toNat ≤ 3) (hf : firstFailing (dispatchChecks r handles s) = none)
    (hr : s.readOrders (handleSlots handles) = (xs, true, u)) :
    dispatch b count handles s =
      if ∃ x ∈ xs, x.2.state ≠ .ready then u.refuse .badState else (u.sendOut r (handleSlots handles)).ok [] := by
  obtain ⟨current, once, there⟩ := dispatchChecks_pass.mp hf
  simp only [handleSlots] at once hr ⊢
  simp only [dispatch, h, if_neg (not_not.mpr hc), current, once, there, hr, Bool.not_true, Bool.false_eq_true,
    not_true_eq_false, ne_eq, if_false]
  exact if_congr (by simp) rfl rfl

/-- What a dispatch does: the orders RUNNING with the runner, and the runner OUT with them from the present second. -/
theorem sendOut_eq (slots : List (Fin 256)) (h : s.readFrame u) :
    u.sendOut r slots = (u.each slots fun k v => v.writeOrder k fun y =>
        { y with state := .running, runner := some r }).modRunner r fun _ =>
      { state := .out, carried := slots, tripStart := some s.night.clock, late := false
        tripTimer := some (s.ords.tripTime * 1000) } := by
  have sent := readFrame_trans h (each_readFrame
    (fun k v => writeOrder_readFrame v k fun y => { y with state := .running, runner := some r }) slots u)
  simp only [State.sendOut, readFrame_night sent, readFrame_ords sent]
  rfl

end

/-! ## RUNNER_BACK (R140) -/

theorem runnerBack_badParam (h : numbered 12 b = none) : runnerBack b s = s.refuse .badParam := by
  simp [runnerBack, h]

theorem runnerBack_badState (h : numbered 12 b = some r) (ho : s.ords.runners[r].state ≠ .out) :
    runnerBack b s = s.refuse .badState := by
  simp only [runnerBack, h, if_pos ho]

theorem runnerBack_damaged {xs : List (Fin 256 × Order)} (h : numbered 12 b = some r)
    (ho : s.ords.runners[r].state = .out) (hr : s.readOrders s.ords.runners[r].carried = (xs, false, u)) :
    runnerBack b s = u.refuse .damaged := by
  simp only [runnerBack, h, if_neg (not_not.mpr ho), hr]

theorem runnerBack_read {xs : List (Fin 256 × Order)} (h : numbered 12 b = some r)
    (ho : s.ords.runners[r].state = .out) (hr : s.readOrders s.ords.runners[r].carried = (xs, true, u)) :
    runnerBack b s =
      ((u.each s.ords.runners[r].carried fun k v => v.writeOrder k fun y =>
          { y with state := .ready, runner := none }).modRunner r fun _ =>
        { state := .available, carried := [], tripStart := none, late := false
          tripTimer := none }).ok [byte1 s.ords.runners[r].carried.length] := by
  simp only [runnerBack, h, if_neg (not_not.mpr ho), hr]

/-! ## The statement -/

theorem next_dispatch_of_block {count : Byte} {handles : List Word16} {x : Reply} (ht : s.takes .counter 0x43)
    (wf : (Instr.dispatch .counter b count handles).wf = true) (hx : dispatch b count handles s = x) :
    exec (.dispatch .counter b count handles) s = .next (x.state.answer .counter 0x43 x.status x.data) := by
  obtain ⟨fits, counted⟩ := Bool.and_eq_true_iff.mp wf
  have length : (decide (count.toNat = handles.length) && decide (2 + 2 * handles.length ≤ 44)) = true :=
    Bool.and_eq_true_iff.mpr ⟨decide_eq_true (eq_of_beq counted), fits⟩
  have answered := next_command_of_block ht hx
  rw [← length] at answered
  exact answered

/-- Settles O44: each command is taken by its port, and its block's outcomes are those of the lemmas above. -/
theorem runners : Obligations.Runners := by
  refine ⟨fun b s => ⟨fun h => ?noRunner, fun r h => ?runner⟩, ?dispatch, ?back⟩
  case noRunner =>
    exact ⟨fun ht => next_command_of_block ht (runnerOn_badParam h),
      fun ht => next_command_of_block ht (runnerOff_badParam h),
      fun p ht => next_command_of_block ht (readRunner_badParam h)⟩
  case runner =>
    refine ⟨fun ht => ?on, fun ht => ?off, fun p ht => next_command_of_block ht (readRunner_named h),
      execTripTimerExpiry_running⟩
    case on =>
      split
      case isTrue hoff => exact next_command_of_block ht (runnerOn_off h hoff)
      case isFalse hoff => exact next_command_of_block ht (runnerOn_working h hoff)
    case off =>
      split
      next hx => exact next_command_of_block ht (runnerOff_available h hx)
      next hx => exact next_command_of_block ht (runnerOff_off h hx)
      next hx => exact next_command_of_block ht (runnerOff_out h hx)
  case dispatch =>
    intro b count handles s ht wf
    refine ⟨fun h => next_dispatch_of_block ht wf (dispatch_badParam h), fun r h hc =>
      ⟨fun status hf => next_dispatch_of_block ht wf (dispatch_refused h hc hf),
        fun xs u hf hr => next_dispatch_of_block ht wf (dispatch_damaged h hc hf hr), fun xs u hf hr => ?_⟩⟩
    have read := dispatch_read h hc hf hr
    have frame : s.readFrame u := by
      have reads := readOrders_readFrame (handleSlots handles) s
      rwa [show s.readOrders (handleSlots handles) = (xs, true, u) from hr] at reads
    refine ⟨fun hx => next_dispatch_of_block ht wf (read.trans (if_pos hx)), fun hx => ?_⟩
    rw [if_neg (by simpa using hx), sendOut_eq _ frame] at read
    exact next_dispatch_of_block ht wf read
  case back =>
    intro b s ht
    exact ⟨fun h => next_command_of_block ht (runnerBack_badParam h), fun r h =>
      ⟨fun ho => next_command_of_block ht (runnerBack_badState h ho),
        fun xs u ho hr => next_command_of_block ht (runnerBack_damaged h ho hr),
        fun xs u ho hr => next_command_of_block ht (runnerBack_read h ho hr)⟩⟩

end Sys2Proof.Orders
end

section
/-!
SUPPORT. Deliveries (R137 to R139, R144): what a delivery does, what each block hands back for each outcome of its
checks, and the statement about them.
-/

namespace Sys2Proof.Orders

open Sys2Proof Sys2Proof.Machine

variable {w : Word16} {s u : State}

/-! ## A delivery (R137) -/

theorem drop_eq (k : Fin 256) (r : Runner) : r.drop k =
    if k ∈ r.carried then
      { r with
        carried := r.carried.filter (· ≠ k)
        tripTimer := if r.carried.filter (· ≠ k) = [] then none else r.tripTimer }
    else r := by
  simp only [Runner.drop, List.contains_iff_mem, List.isEmpty_iff, bne, beq_eq_decide, ne_eq, decide_not]

theorem leaveRunner_eq (k : Fin 256) (s : State) : s.leaveRunner k = { s with ords := { s.ords with
    runners := s.ords.runners.map fun r =>
      if k ∈ r.carried then
        { r with
          carried := r.carried.filter (· ≠ k)
          tripTimer := if r.carried.filter (· ≠ k) = [] then none else r.tripTimer }
      else r } } := by
  simp only [State.leaveRunner, State.modOrds, funext (drop_eq k)]

theorem leaveList_eq (a : Fin 1024) (k : Fin 256) (s : State) :
    s.leaveList a k = s.writeAdm a fun y => { y with orders := y.orders.filter fun h => h.slot ≠ k } := by
  simp only [State.leaveList, bne, beq_eq_decide, ne_eq, decide_not]

/-- An order off its runner, DELIVERED and counted: what every delivery does before it looks at PAID (R137 steps 1 to
3). -/
def handOver (k : Fin 256) (s : State) : State :=
  ((s.leaveRunner k).writeOrder k fun y => { y with state := .delivered, runner := none }).modNight fun n =>
    { n with delivered := addTotal n.delivered 1 }

theorem deliver_eq (k : Fin 256) (x : Order) (s : State) : s.deliver k x =
    if x.paid then (((handOver k s).leaveList x.admission.slot k).retireOrder k).examineTab x.admission.slot
    else (handOver k s).examineTab x.admission.slot := by
  unfold State.deliver handOver
  split <;> rfl

/-! ## DELIVERED (R139) -/

theorem deliveredCommand_stale (h : s.orderCurrent (.ofWord w) = false) :
    deliveredCommand w s = s.refuse .stale := by
  simp [deliveredCommand, h]

theorem deliveredCommand_damaged (h : s.orderCurrent (.ofWord w) = true)
    (hr : s.readOrder (OrderHandle.ofWord w).slot = (none, u)) : deliveredCommand w s = u.refuse .damaged := by
  simp [deliveredCommand, h, hr]

section

variable {x : Order} (h : s.orderCurrent (.ofWord w) = true)
  (hr : s.readOrder (OrderHandle.ofWord w).slot = (some x, u))

include h hr

theorem deliveredCommand_ownerDamaged (hp : x.paid = true) (ha : (u.readAdm x.admission.slot).1 = none) :
    deliveredCommand w s = (u.readAdm x.admission.slot).2.refuse .damaged := by
  simp [deliveredCommand, h, hr, hp, ha]

theorem deliveredCommand_read (hp : x.paid = false ∨ (u.readAdm x.admission.slot).1 ≠ none) :
    deliveredCommand w s =
      let v := if x.paid then (u.readAdm x.admission.slot).2 else u
      if x.state ≠ .running then v.refuse .badState else (v.deliver (OrderHandle.ofWord w).slot x).ok [] := by
  cases paid : x.paid with
  | false => simp [deliveredCommand, h, hr, paid]
  | true =>
    have readable := Option.isSome_iff_ne_none.mpr (hp.resolve_left (by simp [paid]))
    simp [deliveredCommand, h, hr, paid, readable]

end

/-! ## HANDOVER (R144) -/

theorem handover_stale (h : s.orderCurrent (.ofWord w) = false) : handover w s = s.refuse .stale := by
  simp [handover, h]

theorem handover_damaged (h : s.orderCurrent (.ofWord w) = true)
    (hr : s.readOrderAdm (OrderHandle.ofWord w).slot = (none, u)) : handover w s = u.refuse .damaged := by
  simp [handover, h, hr]

theorem handover_read {x : Order} {y : Admission} (h : s.orderCurrent (.ofWord w) = true)
    (hr : s.readOrderAdm (OrderHandle.ofWord w).slot = (some (x, y), u)) :
    handover w s = if x.collect = true ∧ (x.state = .ready ∨ x.state = .running) then
      (u.deliver (OrderHandle.ofWord w).slot x).ok [] else u.refuse .badState := by
  simp [handover, h, hr]

/-! ## CONFIRM (R138) -/

/-- The orders among those carried that a CONFIRM request names. -/
def matching (n : Fin 6) (stall : Nat) (xs : List (Fin 256 × Order)) : List (Fin 256 × Order) :=
  xs.filter fun x => x.2.screen = n ∧ x.2.stall = stall

/-- The orders among those named that are not for collection. -/
def notCollected (xs : List (Fin 256 × Order)) : List (Fin 256 × Order) := xs.filter fun x => x.2.collect = false

/-- The orders of a list delivered, with DELIVERED raised (R138). -/
def deliverAll (xs : List (Fin 256 × Order)) (s : State) : State :=
  (s.each xs fun x v => v.deliver x.1 x.2).raiseCounter .delivered

theorem deliverAll_orderFrame (xs : List (Fin 256 × Order)) (s : State) : s.orderFrame (deliverAll xs s) := by
  have one : ∀ (x : Fin 256 × Order) (v : State), v.orderFrame (v.deliver x.1 x.2) :=
    fun x v => deliver_orderFrame x.1 x.2 v
  exact orderFrame_trans (each_orderFrame one xs s) (readFrame_orderFrame (raiseCounter_readFrame _ .delivered))

section

variable {r : Fin 12} {n : Fin 6} {stall : Nat} {xs : List (Fin 256 × Order)} {v : State}

theorem confirmRequest_damaged (hr : s.readOrders s.ords.runners[r].carried = (xs, false, u)) :
    s.confirmRequest r n stall = (.damaged, u) := by
  simp only [State.confirmRequest, hr]

theorem confirmRequest_ownerDamaged (hr : s.readOrders s.ords.runners[r].carried = (xs, true, u))
    (ho : u.readOwners (matching n stall xs) = (false, v)) : s.confirmRequest r n stall = (.damaged, v) := by
  unfold matching at ho
  simp only [State.confirmRequest, hr, ho]

theorem confirmRequest_notCarried (hr : s.readOrders s.ords.runners[r].carried = (xs, true, u))
    (ho : u.readOwners (matching n stall xs) = (true, v)) (hm : matching n stall xs = []) :
    s.confirmRequest r n stall = (.notCarried, v) := by
  unfold matching at ho hm
  simp only [State.confirmRequest, hr, ho, List.isEmpty_iff.mpr hm, if_true]

section

variable (hr : s.readOrders s.ords.runners[r].carried = (xs, true, u))
  (ho : u.readOwners (matching n stall xs) = (true, v)) (hm : matching n stall xs ≠ [])

include hr ho hm

theorem confirmRequest_gone (hc : notCollected (matching n stall xs) = []) :
    s.confirmRequest r n stall = (.gone, v) := by
  unfold matching at ho hm hc
  unfold notCollected at hc
  simp only [State.confirmRequest, hr, ho, mt List.isEmpty_iff.mp hm, List.isEmpty_iff.mpr hc, if_true,
    Bool.false_eq_true, if_false]

theorem confirmRequest_delivered (hc : notCollected (matching n stall xs) ≠ []) :
    s.confirmRequest r n stall = (.ok, deliverAll (notCollected (matching n stall xs)) v) := by
  unfold matching at *
  unfold notCollected at *
  simp only [State.confirmRequest, hr, ho, mt List.isEmpty_iff.mp hm, mt List.isEmpty_iff.mp hc,
    Bool.false_eq_true, if_false, deliverAll]

end

end

/-- The runner, screen and stall that a CONFIRM request carries. -/
def confirmBody : RequestBody → Option (Fin 12 × Fin 6 × Nat)
  | .confirm r n stall => some (r, n, stall)
  | _ => none

theorem confirmBody_isSome {body : RequestBody} (h : (confirmBody body).isSome) :
    ∃ r n stall, body = .confirm r n stall := by
  cases body with
  | confirm r n stall => exact ⟨r, n, stall, rfl⟩
  | place | cancelNewest => cases h

/-- The step takes the oldest CONFIRM request of its row, and its answer goes to the row; a taking that keeps the
answers under way adds its own at the end. -/
theorem exec_confirm {row : Fin 48} {tag : Nat} {r : Fin 12} {n : Fin 6} {stall : Nat}
    {before after : List PostRequest} {status : Status} {t : State} (hs : s.sys.phase = .running)
    (hq : s.posts.requests = before ++ ⟨row, tag, .confirm r n stall⟩ :: after)
    (hb : ∀ q ∈ before, ∀ m k l, q.body = .confirm m k l → q.row ≠ row)
    (hc : State.confirmRequest r n stall { s with posts := { s.posts with requests := before ++ after } } = (status, t))
    (ht : t.posts.answers = s.posts.answers) :
    exec (.confirm row) s = .next { t with posts := { t.posts with
      answers := s.posts.answers ++ [⟨row, tag, status⟩] } } := by
  have older : ∀ q ∈ before, (confirmBody q.body).isSome → q.row ≠ row := by
    intro q hmem hsome
    obtain ⟨m, k, l, hbody⟩ := confirmBody_isSome hsome
    exact hb q hmem m k l hbody
  have taken := takeRequest_oldest (f := confirmBody) (fun x s => s.confirmRequest x.1 x.2.1 x.2.2) hq older rfl rfl
  simp only [hc, answerRequest_eq ht] at taken
  rw [← taken]
  exact congrArg Host.Outcome.next (whileRunning_running s _ hs)

/-! ## The statement -/

/-- Settles O45: a delivery is the one of `deliver_eq`, and each way to it has the outcomes of the lemmas above. -/
theorem deliveries : Obligations.Deliveries := by
  refine ⟨fun k x s => ?delivery, ?delivered, ?handover, ?confirm⟩
  case delivery =>
    rw [deliver_eq, leaveList_eq]
    unfold handOver
    rw [leaveRunner_eq]
    rfl
  case delivered =>
    intro w s u ht
    refine ⟨fun h => next_command_of_block ht (deliveredCommand_stale h),
      fun h hr => next_command_of_block ht (deliveredCommand_damaged h hr), fun x h hr =>
        ⟨fun hp ha => next_command_of_block ht (deliveredCommand_ownerDamaged h hr hp ha), fun hp => ?_⟩⟩
    have read := deliveredCommand_read h hr hp
    exact ⟨fun hx => next_command_of_block ht (read.trans (if_pos hx)),
      fun hx => next_command_of_block ht (read.trans (if_neg (not_not.mpr hx)))⟩
  case handover =>
    intro w s u ht
    refine ⟨fun h => next_command_of_block ht (handover_stale h),
      fun h hr => next_command_of_block ht (handover_damaged h hr), fun x y h hr => ?_⟩
    have read := handover_read h hr
    exact ⟨fun hx => next_command_of_block ht (read.trans (if_neg hx)),
      fun hc hx => next_command_of_block ht (read.trans (if_pos ⟨hc, hx⟩))⟩
  case confirm =>
    intro row tag r n stall before after s hs hq hb u carried found handed owners answered
    have reads : carried.2.2.posts.answers = s.posts.answers := readFrame_answers (s := u) (readOrders_readFrame _ u)
    have ownersRead : owners.2.posts.answers = s.posts.answers :=
      (readFrame_answers (readOwners_readFrame found carried.2.2)).trans reads
    have outcome {status : Status} {t : State} (hc : u.confirmRequest r n stall = (status, t))
        (ht : t.posts.answers = s.posts.answers) : answered status t := exec_confirm hs hq hb hc ht
    have hr {good : Bool} (h : carried.2.1 = good) :
        u.readOrders u.ords.runners[r].carried = (carried.1, good, carried.2.2) := Prod.ext rfl (Prod.ext h rfl)
    have ho {good : Bool} (h : owners.1 = good) :
        carried.2.2.readOwners (matching n stall carried.1) = (good, owners.2) := Prod.ext h rfl
    refine ⟨fun h => outcome (confirmRequest_damaged (hr h)) reads,
      fun h k => outcome (confirmRequest_ownerDamaged (hr h) (ho k)) ownersRead, fun h k =>
        ⟨fun hf => outcome (confirmRequest_notCarried (hr h) (ho k) hf) ownersRead,
          fun hf hh => outcome (confirmRequest_gone (hr h) (ho k) hf hh) ownersRead, fun hh => ?_⟩⟩
    have hf : found ≠ [] := fun hf => hh (by simp only [handed, hf, List.filter_nil])
    exact outcome (confirmRequest_delivered (hr h) (ho k) hf hh)
      ((orderFrame_answers (deliverAll_orderFrame handed owners.2)).trans ownersRead)

end Sys2Proof.Orders
end

section
/-!
SUPPORT. The night unit: the frame of the order windows recomputed (R128), the windows of a night that is not OPEN, and
what the closing condition does (R161, R162).
-/

namespace Sys2Proof.NightUnit

open Sys2Proof Sys2Proof.Machine

variable {s t u : State}

/-! ## What the order windows may change (R128) -/

/-- `t` differs from `s` at most in the displays and the order windows. -/
def WindowFrame (s t : State) : Prop :=
  t = { s with disp := t.disp, ords := { s.ords with windows := t.ords.windows } }

theorem windowFrame_refl (s : State) : WindowFrame s s := rfl

theorem windowFrame_trans (h : WindowFrame s t) (k : WindowFrame t u) : WindowFrame s u := by
  unfold WindowFrame at *
  rw [k, h]

theorem windowFrame_mem (h : WindowFrame s t) : t.mem = s.mem := by rw [h]
theorem windowFrame_shows (h : WindowFrame s t) : t.shows = s.shows := by rw [h]
theorem windowFrame_night (h : WindowFrame s t) : t.night = s.night := by rw [h]
theorem windowFrame_store (h : WindowFrame s t) : t.store = s.store := by rw [h]
theorem windowFrame_booth (h : WindowFrame s t) : t.booth = s.booth := by rw [h]

/-- What every single operation keeps is kept by the operation done for each entry of a list. -/
theorem each_keeps {α : Type} {f : α → State → State} (P : State → Prop) (hs : P s) (h : ∀ a t, P t → P (f a t))
    (l : List α) : P (s.each l f) :=
  List.foldlRecOn l _ hs fun t ht a _ => h a t ht

theorem showLamp_ords (n : Fin 6) (s : State) : (s.showLamp n).ords = s.ords :=
  each_keeps (fun t => t.ords = s.ords) rfl (fun _ _ ht => by exact ht) _

theorem showLamp_windowFrame (n : Fin 6) (s : State) : WindowFrame s (s.showLamp n) :=
  each_keeps (WindowFrame s) (windowFrame_refl s) (fun _ _ ht => windowFrame_trans ht (by exact rfl)) _

theorem recomputeWindow_windowFrame (n : Fin 6) (s : State) : WindowFrame s (s.recomputeWindow n) := by
  unfold State.recomputeWindow
  dsimp only
  split
  · rfl
  · exact windowFrame_trans (by exact rfl) (showLamp_windowFrame n _)

theorem recomputeWindows_windowFrame (s : State) : WindowFrame s s.recomputeWindows :=
  each_keeps (WindowFrame s) (windowFrame_refl s)
    (fun n t ht => windowFrame_trans ht (recomputeWindow_windowFrame n t)) _

/-! ## The windows of a night that is not OPEN (R128) -/

theorem windowCondition_notOpened (n : Fin 6) (h : s.night.state ≠ .opened) : s.windowCondition n = false := by
  simp [State.windowCondition, h]

theorem recomputeWindow_windows (n m : Fin 6) (s : State) :
    (s.recomputeWindow n).ords.windows[m] = if n = m then s.windowCondition n else s.ords.windows[m] := by
  unfold State.recomputeWindow
  dsimp only
  split
  next same =>
    split
    next hnm => rw [← hnm, same]
    next => rfl
  next => simp only [showLamp_ords, modOrds_ords, upd_get]

theorem each_recomputeWindow_closed (m : Fin 6) (l : List (Fin 6)) (hs : s.night.state ≠ .opened)
    (hm : m ∈ l ∨ s.ords.windows[m] = false) : (s.each l State.recomputeWindow).ords.windows[m] = false := by
  induction l generalizing s with
  | nil => exact hm.resolve_left List.not_mem_nil
  | cons n rest ih =>
    have night : (s.recomputeWindow n).night.state ≠ .opened := by
      rwa [windowFrame_night (recomputeWindow_windowFrame n s)]
    refine ih night ?_
    by_cases hnm : n = m
    · exact .inr (by rw [recomputeWindow_windows, if_pos hnm, windowCondition_notOpened n hs])
    · rw [recomputeWindow_windows, if_neg hnm]
      exact hm.imp_left fun h => (List.mem_cons.mp h).resolve_left (Ne.symm hnm)

theorem recomputeWindows_closed (m : Fin 6) (h : s.night.state ≠ .opened) :
    s.recomputeWindows.ords.windows[m] = false := by
  unfold State.recomputeWindows
  exact each_recomputeWindow_closed m _ h (.inl (List.mem_finRange m))

/-! ## The closing condition (R162) -/

/-- `t` differs from `s` at most in the night, the store, the booth port, the displays and the order windows. -/
def NightFrame (s t : State) : Prop :=
  t = { s with night := t.night, store := t.store, booth := t.booth, disp := t.disp
               ords := { s.ords with windows := t.ords.windows } }

theorem nightFrame_trans (h : NightFrame s t) (k : NightFrame t u) : NightFrame s u := by
  unfold NightFrame at *
  rw [k, h]

theorem windowFrame_nightFrame (h : WindowFrame s t) : NightFrame s t := by
  unfold WindowFrame at h
  unfold NightFrame
  rw [h]

theorem closable_iff : s.closable = true ↔ s.mem.admFree.length = 1024 ∧ s.mem.orderFree.length = 256 ∧
    ∀ n : Fin 6, s.shows.screens[n].state = .dark := by
  simp [State.closable, Fin.forall_iff, and_assoc]

theorem closeNight_night (s : State) :
    s.closeNight.night = { s.night with state := .closed, secondTimer := none } :=
  windowFrame_night (recomputeWindows_windowFrame _)

theorem closeNight_store (s : State) : s.closeNight.store = { s.store with locked := false } :=
  windowFrame_store (recomputeWindows_windowFrame _)

theorem closeNight_booth (s : State) : s.closeNight.booth = s.booth.raise (kindSet 17) :=
  windowFrame_booth (recomputeWindows_windowFrame _)

theorem closeNight_windows (s : State) (n : Fin 6) : s.closeNight.ords.windows[n] = false := by
  unfold State.closeNight
  exact recomputeWindows_closed n (by simp [State.raiseBooth])

theorem closeNight_nightFrame (s : State) : NightFrame s s.closeNight :=
  nightFrame_trans (by exact rfl) (windowFrame_nightFrame (recomputeWindows_windowFrame _))

theorem examineClose_closes (hs : s.night.state = .closing) (h : s.closable = true) :
    s.examineClose = s.closeNight := if_pos ⟨hs, h⟩

theorem examineClose_stays (h : s.closable ≠ true) : s.examineClose = s := if_neg fun k => h k.2

theorem attention_raise_kindSet_ne_zero {k : Nat} (hk : k < 24) (p : Port) :
    (p.raise (kindSet k)).attention &&& kindSet k ≠ 0 := by
  intro h
  have bit := congrArg (·.getLsbD k) h
  simp [Port.raise, Port.withLine, kindSet, hk] at bit

end Sys2Proof.NightUnit
end

section
/-!
SUPPORT. CLOSE_NIGHT (R161) and READ_TOTALS (R166): what each block hands back, and the statement about them.
-/

namespace Sys2Proof.NightUnit

open Sys2Proof Sys2Proof.Machine Sys2Proof.Orders

variable {s : State}

/-! ## Entering CLOSING (R161) -/

/-- An OPEN night at CLOSE_NIGHT before the examination of the closing condition: CLOSING, every window closed. -/
def enterClosing (s : State) : State :=
  (s.modNight fun n => { n with state := .closing }).recomputeWindows

theorem enterClosing_windowFrame (s : State) :
    WindowFrame (s.modNight fun n => { n with state := .closing }) (enterClosing s) :=
  recomputeWindows_windowFrame _

theorem enterClosing_night (s : State) : (enterClosing s).night = { s.night with state := .closing } :=
  windowFrame_night (enterClosing_windowFrame s)

theorem enterClosing_store (s : State) : (enterClosing s).store = s.store :=
  (windowFrame_store (enterClosing_windowFrame s)).trans (modNight_store _ s)

theorem enterClosing_booth (s : State) : (enterClosing s).booth = s.booth :=
  (windowFrame_booth (enterClosing_windowFrame s)).trans (modNight_booth _ s)

theorem enterClosing_windows (s : State) (n : Fin 6) : (enterClosing s).ords.windows[n] = false := by
  unfold enterClosing
  exact recomputeWindows_closed n (by simp)

theorem enterClosing_nightFrame (s : State) : NightFrame s (enterClosing s) :=
  nightFrame_trans (by exact rfl) (windowFrame_nightFrame (enterClosing_windowFrame s))

/-- The night's state is no term of the closing condition. -/
theorem enterClosing_closable (s : State) : (enterClosing s).closable = s.closable := by
  simp only [State.closable, windowFrame_mem (enterClosing_windowFrame s),
    windowFrame_shows (enterClosing_windowFrame s), modNight_mem, modNight_shows]

/-! ## CLOSE_NIGHT (R161) -/

theorem closeNightCommand_closed (h : s.night.state = .closed) : closeNightCommand s = s.refuse .badState := by
  simp [closeNightCommand, h]

theorem closeNightCommand_closing (h : s.night.state = .closing) : closeNightCommand s = s.ok [3] := by
  simp [closeNightCommand, h, NightState.number, byte1]

theorem closeNightCommand_opened (h : s.night.state = .opened) : closeNightCommand s =
    (enterClosing s).examineClose.ok [byte1 (enterClosing s).examineClose.night.state.number] := by
  simp only [closeNightCommand, h, enterClosing]

theorem closeNightCommand_closes (h : s.night.state = .opened) (hc : s.closable = true) :
    closeNightCommand s = (enterClosing s).closeNight.ok [1] := by
  have closes : (enterClosing s).examineClose = (enterClosing s).closeNight :=
    examineClose_closes (by rw [enterClosing_night]) (by rwa [enterClosing_closable])
  simp [closeNightCommand_opened h, closes, closeNight_night, NightState.number, byte1]

theorem closeNightCommand_waits (h : s.night.state = .opened) (hc : s.closable ≠ true) :
    closeNightCommand s = (enterClosing s).ok [3] := by
  have stays : (enterClosing s).examineClose = enterClosing s :=
    examineClose_stays (by rwa [enterClosing_closable])
  simp [closeNightCommand_opened h, stays, enterClosing_night, NightState.number, byte1]

theorem exec_closeNight_ok {t : State} {d : List Byte} (ht : s.takes .booth 0x59) (hb : closeNightCommand s = t.ok d) :
    exec (.closeNight .booth) s = .next (t.answer .booth 0x59 .ok d) :=
  next_command_of_block ht hb

/-! ## The statement -/

/-- Settles O49: CLOSE_NIGHT by the state of the night and, in OPEN, by the closing condition; READ_TOTALS is the answer
of its block at the booth, and the port check refuses it at the counter. -/
theorem closeNightAndReadTotals : Obligations.CloseNightAndReadTotals := by
  refine fun s => ⟨fun ht => ⟨?closed, ?closing, ?opened⟩, ?totals, ?counter⟩
  case closed => exact fun h => next_command_of_block ht (closeNightCommand_closed h)
  case closing => exact fun h => exec_closeNight_ok ht (closeNightCommand_closing h)
  case opened =>
    intro h gone
    by_cases hg : gone
    · have block := closeNightCommand_closes h (closable_iff.mpr hg)
      refine ⟨(enterClosing s).closeNight, ?_, fun _ => ⟨?_, ?_, ?_⟩, fun k => absurd hg k, closeNight_windows _,
        nightFrame_trans (enterClosing_nightFrame s) (closeNight_nightFrame _)⟩
      · rw [if_pos hg]
        exact exec_closeNight_ok ht block
      · rw [closeNight_night, enterClosing_night]
      · rw [closeNight_store, enterClosing_store]
      · rw [closeNight_booth]
        exact attention_raise_kindSet_ne_zero (by decide) _
    · have block := closeNightCommand_waits h (mt closable_iff.mp hg)
      refine ⟨enterClosing s, ?_, fun k => absurd k hg,
        fun _ => ⟨enterClosing_night s, enterClosing_store s, enterClosing_booth s⟩, enterClosing_windows s,
        enterClosing_nightFrame s⟩
      rw [if_neg hg]
      exact exec_closeNight_ok ht block
  case totals => exact fun ht => next_command_of_block ht rfl
  case counter =>
    exact fun h hw => congrArg Host.Outcome.next (command_privilege .counter 0x5B true readTotals s h hw rfl)

end Sys2Proof.NightUnit
end

section
/-!
SUPPORT. What the shows, sounds, rows and windows keep while a domain leaves or enters ACTIVE (R179): no kind of the
booth's attention is dropped, and no screen falls DARK. The order windows after they are all recomputed (R128).
-/

namespace Sys2Proof.EquipmentDomains

open Sys2Proof Sys2Proof.Machine Sys2Proof.NightUnit

variable {s t u : State}

/-- From `s` to `t` no attention kind of the booth is dropped and no screen falls DARK. -/
structure Onward (s t : State) : Prop where
  attention : ∀ i : Nat, s.booth.attention.getLsbD i = true → t.booth.attention.getLsbD i = true
  notDark : ∀ n : Fin 6, s.shows.screens[n].state ≠ .dark → t.shows.screens[n].state ≠ .dark

theorem onward_refl (s : State) : Onward s s := ⟨fun _ h => h, fun _ h => h⟩

theorem onward_trans (h : Onward s t) (k : Onward t u) : Onward s u :=
  ⟨fun i a => k.attention i (h.attention i a), fun n a => k.notDark n (h.notDark n a)⟩

theorem onward_of_eq (hb : t.booth = s.booth) (hs : t.shows = s.shows) : Onward s t :=
  ⟨fun _ a => by rwa [hb], fun _ a => by rwa [hs]⟩

theorem onward_each {α : Type} {f : α → State → State} (h : ∀ (a : α) (s : State), Onward s (f a s)) (l : List α)
    (s : State) : Onward s (s.each l f) :=
  each_keeps (Onward s) (onward_refl s) (fun a t ht => onward_trans ht (h a t)) l

/-! ## Attention, windows and displays -/

theorem onward_raiseBooth (k : BoothKind) (s : State) : Onward s (s.raiseBooth k) where
  attention i a := by simp [State.raiseBooth, State.modPort, Port.raise, Port.withLine, a]
  notDark _ a := a

theorem onward_of_windowFrame (h : WindowFrame s t) : Onward s t :=
  onward_of_eq (windowFrame_booth h) (windowFrame_shows h)

theorem onward_showSound (n : Fin 6) (s : State) : Onward s (s.showSound n) :=
  onward_each (fun _ _ => by exact onward_of_eq rfl rfl) _ s

theorem onward_queueRows (n : Fin 6) (s : State) : Onward s (s.queueRows n) :=
  onward_each (fun _ _ => by exact onward_of_eq rfl rfl) _ s

theorem onward_setChannel (c : Fin 12) (x : ChannelState) (s : State) : Onward s (s.setChannel c x) :=
  onward_of_eq rfl rfl

theorem onward_modSound (n : Fin 6) (f : SoundRecord → SoundRecord) (s : State) : Onward s (s.modSound n f) :=
  onward_of_eq rfl rfl

/-! ## Shows (R67, R71 to R77, R82) -/

theorem onward_modScreen {f : Screen → Screen} (n : Fin 6) (s : State)
    (hf : (f s.shows.screens[n]).state ≠ .dark ∨ (f s.shows.screens[n]).state = s.shows.screens[n].state) :
    Onward s (s.modScreen n f) where
  attention _ a := a
  notDark m a := by
    simp only [modScreen_shows, upd_get]
    split
    next same => subst same; exact hf.elim id fun keep => by rwa [keep]
    next => exact a

theorem onward_setShow (n : Fin 6) {x : ShowState} (s : State) (hx : x ≠ .dark) : Onward s (s.setShow n x) := by
  unfold State.setShow
  split
  · exact onward_refl s
  · exact onward_trans (onward_trans (onward_modScreen n s (.inl hx)) (onward_raiseBooth _ _))
      (onward_of_windowFrame (recomputeWindow_windowFrame n _))

theorem runningState_ne_dark (c : Screen) : c.runningState ≠ .dark := by
  unfold Screen.runningState
  split
  · split <;> decide
  · decide

theorem onward_addHold (n : Fin 6) (r : HoldReason) (s : State) : Onward s (s.addHold n r) := by
  unfold State.addHold
  split
  · exact onward_trans (onward_modScreen n s (.inr rfl)) (onward_setShow n _ (by decide))
  · exact onward_refl s

theorem onward_removeHold (n : Fin 6) (r : HoldReason) (s : State) : Onward s (s.removeHold n r) := by
  unfold State.removeHold
  dsimp only
  split
  · have emptied := onward_modScreen (f := fun c => { c with reasons := c.reasons.set r false }) n s (.inr rfl)
    split
    · exact onward_trans emptied (onward_setShow n _ (runningState_ne_dark _))
    · exact emptied
  · exact onward_refl s

theorem onward_enterSegment (n : Fin 6) (k : Nat) (s : State) : Onward s (s.enterSegment n k) := by
  unfold State.enterSegment
  dsimp only
  split
  · exact onward_trans (onward_modScreen n s (.inr rfl)) (onward_setShow n _ (runningState_ne_dark _))
  · exact onward_modScreen n s (.inr rfl)

theorem onward_beginShow (n : Fin 6) (s : State) : Onward s (s.beginShow n) := by
  have entered := onward_trans
    (onward_modScreen (f := fun c => { c with startTimer := none, start := some s.night.clock }) n s (.inr rfl))
    (onward_enterSegment n 1 _)
  unfold State.beginShow
  dsimp only
  split
  · exact onward_trans entered (onward_addHold n _ _)
  · exact entered

theorem onward_examineStart (n : Fin 6) (s : State) : Onward s (s.examineStart n) := by
  have started := onward_trans
    (onward_modScreen (f := fun c => { c with current := some 1, startTimer := seconds s.shows.startTimeout }) n s
      (.inr rfl))
    (onward_setShow n (x := .starting) _ (by decide))
  unfold State.examineStart
  dsimp only
  split
  · split
    · exact onward_trans started (onward_beginShow n _)
    · exact started
  · exact onward_refl s

theorem onward_domainLost (n : Fin 6) (s : State) : Onward s (s.domainLost n) := by
  refine onward_trans ?abandoned (onward_addHold n _ _)
  unfold State.abandonStart
  split
  · exact onward_trans (onward_trans (onward_modScreen n s (.inr rfl)) (onward_setShow n _ (by decide)))
      (onward_examineStart n _)
  · exact onward_refl s

/-! ## Sounds and channels (R88, R89, R98, R99) -/

theorem onward_soundTaken (n : Fin 6) (s : State) : Onward s (s.soundTaken n) := by
  unfold State.soundTaken
  split
  · split
    · exact onward_examineStart n s
    · exact onward_removeHold n _ s
    · exact onward_refl s
  · exact onward_examineStart n s
  · exact onward_domainLost n s
  · exact onward_domainLost n s

theorem onward_setSound (n : Fin 6) (x : Sound) (s : State) : Onward s (s.setSound n x) :=
  onward_trans (onward_trans (onward_modSound n _ s) (onward_soundTaken n _)) (onward_showSound n _)

theorem onward_takeChannel (n : Fin 6) (c : Fin 12) (s : State) : Onward s (s.takeChannel n c) :=
  onward_trans (onward_setChannel c _ s) (onward_setSound n _ _)

theorem onward_offer (c : Fin 12) (s : State) : Onward s (s.offer c) := by
  unfold State.offer
  split
  · split
    · exact onward_takeChannel _ c s
    · exact onward_refl s
  · exact onward_refl s

theorem onward_acquire (n : Fin 6) (s : State) : Onward s (s.acquire n) := by
  unfold State.acquire
  split
  · exact onward_takeChannel n _ s
  · exact onward_trans (onward_setSound n _ s) (onward_raiseBooth _ _)

theorem onward_giveUp (n : Fin 6) (s : State) : Onward s (s.giveUp n) := by
  unfold State.giveUp
  split
  next c _ => exact onward_trans (onward_trans (onward_setChannel c _ s) (onward_setSound n _ _)) (onward_offer c _)
  next c next _ _ =>
    have freed : Onward s ((((s.setChannel c .free).setChannel next .free).modSound n fun r =>
        { r with announceTimer := none }).setSound n .off) :=
      onward_trans (onward_trans (onward_trans (onward_setChannel c _ s) (onward_setChannel next _ _))
        (onward_modSound n _ _)) (onward_setSound n _ _)
    dsimp only
    split
    · exact onward_trans freed (onward_trans (onward_offer c _) (onward_offer next _))
    · exact onward_trans freed (onward_trans (onward_offer next _) (onward_offer c _))
  next => exact onward_setSound n _ s
  next => exact onward_refl s

theorem onward_updateWanting (n : Fin 6) (s : State) : Onward s (s.updateWanting n) := by
  unfold State.updateWanting
  split
  · exact onward_refl s
  · split
    · exact onward_trans (onward_modSound n _ s) (onward_acquire n _)
    · exact onward_trans (onward_modSound n _ s) (onward_giveUp n _)

/-! ## Rows and reports (R122, R179) -/

theorem onward_takePresent (r : Fin 48) (s : State) : Onward s (s.takePresent r) := by
  unfold State.takePresent
  split
  · exact onward_of_eq rfl rfl
  · exact onward_refl s

theorem onward_reportLost (d : Fin 8) (s : State) : Onward s (s.reportLost d) := by
  unfold State.reportLost
  split
  next n _ =>
    exact onward_trans (onward_trans (onward_domainLost n s) (onward_updateWanting n _))
      (onward_each (fun _ _ => by exact onward_of_eq rfl rfl) _ _)
  next =>
    split
    · exact onward_of_windowFrame (recomputeWindows_windowFrame s)
    · exact onward_refl s

theorem onward_reportGained (d : Fin 8) (s : State) : Onward s (s.reportGained d) := by
  unfold State.reportGained
  split
  next n _ =>
    exact onward_trans (onward_trans (onward_trans (onward_examineStart n s) (onward_updateWanting n _))
      (onward_each onward_takePresent _ _)) (onward_queueRows n _)
  next =>
    split
    · exact onward_of_windowFrame (recomputeWindows_windowFrame s)
    · exact onward_refl s

/-! ## The windows after all are recomputed (R128) -/

theorem windowFrame_windowCondition (h : WindowFrame s t) (n : Fin 6) : t.windowCondition n = s.windowCondition n := by
  rw [h]
  rfl

theorem each_recomputeWindow_windows (m : Fin 6) (l : List (Fin 6)) (s : State) :
    (s.each l State.recomputeWindow).ords.windows[m] =
      if m ∈ l then s.windowCondition m else s.ords.windows[m] := by
  induction l generalizing s with
  | nil => rfl
  | cons n rest ih =>
    have step : s.each (n :: rest) State.recomputeWindow = (s.recomputeWindow n).each rest State.recomputeWindow := rfl
    rw [step, ih, windowFrame_windowCondition (recomputeWindow_windowFrame n s), recomputeWindow_windows]
    by_cases hnm : n = m
    · simp [hnm]
    · simp [hnm, Ne.symm hnm]

theorem recomputeWindows_windows (m : Fin 6) (s : State) :
    s.recomputeWindows.ords.windows[m] = s.windowCondition m :=
  (each_recomputeWindow_windows m _ s).trans (if_pos (List.mem_finRange m))

end Sys2Proof.EquipmentDomains
end

section
/-!
SUPPORT. The domain controller's own operations (R172 to R174, R178): the domain record that each of them leaves, what
it raises, and REST applied to the eight domains in order.
-/

namespace Sys2Proof.EquipmentDomains

open Sys2Proof Sys2Proof.Machine Sys2Proof.NightUnit

variable {s t u : State} {d : Fin 8}

/-! ## Reports (R179) -/

theorem reportLost_doms (d : Fin 8) (s : State) : (s.reportLost d).doms = s.doms := by
  unfold State.reportLost
  split
  next n _ =>
    have rows := each_keeps (fun t => t.doms = ((s.domainLost n).updateWanting n).doms) rfl
      (fun r t ht => (modRow_doms r Row.silence t).trans ht) (((s.domainLost n).updateWanting n).rowsOf n)
    exact rows.trans (showFrame_doms (showFrame_trans (domainLost_showFrame s n) (updateWanting_showFrame n _)))
  next =>
    split
    · exact showFrame_doms (recomputeWindows_showFrame s)
    · rfl

theorem takePresent_doms (r : Fin 48) (s : State) : (s.takePresent r).doms = s.doms := by
  unfold State.takePresent
  split <;> rfl

theorem reportGained_doms (d : Fin 8) (s : State) : (s.reportGained d).doms = s.doms := by
  unfold State.reportGained
  split
  next n _ =>
    have rows := each_keeps (fun t => t.doms = ((s.examineStart n).updateWanting n).doms) rfl
      (fun r t ht => (takePresent_doms r t).trans ht) (((s.examineStart n).updateWanting n).rowsOf n)
    exact (showFrame_doms (queueRows_showFrame _ n)).trans
      (rows.trans (showFrame_doms (showFrame_trans (examineStart_showFrame n s) (updateWanting_showFrame n _))))
  next =>
    split
    · exact showFrame_doms (recomputeWindows_showFrame s)
    · rfl

/-! ## Records entered -/

/-- The record of one domain replaced, every other domain and the settings kept. -/
def Replaced (d : Fin 8) (y : Domain) (s t : State) : Prop :=
  t.doms = { s.doms with domains := upd s.doms.domains d fun _ => y }

theorem replaced_same {y : Domain} (h : Replaced d y s t) : t.doms.domains[d] = y := by
  rw [h]
  exact (upd_get _ d d _).trans (if_pos rfl)

theorem replaced_other {y : Domain} {e : Fin 8} (h : Replaced d y s t) (he : e ≠ d) :
    t.doms.domains[e] = s.doms.domains[e] := by
  rw [h]
  exact upd_get_other _ d e _ he.symm

theorem replaced_wakeTime {y : Domain} (h : Replaced d y s t) : t.doms.wakeTime = s.doms.wakeTime := by rw [h]

theorem replaced_acknowledgeTime {y : Domain} (h : Replaced d y s t) :
    t.doms.acknowledgeTime = s.doms.acknowledgeTime := by rw [h]

theorem replaced_trans {x y : Domain} (h : Replaced d x s t) (k : Replaced d y t u) : Replaced d y s u := by
  unfold Replaced at *
  rw [k, h]
  simp [upd]

theorem replaced_refl (d : Fin 8) (s : State) : Replaced d s.doms.domains[d] s s := by
  simp [Replaced, upd]

theorem replaced_of_doms {y : Domain} (h : Replaced d y s t) (hu : u.doms = t.doms) : Replaced d y s u :=
  hu.trans h

theorem modDomain_replaced (d : Fin 8) (f : Domain → Domain) (s : State) :
    Replaced d (f s.doms.domains[d]) s (s.modDomain d f) := rfl

theorem domainActive_replaced (d : Fin 8) (s : State) :
    Replaced d (s.doms.domains[d].enter .active none) s (s.domainActive d) :=
  replaced_of_doms (modDomain_replaced d _ s) (reportGained_doms d _)

theorem domainStopping_replaced (d : Fin 8) (s : State) :
    Replaced d (s.doms.domains[d].enter .stopping (seconds s.doms.acknowledgeTime)) s (s.domainStopping d) := by
  unfold State.domainStopping
  dsimp only
  split
  · exact replaced_of_doms (modDomain_replaced d _ s) (reportLost_doms d _)
  · exact modDomain_replaced d _ s

/-- A domain whose levels are fit passes through WAKING to ACTIVE in the same taking, with DOMAIN_DONE (R174). -/
theorem domainWaking_fit (h : s.doms.domains[d].fit = true) : s.domainWaking d =
    ((s.modDomain d (Domain.enter .waking (seconds s.doms.wakeTime))).domainActive d).raiseBooth .domainDone := by
  have levels : (s.modDomain d (Domain.enter .waking (seconds s.doms.wakeTime))).doms.domains[d].fit = true := by
    rwa [replaced_same (modDomain_replaced d _ s)]
  exact if_pos levels

theorem domainWaking_waits (h : s.doms.domains[d].fit = false) :
    s.domainWaking d = s.modDomain d (Domain.enter .waking (seconds s.doms.wakeTime)) := by
  have levels : ¬ (s.modDomain d (Domain.enter .waking (seconds s.doms.wakeTime))).doms.domains[d].fit = true := by
    rw [replaced_same (modDomain_replaced d _ s)]
    exact ne_true_of_eq_false h
  exact if_neg levels

/-- The record of a domain that has entered WAKING and examined its levels (R174). -/
def wakingRecord (wakeTime : Nat) (x : Domain) : Domain :=
  if x.fit then x.enter .active none else x.enter .waking (seconds wakeTime)

theorem domainWaking_replaced (d : Fin 8) (s : State) :
    Replaced d (wakingRecord s.doms.wakeTime s.doms.domains[d]) s (s.domainWaking d) := by
  unfold wakingRecord
  split
  next fit =>
    rw [domainWaking_fit fit]
    have waking := modDomain_replaced d (Domain.enter .waking (seconds s.doms.wakeTime)) s
    have active := domainActive_replaced d (s.modDomain d (Domain.enter .waking (seconds s.doms.wakeTime)))
    rw [replaced_same waking] at active
    exact replaced_trans waking active
  next unfit =>
    rw [domainWaking_waits (eq_false_of_ne_true unfit)]
    exact modDomain_replaced d _ s

/-! ## A stop withdrawn or a rest ended (R173, R174) -/

/-- STOPPING or RESTING, the states in which STOP_REQ is high. -/
abbrev standsDown (st : DomainState) : Prop := st = .stopping ∨ st = .resting

/-- ACTIVE, WAKING or FAULTED, the states in which STOP_REQ is low. -/
abbrev standsUp (st : DomainState) : Prop := st = .active ∨ st = .waking ∨ st = .faulted

theorem standsUp_or_standsDown (st : DomainState) : standsUp st ∨ standsDown st := by
  cases st <;> decide

/-- The record that the end of a stop or of a rest leaves. -/
def endedRecord (wakeTime : Nat) (x : Domain) : Domain :=
  match x.state with
  | .stopping => if x.ready.level then x.enter .active none else wakingRecord wakeTime x
  | .resting => wakingRecord wakeTime x
  | .active | .waking | .faulted => x

theorem endRest_stopping (h : s.doms.domains[d].state = .stopping) : s.endRest d = s.domainReturn d := by
  simp only [State.endRest, h]

theorem endRest_resting (h : s.doms.domains[d].state = .resting) : s.endRest d = s.domainWaking d := by
  simp only [State.endRest, h]

theorem endRest_up (h : standsUp s.doms.domains[d].state) : s.endRest d = s := by
  rcases h with h | h | h <;> simp only [State.endRest, h]

theorem endedRecord_up {x : Domain} (wakeTime : Nat) (h : standsUp x.state) : endedRecord wakeTime x = x := by
  rcases h with h | h | h <;> simp only [endedRecord, h]

theorem endedRecord_stopping {x : Domain} (wakeTime : Nat) (h : x.state = .stopping) :
    endedRecord wakeTime x = if x.ready.level then x.enter .active none else wakingRecord wakeTime x := by
  simp only [endedRecord, h]

theorem endedRecord_resting {x : Domain} (wakeTime : Nat) (h : x.state = .resting) :
    endedRecord wakeTime x = wakingRecord wakeTime x := by
  simp only [endedRecord, h]

theorem endRest_replaced (d : Fin 8) (s : State) :
    Replaced d (endedRecord s.doms.wakeTime s.doms.domains[d]) s (s.endRest d) := by
  rcases standsUp_or_standsDown s.doms.domains[d].state with up | stopping | resting
  · rw [endRest_up up, endedRecord_up _ up]
    exact replaced_refl d s
  · rw [endRest_stopping stopping, endedRecord_stopping _ stopping]
    unfold State.domainReturn
    split
    · exact domainActive_replaced d s
    · exact domainWaking_replaced d s
  · rw [endRest_resting resting, endedRecord_resting _ resting]
    exact domainWaking_replaced d s

theorem onward_modDomain (d : Fin 8) (f : Domain → Domain) (s : State) : Onward s (s.modDomain d f) :=
  onward_of_eq rfl rfl

theorem onward_domainActive (d : Fin 8) (s : State) : Onward s (s.domainActive d) :=
  onward_trans (onward_modDomain d _ s) (onward_reportGained d _)

theorem onward_domainWaking (d : Fin 8) (s : State) : Onward s (s.domainWaking d) := by
  have waking : Onward s (s.modDomain d (Domain.enter .waking (seconds s.doms.wakeTime))) := onward_modDomain d _ s
  cases fit : s.doms.domains[d].fit with
  | true =>
    rw [domainWaking_fit fit]
    exact onward_trans (onward_trans waking (onward_domainActive d _)) (onward_raiseBooth _ _)
  | false =>
    rw [domainWaking_waits fit]
    exact waking

theorem onward_endRest (d : Fin 8) (s : State) : Onward s (s.endRest d) := by
  rcases standsUp_or_standsDown s.doms.domains[d].state with up | stopping | resting
  · rw [endRest_up up]
    exact onward_refl s
  · rw [endRest_stopping stopping]
    unfold State.domainReturn
    split
    · exact onward_domainActive d s
    · exact onward_domainWaking d s
  · rw [endRest_resting resting]
    exact onward_domainWaking d s

/-- DOMAIN_DONE stands in the booth's attention. -/
def DoneRaised (s : State) : Prop := s.booth.attention.getLsbD 11 = true

theorem doneRaised_onward (h : DoneRaised s) (k : Onward s t) : DoneRaised t := k.attention 11 h

theorem doneRaised_raiseBooth (s : State) : DoneRaised (s.raiseBooth .domainDone) := by
  simp [DoneRaised, State.raiseBooth, State.modPort, Port.raise, Port.withLine, kindSet, BoothKind.bit]

theorem attention_of_doneRaised (h : DoneRaised s) : s.booth.attention &&& kindSet 11 ≠ 0 := by
  intro empty
  have bit := congrArg (·.getLsbD 11) empty
  rw [DoneRaised] at h
  simp [kindSet, -BitVec.getLsbD_eq_getElem, h] at bit

theorem endRest_doneRaised (h : s.doms.domains[d].state = .resting) (fit : s.doms.domains[d].fit = true) :
    DoneRaised (s.endRest d) := by
  rw [endRest_resting h, domainWaking_fit fit]
  exact doneRaised_raiseBooth _

/-- What the end of the stop or rest of a domain of `s` has made of the domain in `t`. -/
def Released (s t : State) (d : Fin 8) : Prop :=
  let x := s.doms.domains[d]
  let y := t.doms.domains[d]
  y.stopReq = false ∧
    (x.state = .stopping →
      (x.ready.level = true → y.state = .active ∧ y.timer = none) ∧
      (x.ready.level = false → y.state = .waking ∧ y.timer = some (s.doms.wakeTime * 1000))) ∧
    (x.state = .resting →
      (x.ready.level = true → x.stopAck.level = false → y.state = .active ∧ y.timer = none ∧
        t.booth.attention &&& kindSet 11 ≠ 0) ∧
      (x.ready.level = false ∨ x.stopAck.level = true →
        y.state = .waking ∧ y.timer = some (s.doms.wakeTime * 1000)))

theorem fit_eq_true {x : Domain} : x.fit = true ↔ x.ready.level = true ∧ x.stopAck.level = false := by
  simp [Domain.fit]

theorem wakingRecord_keeps (wakeTime : Nat) (x : Domain) :
    (wakingRecord wakeTime x).plan = x.plan ∧ (wakingRecord wakeTime x).status = x.status ∧
      (wakingRecord wakeTime x).ready = x.ready ∧ (wakingRecord wakeTime x).stopAck = x.stopAck := by
  unfold wakingRecord
  split <;> exact ⟨rfl, rfl, rfl, rfl⟩

theorem wakingRecord_stopReq (wakeTime : Nat) (x : Domain) : (wakingRecord wakeTime x).stopReq = false := by
  unfold wakingRecord
  split <;> rfl

theorem endedRecord_keeps (wakeTime : Nat) (x : Domain) :
    (endedRecord wakeTime x).plan = x.plan ∧ (endedRecord wakeTime x).status = x.status ∧
      (endedRecord wakeTime x).ready = x.ready ∧ (endedRecord wakeTime x).stopAck = x.stopAck := by
  have waking := wakingRecord_keeps wakeTime x
  rcases standsUp_or_standsDown x.state with up | stopping | resting
  · rw [endedRecord_up _ up]
    exact ⟨rfl, rfl, rfl, rfl⟩
  · rw [endedRecord_stopping _ stopping]
    split
    · exact ⟨rfl, rfl, rfl, rfl⟩
    · exact waking
  · rw [endedRecord_resting _ resting]
    exact waking

theorem endedRecord_stopReq {x : Domain} (wakeTime : Nat) (h : standsDown x.state) :
    (endedRecord wakeTime x).stopReq = false := by
  rcases h with stopping | resting
  · rw [endedRecord_stopping _ stopping]
    split
    · rfl
    · exact wakingRecord_stopReq _ x
  · rw [endedRecord_resting _ resting]
    exact wakingRecord_stopReq _ x

theorem endedRecord_active {x : Domain} (wakeTime : Nat)
    (h : x.state = .stopping ∧ x.ready.level = true ∨ x.state = .resting ∧ x.fit = true) :
    endedRecord wakeTime x = x.enter .active none := by
  rcases h with ⟨hs, hr⟩ | ⟨hs, hf⟩
  · rw [endedRecord_stopping _ hs, if_pos hr]
  · rw [endedRecord_resting _ hs, wakingRecord, if_pos hf]

theorem endedRecord_waking {x : Domain} (wakeTime : Nat) (hs : standsDown x.state) (hf : x.fit = false)
    (hr : x.state = .stopping → x.ready.level = false) :
    endedRecord wakeTime x = x.enter .waking (seconds wakeTime) := by
  have waking : wakingRecord wakeTime x = x.enter .waking (seconds wakeTime) := if_neg (ne_true_of_eq_false hf)
  rcases hs with stopping | resting
  · rw [endedRecord_stopping _ stopping, if_neg (ne_true_of_eq_false (hr stopping)), waking]
  · rw [endedRecord_resting _ resting, waking]

/-- A domain record with its status member set or cleared. -/
def withStatus (status : Bool) (x : Domain) : Domain := { x with status := status }

/-- The domain of `s`, released in a later `u` that has changed at most its status member, is so in any `t` that keeps
its record and the attention. -/
theorem released_of_endRest {status : Bool} {x : Domain} (hs : s.doms.domains[d] = x) (hx : standsDown x.state)
    (record : u.doms.domains[d] = withStatus status x) (settings : u.doms.wakeTime = s.doms.wakeTime)
    (kept : t.doms.domains[d] = (u.endRest d).doms.domains[d]) (later : Onward (u.endRest d) t) :
    Released s t d ∧ t.doms.domains[d].plan = x.plan ∧ t.doms.domains[d].status = status ∧
      t.doms.domains[d].ready = x.ready ∧ t.doms.domains[d].stopAck = x.stopAck := by
  have ended : t.doms.domains[d] = endedRecord s.doms.wakeTime (withStatus status x) := by
    rw [kept, replaced_same (endRest_replaced d u), settings, record]
  have down : standsDown (withStatus status x).state := hx
  simp only [Released, hs, ended]
  refine ⟨⟨endedRecord_stopReq _ down, fun stopping => ⟨fun ready => ?returns, fun ready => ?waits⟩,
    fun resting => ⟨fun ready ack => ?wakes, fun unfit => ?holds⟩⟩, endedRecord_keeps _ (withStatus status x)⟩
  case returns =>
    rw [endedRecord_active _ (.inl ⟨show (withStatus status x).state = .stopping from stopping, ready⟩)]
    exact ⟨rfl, rfl⟩
  case waits =>
    have notFit : (withStatus status x).fit = false := by simp [withStatus, Domain.fit, ready]
    rw [endedRecord_waking _ down notFit fun _ => ready]
    exact ⟨rfl, rfl⟩
  case wakes =>
    have fit : (withStatus status x).fit = true := fit_eq_true.mpr ⟨ready, ack⟩
    have raised : DoneRaised (u.endRest d) := endRest_doneRaised (by rw [record]; exact resting) (by rwa [record])
    rw [endedRecord_active _ (.inr ⟨show (withStatus status x).state = .resting from resting, fit⟩)]
    exact ⟨rfl, rfl, attention_of_doneRaised (doneRaised_onward raised later)⟩
  case holds =>
    have notFit : (withStatus status x).fit = false := by
      rcases unfit with h | h <;> simp [withStatus, Domain.fit, h]
    have notStopping : (withStatus status x).state ≠ .stopping := fun h => by simp [resting, withStatus] at h
    rw [endedRecord_waking _ down notFit fun h => absurd h notStopping]
    exact ⟨rfl, rfl⟩

end Sys2Proof.EquipmentDomains
end

section
/-!
SUPPORT. REST (R171, R172): the check of the plan on a state whose live orders read clean, and the plan applied to the
eight domains in order.
-/

namespace Sys2Proof.EquipmentDomains

open Sys2Proof Sys2Proof.Machine Sys2Proof.NightUnit

variable {s t u : State} {d : Fin 8}

/-! ## The rest conditions (R171) -/

/-- Nothing stands that keeps a domain from resting. -/
def Idle (s : State) (d : Fin 8) : Prop :=
  (∀ n : Fin 6, d.val = n.val → s.shows.screens[n].state = .dark ∧ s.gate.live[n] = 0) ∧
  (d = 6 → s.ords.kitchen = [] ∧ (∀ r : Fin 12, s.ords.runners[r].carried = []) ∧
    ∀ k ∈ s.liveOrders, (s.order k).state = .delivered) ∧
  (d = 7 → ∀ n : Fin 4, s.gate.lanes[n].bound = none)

/-- A plan member, not RESTING, whose rest condition fails. -/
def Fails (s : State) (d : Fin 8) : Prop :=
  s.doms.domains[d].plan = true ∧ s.doms.domains[d].state ≠ .resting ∧ ¬ Idle s d

theorem carried_eq_nil (o : OrderTable) : o.carried = [] ↔ ∀ r : Fin 12, o.runners[r].carried = [] := by
  simp only [OrderTable.carried, List.flatMap_eq_nil_iff, Vector.mem_toList_iff, Vector.mem_iff_getElem]
  exact ⟨fun h r => h _ ⟨r, r.isLt, rfl⟩, fun h _ ⟨r, hr, found⟩ => found ▸ h ⟨r, hr⟩⟩

theorem kitchenIdle_clean (h : ∀ k ∈ s.liveOrders, s.orderClean k) : ∃ b : Bool, s.kitchenIdle = (b, s) ∧
    (b = true ↔ s.ords.kitchen = [] ∧ s.ords.carried = [] ∧ ∀ k ∈ s.liveOrders, (s.order k).state = .delivered) := by
  have read := readOrders_clean s
    (s.liveOrders.filter fun o => !s.ords.kitchen.contains o && !s.ords.carried.contains o)
    fun k hk => h k (List.mem_of_mem_filter hk)
  refine ⟨s.kitchenIdle.1, ?_, ?_⟩
  · simp only [State.kitchenIdle, read]
  · simp only [State.kitchenIdle, read, Bool.and_true, Bool.and_eq_true, List.isEmpty_iff, and_assoc]
    refine and_congr_right fun kitchen => and_congr_right fun carried => ?_
    simp [kitchen, carried]

theorem domainScreen_screen (h : d.val < 6) : domainScreen d = some ⟨d.val, h⟩ := dif_pos h

theorem idle_screen (h : d.val < 6) :
    Idle s d ↔ s.shows.screens[(⟨d.val, h⟩ : Fin 6)].state = .dark ∧ s.gate.live[(⟨d.val, h⟩ : Fin 6)] = 0 := by
  have own : ∀ n : Fin 6, d.val = n.val → (⟨d.val, h⟩ : Fin 6) = n := fun n hn => Fin.ext hn
  exact ⟨fun idle => idle.1 ⟨d.val, h⟩ rfl, fun dark => ⟨fun n hn => own n hn ▸ dark,
    fun kitchen => absurd h (by simp [kitchen]), fun gates => absurd h (by simp [gates])⟩⟩

theorem idle_kitchen : Idle s 6 ↔
    s.ords.kitchen = [] ∧ s.ords.carried = [] ∧ ∀ k ∈ s.liveOrders, (s.order k).state = .delivered := by
  have noScreen : ∀ n : Fin 6, ¬ (6 : Fin 8).val = n.val := by decide
  rw [carried_eq_nil]
  exact ⟨fun idle => idle.2.1 rfl,
    fun clear => ⟨fun n hn => absurd hn (noScreen n), fun _ => clear, fun gates => absurd gates (by decide)⟩⟩

theorem idle_gates : Idle s 7 ↔ ∀ n : Fin 4, s.gate.lanes[n].bound = none := by
  have noScreen : ∀ n : Fin 6, ¬ (7 : Fin 8).val = n.val := by decide
  exact ⟨fun idle => idle.2.2 rfl,
    fun clear => ⟨fun n hn => absurd hn (noScreen n), fun kitchen => absurd kitchen (by decide), fun _ => clear⟩⟩

/-- On a state whose live orders read clean the rest condition is answered as it stands, and nothing changes. -/
theorem restCondition_clean (h : ∀ k ∈ s.liveOrders, s.orderClean k) (d : Fin 8) :
    ∃ b : Bool, s.restCondition d = (b, s) ∧ (b = true ↔ Idle s d) := by
  obtain hscreen | rfl | rfl : d.val < 6 ∨ d = 6 ∨ d = 7 := by omega
  · simp [State.restCondition, domainScreen_screen hscreen, idle_screen hscreen]
  · obtain ⟨b, hb, idle⟩ := kitchenIdle_clean h
    exact ⟨b, hb, idle.trans idle_kitchen.symm⟩
  · refine ⟨s.gate.lanes.all fun l => l.bound.isNone, rfl, ?_⟩
    simp [idle_gates, Vector.all_eq_true, Fin.forall_iff]

theorem planFault_cons_fails (h : ∀ k ∈ s.liveOrders, s.orderClean k) (hd : Fails s d) (rest : List (Fin 8)) :
    State.planFault (d :: rest) s = (some d, s) := by
  obtain ⟨plan, state, busy⟩ := hd
  obtain ⟨b, hb, idle⟩ := restCondition_clean h d
  have no : b = false := eq_false_of_ne_true (mt idle.mp busy)
  subst no
  simp only [State.planFault, if_pos (And.intro plan state), hb]

theorem planFault_cons_passes (h : ∀ k ∈ s.liveOrders, s.orderClean k) (hd : ¬ Fails s d) (rest : List (Fin 8)) :
    State.planFault (d :: rest) s = State.planFault rest s := by
  by_cases member : s.doms.domains[d].plan = true ∧ s.doms.domains[d].state ≠ .resting
  · obtain ⟨b, hb, idle⟩ := restCondition_clean h d
    have yes : b = true := idle.mpr (by_contra fun busy => hd ⟨member.1, member.2, busy⟩)
    subst yes
    simp only [State.planFault, if_pos member, hb]
  · simp only [State.planFault, if_neg member]

theorem planFault_passes (h : ∀ k ∈ s.liveOrders, s.orderClean k) (pass : ∀ e, ¬ Fails s e) (l : List (Fin 8)) :
    State.planFault l s = (none, s) := by
  induction l with
  | nil => rfl
  | cons d rest ih => rw [planFault_cons_passes h (pass d), ih]

theorem planFault_first (h : ∀ k ∈ s.liveOrders, s.orderClean k) (hd : Fails s d) (first : ∀ e, e < d → ¬ Fails s e)
    {l : List (Fin 8)} (ascending : l.Pairwise (· < ·)) (mem : d ∈ l) : State.planFault l s = (some d, s) := by
  induction l with
  | nil => exact absurd mem List.not_mem_nil
  | cons e rest ih =>
    obtain ⟨below, ascending⟩ := List.pairwise_cons.mp ascending
    obtain rfl | later := List.mem_cons.mp mem
    · exact planFault_cons_fails h hd rest
    · rw [planFault_cons_passes h (first e (below d later)), ih ascending later]

/-! ## The plan applied to one domain (R172) -/

theorem applyPlan_stops (plan : s.doms.domains[d].plan = true) (up : standsUp s.doms.domains[d].state) :
    s.applyPlan d = s.domainStopping d := by
  rcases up with up | up | up <;> simp only [State.applyPlan, plan, up]

theorem applyPlan_stays (plan : s.doms.domains[d].plan = true) (down : standsDown s.doms.domains[d].state) :
    s.applyPlan d = s := by
  rcases down with down | down <;> simp only [State.applyPlan, plan, down]

theorem applyPlan_ends (plan : s.doms.domains[d].plan = false) : s.applyPlan d = s.endRest d := by
  cases state : s.doms.domains[d].state <;> simp only [State.applyPlan, State.endRest, plan, state]

theorem domainStopping_onward (d : Fin 8) (s : State) : Onward s (s.domainStopping d) := by
  unfold State.domainStopping
  dsimp only
  split
  · exact onward_trans (onward_modDomain d _ s) (onward_reportLost d _)
  · exact onward_modDomain d _ s

theorem applyPlan_replaced_onward (d : Fin 8) (s : State) :
    (∃ y, Replaced d y s (s.applyPlan d)) ∧ Onward s (s.applyPlan d) := by
  cases plan : s.doms.domains[d].plan with
  | true =>
    rcases standsUp_or_standsDown s.doms.domains[d].state with up | down
    · rw [applyPlan_stops plan up]
      exact ⟨⟨_, domainStopping_replaced d s⟩, domainStopping_onward d s⟩
    · rw [applyPlan_stays plan down]
      exact ⟨⟨_, replaced_refl d s⟩, onward_refl s⟩
  | false =>
    rw [applyPlan_ends plan]
    exact ⟨⟨_, endRest_replaced d s⟩, onward_endRest d s⟩

/-! ## The plan applied to all (R172) -/

/-- The record of a domain and the two handshake times are those of an earlier state. -/
def SameAt (d : Fin 8) (s t : State) : Prop :=
  t.doms.domains[d] = s.doms.domains[d] ∧ t.doms.wakeTime = s.doms.wakeTime ∧
    t.doms.acknowledgeTime = s.doms.acknowledgeTime

theorem applyPlan_sameAt {e : Fin 8} (he : e ≠ d) (s : State) : SameAt d s (s.applyPlan e) := by
  obtain ⟨⟨y, replaced⟩, -⟩ := applyPlan_replaced_onward e s
  exact ⟨replaced_other replaced he.symm, replaced_wakeTime replaced, replaced_acknowledgeTime replaced⟩

theorem each_applyPlan_sameAt {l : List (Fin 8)} (hd : d ∉ l) (s : State) :
    SameAt d s (s.each l State.applyPlan) := by
  induction l generalizing s with
  | nil => exact ⟨rfl, rfl, rfl⟩
  | cons e rest ih =>
    obtain ⟨hne, hrest⟩ := not_or.mp (mt List.mem_cons.mpr hd)
    obtain ⟨record, wake, acknowledge⟩ := applyPlan_sameAt (Ne.symm hne) s
    obtain ⟨record', wake', acknowledge'⟩ := ih hrest (s.applyPlan e)
    exact ⟨record'.trans record, wake'.trans wake, acknowledge'.trans acknowledge⟩

/-- The status made a copy of the plan. -/
def copyPlan (s : State) : State :=
  s.modDoms fun c => { c with domains := c.domains.map fun d => { d with status := d.plan } }

theorem copyPlan_record (d : Fin 8) (s : State) :
    (copyPlan s).doms.domains[d] = withStatus s.doms.domains[d].plan s.doms.domains[d] := by
  simp [copyPlan, withStatus]

/-- The plan applied to the eight domains. -/
def planApplied (s : State) : State := (copyPlan s).each (List.finRange 8) State.applyPlan

/-- REST comes to a domain in a state that has its record and the settings of the start, and what follows keeps what it
makes of it. -/
theorem planApplied_at (d : Fin 8) (s : State) : ∃ u : State, SameAt d (copyPlan s) u ∧
    SameAt d (u.applyPlan d) (planApplied s) ∧ Onward (u.applyPlan d) (planApplied s) := by
  obtain ⟨before, after, split⟩ := List.append_of_mem (List.mem_finRange d)
  have distinct := List.nodup_finRange 8
  rw [split] at distinct
  have notAfter : d ∉ after := (List.nodup_cons.mp distinct.of_append_right).1
  have notBefore : d ∉ before := fun h => List.disjoint_of_nodup_append distinct h List.mem_cons_self
  have applied : planApplied s =
      (((copyPlan s).each before State.applyPlan).applyPlan d).each after State.applyPlan := by
    rw [planApplied, split]
    simp only [State.each, List.foldl_append, List.foldl_cons]
  rw [applied]
  exact ⟨_, each_applyPlan_sameAt notBefore _, each_applyPlan_sameAt notAfter _,
    onward_each (fun e t => (applyPlan_replaced_onward e t).2) after _⟩

theorem planApplied_stops (plan : s.doms.domains[d].plan = true) (up : standsUp s.doms.domains[d].state) :
    (planApplied s).doms.domains[d] =
      (withStatus true s.doms.domains[d]).enter .stopping (seconds s.doms.acknowledgeTime) := by
  obtain ⟨u, ⟨record, -, acknowledge⟩, ⟨kept, -, -⟩, -⟩ := planApplied_at d s
  rw [copyPlan_record, plan] at record
  rw [kept, applyPlan_stops (by rw [record]; exact plan) (by rw [record]; exact up),
    replaced_same (domainStopping_replaced d u), record, acknowledge]
  rfl

theorem planApplied_stays (plan : s.doms.domains[d].plan = true) (down : standsDown s.doms.domains[d].state) :
    (planApplied s).doms.domains[d] = withStatus true s.doms.domains[d] := by
  obtain ⟨u, ⟨record, -, -⟩, ⟨kept, -, -⟩, -⟩ := planApplied_at d s
  rw [copyPlan_record, plan] at record
  rw [kept, applyPlan_stays (by rw [record]; exact plan) (by rw [record]; exact down), record]

theorem planApplied_up (plan : s.doms.domains[d].plan = false) (up : standsUp s.doms.domains[d].state) :
    (planApplied s).doms.domains[d] = withStatus false s.doms.domains[d] := by
  obtain ⟨u, ⟨record, -, -⟩, ⟨kept, -, -⟩, -⟩ := planApplied_at d s
  rw [copyPlan_record, plan] at record
  rw [kept, applyPlan_ends (by rw [record]; exact plan), endRest_up (by rw [record]; exact up), record]

theorem planApplied_released (plan : s.doms.domains[d].plan = false) (down : standsDown s.doms.domains[d].state)
    (doms : t.doms = (planApplied s).doms) (later : Onward (planApplied s) t) :
    Released s t d ∧ t.doms.domains[d].plan = s.doms.domains[d].plan ∧ t.doms.domains[d].status = false ∧
      t.doms.domains[d].ready = s.doms.domains[d].ready ∧ t.doms.domains[d].stopAck = s.doms.domains[d].stopAck := by
  obtain ⟨u, ⟨record, wake, -⟩, ⟨kept, -, -⟩, onward⟩ := planApplied_at d s
  rw [copyPlan_record, plan] at record
  rw [applyPlan_ends (by rw [record]; exact plan)] at kept onward
  exact released_of_endRest rfl down record wake (by rw [doms, kept]) (onward_trans onward later)

/-- Whatever its membership and its state, a domain keeps its plan member and its levels, and its status member is a
copy of its plan member. -/
theorem planApplied_keeps (d : Fin 8) (s : State) :
    (planApplied s).doms.domains[d].plan = s.doms.domains[d].plan ∧
    (planApplied s).doms.domains[d].status = s.doms.domains[d].plan ∧
    (planApplied s).doms.domains[d].ready = s.doms.domains[d].ready ∧
    (planApplied s).doms.domains[d].stopAck = s.doms.domains[d].stopAck := by
  rcases standsUp_or_standsDown s.doms.domains[d].state with up | down
  · cases plan : s.doms.domains[d].plan with
    | true => rw [planApplied_stops plan up]; exact ⟨plan, rfl, rfl, rfl⟩
    | false => rw [planApplied_up plan up]; exact ⟨plan, rfl, rfl, rfl⟩
  · cases plan : s.doms.domains[d].plan with
    | true => rw [planApplied_stays plan down]; exact ⟨plan, rfl, rfl, rfl⟩
    | false =>
      have keeps := (planApplied_released plan down rfl (onward_refl _)).2
      rwa [plan] at keeps

/-! ## The windows when KITCHEN stops (R128, R179) -/

theorem domainWaking_gates_ords (s : State) : (s.domainWaking 7).ords = s.ords := by
  cases fit : s.doms.domains[(7 : Fin 8)].fit with
  | true => rw [domainWaking_fit fit]; rfl
  | false => rw [domainWaking_waits fit]; rfl

theorem applyPlan_gates_ords (s : State) : (s.applyPlan 7).ords = s.ords := by
  cases plan : s.doms.domains[(7 : Fin 8)].plan with
  | true =>
    rcases standsUp_or_standsDown s.doms.domains[(7 : Fin 8)].state with up | down
    · rw [applyPlan_stops plan up]
      unfold State.domainStopping
      dsimp only
      split <;> rfl
    · rw [applyPlan_stays plan down]
  | false =>
    rw [applyPlan_ends plan]
    rcases standsUp_or_standsDown s.doms.domains[(7 : Fin 8)].state with up | stopping | resting
    · rw [endRest_up up]
    · rw [endRest_stopping stopping]
      unfold State.domainReturn
      split
      · rfl
      · exact domainWaking_gates_ords s
    · rw [endRest_resting resting, domainWaking_gates_ords]

theorem domainStopping_kitchen_windows (h : s.doms.domains[(6 : Fin 8)].state = .active) (n : Fin 6) :
    (s.domainStopping 6).ords.windows[n] = false := by
  have active : s.active 6 = true := by simpa [State.active] using h
  have down : (s.modDomain 6 (Domain.enter .stopping (seconds s.doms.acknowledgeTime))).active kitchen = false := by
    simp [State.active, kitchen, upd_getElem, Domain.enter]
  have stopping : s.domainStopping 6 =
      (s.modDomain 6 (Domain.enter .stopping (seconds s.doms.acknowledgeTime))).recomputeWindows := if_pos active
  rw [stopping, recomputeWindows_windows, State.windowCondition, down]
  simp

theorem planApplied_windows (plan : s.doms.domains[(6 : Fin 8)].plan = true)
    (active : s.doms.domains[(6 : Fin 8)].state = .active) (n : Fin 6) :
    (planApplied s).ords.windows[n] = false := by
  have order : planApplied s = (((copyPlan s).each [0, 1, 2, 3, 4, 5] State.applyPlan).applyPlan 6).applyPlan 7 := by
    have domains : List.finRange 8 = [0, 1, 2, 3, 4, 5] ++ [6, 7] := by decide
    rw [planApplied, domains]
    simp only [State.each, List.foldl_append, List.foldl_cons, List.foldl_nil]
  obtain ⟨record, -, -⟩ := each_applyPlan_sameAt (d := 6) (l := [0, 1, 2, 3, 4, 5]) (by decide) (copyPlan s)
  rw [copyPlan_record] at record
  rw [order, applyPlan_gates_ords, applyPlan_stops (by rw [record]; exact plan) (by rw [record]; exact .inl active),
    domainStopping_kitchen_windows (by rw [record]; exact active)]

/-! ## DOMAIN_DONE for the plan (R172, R177) -/

theorem rested_iff (c : DomainControl) : c.rested = true ↔ (∃ d : Fin 8, c.domains[d].status = true) ∧
    ∀ d : Fin 8, c.domains[d].status = true → c.domains[d].state = .resting := by
  simp [DomainControl.rested, Vector.any_eq_true, Vector.all_eq_true, Fin.forall_iff, Fin.exists_iff,
    Classical.or_iff_not_imp_left]

theorem examineStatus_doms (s : State) : s.examineStatus.doms = s.doms := by
  unfold State.examineStatus
  split <;> rfl

theorem examineStatus_ords (s : State) : s.examineStatus.ords = s.ords := by
  unfold State.examineStatus
  split <;> rfl

theorem onward_examineStatus (s : State) : Onward s s.examineStatus := by
  unfold State.examineStatus
  split
  · exact onward_raiseBooth _ s
  · exact onward_refl s

theorem examineStatus_doneRaised (h : s.doms.rested = true) : DoneRaised s.examineStatus := by
  rw [State.examineStatus, if_pos h]
  exact doneRaised_raiseBooth s

theorem planApplied_rested (member : ∃ d : Fin 8, s.doms.domains[d].plan = true)
    (rest : ∀ d : Fin 8, s.doms.domains[d].plan = true → s.doms.domains[d].state = .resting) :
    (planApplied s).doms.rested = true := by
  have status : ∀ d : Fin 8, (planApplied s).doms.domains[d].status = s.doms.domains[d].plan :=
    fun d => (planApplied_keeps d s).2.1
  refine (rested_iff _).mpr ⟨member.imp fun d plan => (status d).trans plan, fun d hd => ?_⟩
  have plan : s.doms.domains[d].plan = true := (status d).symm.trans hd
  rw [planApplied_stays plan (.inr (rest d plan))]
  exact rest d plan

/-! ## REST -/

theorem restCommand_fails (h : ∀ k ∈ s.liveOrders, s.orderClean k) (hd : Fails s d)
    (first : ∀ e, e < d → ¬ Fails s e) :
    restCommand s = { state := s, status := .planInvalid, data := [numberByte d] } := by
  simp only [restCommand, planFault_first h hd first (List.pairwise_lt_finRange 8) (List.mem_finRange d)]

theorem restCommand_passes (h : ∀ k ∈ s.liveOrders, s.orderClean k) (pass : ∀ d, ¬ Fails s d) :
    restCommand s = (planApplied s).examineStatus.ok
      ((planApplied s).examineStatus.doms.domains.toList.map fun d => byte1 d.state.number) := by
  simp only [restCommand, planFault_passes h pass, planApplied, copyPlan]

end Sys2Proof.EquipmentDomains
end

section
/-!
SUPPORT. SET_REST_PLAN (R170), WAKE (R176), the rest withdrawn by its screen (R178) and READ_DOMAINS (R180), and the
statement about the commands of the domain controller.
-/

namespace Sys2Proof.EquipmentDomains

open Sys2Proof Sys2Proof.Machine Sys2Proof.Orders

variable {s t u : State} {d : Fin 8}

/-! ## SET_REST_PLAN (R170) -/

/-- The state that SET_REST_PLAN leaves. -/
def planned (plan : Byte) (s : State) : State :=
  s.modDoms fun c => { c with domains := c.domains.mapFinIdx fun i d _ => { d with plan := plan.getLsbD i } }

theorem setRestPlan_eq (plan : Byte) (s : State) : setRestPlan plan s = (planned plan s).ok [plan] := rfl

theorem planned_record (plan : Byte) (d : Fin 8) (s : State) :
    (planned plan s).doms.domains[d] = { s.doms.domains[d] with plan := plan.getLsbD d.val } := by
  simp [planned]

/-! ## WAKE (R176) -/

theorem wakeCommand_badParam {domain : Byte} (h : numbered 8 domain = none) :
    wakeCommand domain s = s.refuse .badParam := by
  simp only [wakeCommand, h]

/-- The status member of a domain cleared. -/
def clearStatus (d : Fin 8) (s : State) : State := s.modDomain d (withStatus false)

theorem clearStatus_record (d : Fin 8) (s : State) :
    (clearStatus d s).doms.domains[d] = withStatus false s.doms.domains[d] :=
  replaced_same (modDomain_replaced d _ s)

theorem wakeCommand_named {domain : Byte} (h : numbered 8 domain = some d) :
    wakeCommand domain s = ((clearStatus d s).endRest d).ok
      [byte1 ((clearStatus d s).endRest d).doms.domains[d].state.number] := by
  simp only [wakeCommand, h]
  rfl

/-- A stop or rest of the domain ended with its status member cleared, on a state whose domains are those of `s`. -/
theorem clearStatus_endRest_released (down : standsDown s.doms.domains[d].state) (doms : u.doms = s.doms)
    (kept : t.doms = ((clearStatus d u).endRest d).doms) (later : Onward ((clearStatus d u).endRest d) t) :
    Released s t d ∧ t.doms.domains[d].plan = s.doms.domains[d].plan ∧ t.doms.domains[d].status = false ∧
      t.doms.domains[d].ready = s.doms.domains[d].ready ∧ t.doms.domains[d].stopAck = s.doms.domains[d].stopAck ∧
      ∀ e : Fin 8, e ≠ d → t.doms.domains[e] = s.doms.domains[e] := by
  have record := clearStatus_record d u
  rw [doms] at record
  have wakeTime : (clearStatus d u).doms.wakeTime = s.doms.wakeTime := by
    rw [clearStatus, replaced_wakeTime (modDomain_replaced d _ u), doms]
  obtain ⟨released, plan, status, ready, ack⟩ := released_of_endRest rfl down record wakeTime (by rw [kept]) later
  refine ⟨released, plan, status, ready, ack, fun e he => ?_⟩
  rw [kept, replaced_other (endRest_replaced d _) he, clearStatus, replaced_other (modDomain_replaced d _ u) he, doms]

/-! ## The rest withdrawn by its screen (R178) -/

theorem withdrawRest_up {n : Fin 6} (h : standsUp s.doms.domains[screenDomain n].state) : s.withdrawRest n = s := by
  rcases h with h | h | h <;> simp only [State.withdrawRest, h]

theorem withdrawRest_down {n : Fin 6} (h : standsDown s.doms.domains[screenDomain n].state) :
    s.withdrawRest n = (clearStatus (screenDomain n) s).endRest (screenDomain n) := by
  rcases h with h | h <;> simp only [State.withdrawRest, h] <;> rfl

theorem onward_withdrawRest (n : Fin 6) (s : State) : Onward s (s.withdrawRest n) := by
  rcases standsUp_or_standsDown s.doms.domains[screenDomain n].state with up | down
  · rw [withdrawRest_up up]
    exact onward_refl s
  · rw [withdrawRest_down down]
    exact onward_trans (onward_modDomain _ _ s) (onward_endRest _ _)

theorem setShow_state (n : Fin 6) (x : ShowState) (s : State) : (s.setShow n x).shows.screens[n].state = x := by
  unfold State.setShow
  split
  next same => exact same
  next =>
    simp [NightUnit.windowFrame_shows (NightUnit.recomputeWindow_windowFrame n _), State.raiseBooth, State.modPort,
      Screen.enter]

theorem setShow_doms (n : Fin 6) (x : ShowState) (s : State) : (s.setShow n x).doms = s.doms :=
  showFrame_doms (setShow_showFrame s n x)

theorem leaveDark_doms (n : Fin 6) (s : State) :
    (s.leaveDark n).doms = ((s.setShow n .preshow).withdrawRest n).doms :=
  showFrame_doms (updateWanting_showFrame n _)

theorem leaveDark_notDark (n : Fin 6) (s : State) : (s.leaveDark n).shows.screens[n].state ≠ .dark := by
  have preshow : (s.setShow n .preshow).shows.screens[n].state ≠ .dark := by
    rw [setShow_state]
    decide
  exact (onward_trans (onward_withdrawRest n _) (onward_updateWanting n _)).notDark n preshow

theorem leaveDark_up {n : Fin 6} (up : standsUp s.doms.domains[screenDomain n].state) :
    (s.leaveDark n).doms = s.doms := by
  rw [leaveDark_doms, withdrawRest_up (by rwa [setShow_doms]), setShow_doms]

theorem leaveDark_released {n : Fin 6} (down : standsDown s.doms.domains[screenDomain n].state) :
    Released s (s.leaveDark n) (screenDomain n) ∧
      (s.leaveDark n).doms.domains[screenDomain n].plan = s.doms.domains[screenDomain n].plan ∧
      (s.leaveDark n).doms.domains[screenDomain n].status = false ∧
      (s.leaveDark n).doms.domains[screenDomain n].ready = s.doms.domains[screenDomain n].ready ∧
      (s.leaveDark n).doms.domains[screenDomain n].stopAck = s.doms.domains[screenDomain n].stopAck ∧
      ∀ e : Fin 8, e ≠ screenDomain n → (s.leaveDark n).doms.domains[e] = s.doms.domains[e] := by
  have shown := setShow_doms n .preshow s
  have withdrawn := withdrawRest_down (s := s.setShow n .preshow) (by rwa [shown])
  refine clearStatus_endRest_released down shown ?kept ?later
  case kept => rw [leaveDark_doms, withdrawn]
  case later =>
    rw [← withdrawn]
    exact onward_updateWanting n _

/-! ## READ_DOMAINS (R180) -/

theorem stateByte_eq (st : DomainState) (stopReq ready stopAck : Bool) :
    BitVec.ofNat 3 st.number ++ (0 : BitVec 2) ++ BitVec.ofBool stopReq ++ BitVec.ofBool ready ++ BitVec.ofBool stopAck =
      BitVec.ofNat 8 (32 * st.number + (if stopReq then 4 else 0) + (if ready then 2 else 0) +
        (if stopAck then 1 else 0)) := by
  revert stopReq ready stopAck
  cases st <;> decide

theorem domainBytes_eq (x : Domain) : x.bytes =
    BitVec.ofNat 8 (32 * x.state.number + (if x.stopReq then 4 else 0) +
      (if x.ready.level then 2 else 0) + (if x.stopAck.level then 1 else 0)) ::
    bytes2 (match x.timer with
      | some t => (t + 9) / 10
      | none => 65535) :=
  congrArg₂ List.cons (stateByte_eq _ _ _ _) (by cases x.timer <;> rfl)

theorem exec_readDomains {entry : Domain → List Byte} (ht : s.takes .booth 0x63)
    (h : ∀ x : Domain, x.bytes = entry x) :
    exec (.readDomains .booth) s = .next (s.answer .booth 0x63 .ok
      ([bitsByte (s.doms.domains.toList.map Domain.plan), bitsByte (s.doms.domains.toList.map Domain.status)] ++
        s.doms.domains.toList.flatMap entry)) := by
  obtain rfl : Domain.bytes = entry := funext h
  exact next_command_of_block ht rfl

/-! ## The statement -/

theorem exec_rest_passes (ht : s.takes .booth 0x61) (clean : ∀ k ∈ s.liveOrders, s.orderClean k)
    (pass : ∀ d, ¬ Fails s d) : exec (.rest .booth) s = .next ((planApplied s).examineStatus.answer .booth 0x61 .ok
      ((planApplied s).examineStatus.doms.domains.toList.map fun d => byte1 d.state.number)) := by
  have taken := command_taken .booth 0x61 restCommand s ht
  rw [restCommand_passes clean pass, ok_state, ok_status, ok_data] at taken
  exact congrArg Host.Outcome.next taken

/-- Settles O51: each command is the answer of its block; REST goes by the check of the plan, and, when it passes, by
the record that the plan applied leaves each domain; WAKE and a screen leaving DARK end the stop or the rest of one
domain. -/
theorem domainCommands : Obligations.DomainCommands := by
  intro s released
  refine ⟨?setRestPlan, ?rest, ?wake, ?leaveDark, ?readDomains⟩
  case setRestPlan =>
    exact fun plan ht => ⟨planned plan s, next_command_of_block ht (setRestPlan_eq plan s),
      fun d => planned_record plan d s, rfl⟩
  case rest =>
    intro ht clean idle fails
    refine ⟨fun d hd first => next_command_of_block ht (restCommand_fails clean hd first), fun pass => ?_⟩
    have doms := examineStatus_doms (planApplied s)
    have later := onward_examineStatus (planApplied s)
    refine ⟨(planApplied s).examineStatus, exec_rest_passes ht clean pass, fun d => ?_,
      fun member rest => attention_of_doneRaised (examineStatus_doneRaised (planApplied_rested member rest)),
      fun plan active n => ?_⟩
    · obtain ⟨plan, status, ready, ack⟩ := planApplied_keeps d s
      simp only [doms]
      refine ⟨plan, status, ready, ack, fun plan up => ?_, fun plan down => planApplied_stays plan down,
        fun plan down => (planApplied_released plan down doms later).1, fun plan up => planApplied_up plan up⟩
      rw [planApplied_stops plan up]
      exact ⟨rfl, rfl, rfl⟩
    · rw [examineStatus_ords]
      exact planApplied_windows plan active n
  case wake =>
    refine fun domain ht => ⟨fun h => next_command_of_block ht (wakeCommand_badParam h), fun d hd => ?_⟩
    have block := next_command_of_block ht (wakeCommand_named (s := s) hd)
    refine ⟨fun up => ?_, fun down => ⟨_, block, clearStatus_endRest_released down rfl rfl (onward_refl _)⟩⟩
    have cleared : (clearStatus d s).endRest d = clearStatus d s := endRest_up (by rw [clearStatus_record]; exact up)
    rw [cleared, clearStatus_record] at block
    exact block
  case leaveDark =>
    exact fun n => ⟨leaveDark_notDark n s, leaveDark_up, leaveDark_released⟩
  case readDomains => exact fun ht => exec_readDomains ht domainBytes_eq

end Sys2Proof.EquipmentDomains
end

section
/-!
SUPPORT. The standing store (R184, R189 to R192): what a read of a unit finds by its wrong bits, what each store
command's block hands back for each outcome of its checks, and the statement about them.
-/

namespace Sys2Proof.StandingStore

open Sys2Proof Sys2Proof.Machine Sys2Proof.Orders

/-! ## What a read of a unit finds (R184) -/

section

variable {u : StoreUnit} {k : Nat}

theorem status_of_clean (h : u.health = .clean) :
    u.status = if u.stored = erasedBytes then .erased else .programmed := by
  rw [StoreUnit.status, h, StoreUnit.bytes_of_clean u h]

theorem status_of_single (h : u.health = .single) :
    u.status = if u.bytes = erasedBytes then .erased else .corrected := by
  rw [StoreUnit.status, h]

theorem status_of_double (h : u.health = .double) : u.status = .uncorrectable := by
  rw [StoreUnit.status, h]

theorem bytes_of_single (h : u.health = .single) : u.bytes = turnBits u.wrong u.stored := if_pos h

/-- A single wrong bit falls on at most one byte; bits 128 to 136, of the check code, fall on none. -/
theorem extractLsb'_single_bit (hk : k < 137) (i : Fin 16) :
    (1#137 <<< k).extractLsb' (8 * i.val) 8 = if k / 8 = i.val then 1#8 <<< (k % 8) else 0 := by
  have bit (w n j : Nat) : (1#w <<< n).getLsbD j = (decide (n < w) && decide (n = j)) := BitVec.getLsbD_twoPow n j
  refine BitVec.eq_of_getLsbD_eq fun j hj => ?_
  rw [BitVec.getLsbD_extractLsb', bit]
  split
  · rw [bit, Bool.eq_iff_iff]
    simp only [Bool.and_eq_true, decide_eq_true_eq]
    omega
  · simp only [BitVec.ofNat_eq_ofNat, BitVec.getLsbD_zero, Bool.and_eq_false_iff, decide_eq_false_iff_not]
    omega

/-- One wrong bit turns over its place in the byte it falls on and no other byte. -/
theorem turnBits_single_bit (hk : k < 137) (b : Vector Byte 16) (i : Fin 16) :
    (turnBits (1#137 <<< k) b)[i] = if k / 8 = i.val then b[i] ^^^ 1#8 <<< (k % 8) else b[i] := by
  have place : (turnBits (1#137 <<< k) b)[i] = b[i] ^^^ (1#137 <<< k).extractLsb' (8 * i.val) 8 := by
    simp [turnBits]
  rw [place, extractLsb'_single_bit hk]
  split
  · rfl
  · exact BitVec.xor_zero

theorem read_of_sound_unit (h : u.wrong = 0) : u.health = .clean ∧ u.bytes = u.stored ∧
    u.status = if u.stored = erasedBytes then .erased else .programmed :=
  have health := u.health_eq_clean.mpr h
  ⟨health, u.bytes_of_clean health, status_of_clean health⟩

theorem read_of_one_wrong_bit (hk : k < 137) (h : u.wrong = 1#137 <<< k) : u.health = .single ∧
    (∀ i : Fin 16, u.bytes[i] = if k / 8 = i.val then u.stored[i] ^^^ 1#8 <<< (k % 8) else u.stored[i]) ∧
    u.status = if u.bytes = erasedBytes then .erased else .corrected := by
  have health := u.health_of_one k hk h
  refine ⟨health, fun i => ?_, status_of_single health⟩
  rw [bytes_of_single health, h, turnBits_single_bit hk]

theorem read_of_two_wrong_bits {j : Nat} (hjk : j < k) (hk : k < 137) (hj : u.wrong.getLsbD j = true)
    (hb : u.wrong.getLsbD k = true) : u.health = .double ∧ u.bytes = u.stored ∧ u.status = .uncorrectable :=
  have health := u.health_of_two j k hjk hk hj hb
  ⟨health, u.bytes_of_double health, status_of_double health⟩

end

variable {area unit : Byte} {a : Fin 6} {u : Fin 64} {content : List Byte} {s : State}

/-! ## What a read of a unit reports (R184) -/

theorem readUnit_fst : (s.readUnit a u).1 = s.store.unit a u := rfl

theorem readUnit_store : (s.readUnit a u).2.store = s.store := readFrame_store (readUnit_readFrame a u s)

theorem readUnit_snd : (s.readUnit a u).2 = match (s.store.unit a u).health with
    | .clean => s
    | .single => s.event (.store a u) .single
    | .double => (s.event (.store a u) .double).raiseBooth .storeFault := by
  unfold State.readUnit
  dsimp only
  cases (s.store.unit a u).health <;> rfl

/-! ## The checks that programs and erases share (R190, R191, R193) -/

/-- An area that is locked, and an operation in flight, in the order in which STORE_PROGRAM and STORE_ERASE look for
them. -/
def storeChecks (a : Fin 6) (r : Store) : List (Bool × Status) :=
  [(decide (a = 0 ∨ (r.locked = true ∧ a ≠ 5)), .locked), (decide (r.op ≠ none), .busy)]

theorem lockedArea_eq (r : Store) : r.lockedArea a = decide (a = 0 ∨ (r.locked = true ∧ a ≠ 5)) := by
  simp [Store.lockedArea]

theorem busy_eq (r : Store) : r.busy = decide (r.op ≠ none) := by
  cases h : r.op <;> simp [Store.busy, h]

/-- The two checks before `x` refuse with the status of the first that fails. -/
theorem storeChecks_before (r : Store) (x : Reply) :
    (if r.lockedArea a then s.refuse .locked else if r.busy then s.refuse .busy else x) =
      ((firstFailing (storeChecks a r)).map s.refuse).getD x := by
  rw [lockedArea_eq, busy_eq, storeChecks, firstFailing_cons, firstFailing_cons, firstFailing_nil]
  split
  · rfl
  · split <;> rfl

/-! ## STORE_READ (R189) -/

theorem storeRead_badParam (h : indexed 6 area = none ∨ indexed 64 unit = none) :
    storeRead area unit s = s.refuse .badParam := by
  unfold storeRead
  split
  next ha hu => simp [ha, hu] at h
  next => rfl

section

variable (ha : indexed 6 area = some a) (hu : indexed 64 unit = some u)

include ha hu

theorem storeRead_busy (h : s.store.op.map StoreOp.area = some a) : storeRead area unit s = s.refuse .busy := by
  simp only [storeRead, ha, hu, if_pos h]

theorem storeRead_unit (h : s.store.op.map StoreOp.area ≠ some a) : storeRead area unit s =
    (s.readUnit a u).2.ok (byte1 (s.store.unit a u).status.number :: (s.store.unit a u).bytes.toList) := by
  simp only [storeRead, ha, hu, if_neg h, readUnit_fst]

end

/-! ## STORE_PROGRAM (R190) -/

theorem storeProgram_badParam (h : indexed 6 area = none ∨ indexed 64 unit = none) :
    storeProgram area unit content s = s.refuse .badParam := by
  unfold storeProgram
  split
  next ha hu => simp [ha, hu] at h
  next => rfl

theorem contentOf_toList (v : Vector Byte 16) : contentOf v.toList = v := by
  ext i hi
  simp [contentOf]

section

variable (ha : indexed 6 area = some a) (hu : indexed 64 unit = some u)

include ha hu

theorem storeProgram_refused {status : Status} (h : firstFailing (storeChecks a s.store) = some status) :
    storeProgram area unit content s = s.refuse status := by
  simp only [storeProgram, ha, hu, storeChecks_before, h, Option.map_some, Option.getD_some]

variable (h : firstFailing (storeChecks a s.store) = none)

include h

theorem storeProgram_again (hx : (s.store.unit a u).status ≠ .erased) :
    storeProgram area unit content s = (s.readUnit a u).2.refuse .programAgain := by
  simp only [storeProgram, ha, hu, storeChecks_before, h, Option.map_none, Option.getD_none, readUnit_fst]
  exact if_pos hx

theorem storeProgram_starts (hx : (s.store.unit a u).status = .erased) {v : Vector Byte 16} (hv : v.toList = content) :
    storeProgram area unit content s =
      { state := { (s.readUnit a u).2 with store := { s.store with op := some (.program a u v (some 2)) } }
        status := .accepted, data := [] } := by
  subst hv
  simp only [storeProgram, ha, hu, storeChecks_before, h, Option.map_none, Option.getD_none, readUnit_fst, hx,
    ne_eq, not_true_eq_false, if_false, contentOf_toList, State.modStore, readUnit_store, Config.programTime]

end

/-! ## STORE_ERASE (R191) -/

theorem storeErase_badParam (h : indexed 6 area = none) : storeErase area s = s.refuse .badParam := by
  simp only [storeErase, h]

theorem storeErase_refused {status : Status} (ha : indexed 6 area = some a)
    (h : firstFailing (storeChecks a s.store) = some status) : storeErase area s = s.refuse status := by
  simp only [storeErase, ha, storeChecks_before, h, Option.map_some, Option.getD_some]

theorem storeErase_starts (ha : indexed 6 area = some a) (h : firstFailing (storeChecks a s.store) = none) :
    storeErase area s =
      { state := { s with store := { s.store with op := some (.erase a (some 300)) } }
        status := .accepted, data := [] } := by
  simp only [storeErase, ha, storeChecks_before, h, Option.map_none, Option.getD_none, State.modStore, Config.eraseTime]

/-! ## STORE_STATUS (R192) -/

theorem store_bytes_eq (r : Store) : r.bytes =
    (match r.op with
      | none => ([1, 255, 255, 0, 0] : List Byte)
      | some (.program a u _ t) => [2, byte1 a.val, byte1 u.val] ++ bytes2 (t.getD 0)
      | some (.erase a t) => [3, byte1 a.val, 255] ++ bytes2 (t.getD 0)) ++
    (match r.last with
      | none => ([0, 255, 255, 0] : List Byte)
      | some (.program a u st) => [1, byte1 a.val, byte1 u.val, byte1 st.number]
      | some (.erase a count first) =>
        [2, byte1 a.val, byte1 count, (first.map fun u => byte1 u.val).getD 255]) ++
    [if r.locked then 1 else 0] := by
  unfold Store.bytes
  refine congrArg₂ (· ++ ·) (congrArg₂ (· ++ ·) ?inFlight ?lastResult) rfl
  case inFlight => rcases r.op with _ | _ | _ <;> rfl
  case lastResult => rcases r.last with _ | _ | _ <;> rfl

/-! ## The statement -/

/-- A STORE_PROGRAM with its 16 bytes that the port takes is answered with what the store hands back. -/
theorem exec_storeProgram {x : Reply} (ht : s.takes .booth 0x69) (hl : content.length = 16)
    (hb : storeProgram area unit content s = x) : exec (.storeProgram .booth area unit content) s =
      .next (x.state.answer .booth 0x69 x.status x.data) := by
  have long : (content.length == 16) = true := beq_iff_eq.mpr hl
  have answered := next_command_of_block ht hb
  rw [← long] at answered
  exact answered

/-- Settles O54: a unit reads as its wrong bits say, and each command is taken by its port and answered with the
outcome of its checks. -/
theorem storeCommands : Obligations.StoreCommands := by
  refine ⟨fun x => ⟨read_of_sound_unit, fun _ => read_of_one_wrong_bit, fun _ _ => read_of_two_wrong_bits⟩,
    fun s => ⟨fun area unit => ?readProgram, ?erase, ?status⟩⟩
  case readProgram =>
    refine ⟨fun h => ⟨fun ht => next_command_of_block ht (storeRead_badParam h),
      fun content hl ht => exec_storeProgram ht hl (storeProgram_badParam h)⟩, fun a u ha hu => ?_⟩
    have read := readUnit_snd (s := s) (a := a) (u := u)
    refine ⟨fun ht => ⟨fun h => next_command_of_block ht (storeRead_busy ha hu h), fun h => ?_⟩,
      fun content hl ht => ⟨fun status h => exec_storeProgram ht hl (storeProgram_refused ha hu h),
        fun h hx => ?_, fun h hx v hv => ?_⟩⟩
    · have block := storeRead_unit ha hu h
      rw [read] at block
      exact next_command_of_block ht block
    · have block := storeProgram_again (content := content) ha hu h hx
      rw [read] at block
      exact exec_storeProgram ht hl block
    · have block := storeProgram_starts ha hu h hx hv
      rw [read] at block
      exact exec_storeProgram ht hl block
  case erase =>
    exact fun area ht => ⟨fun h => next_command_of_block ht (storeErase_badParam h), fun a ha =>
      ⟨fun status h => next_command_of_block ht (storeErase_refused ha h),
        fun h => next_command_of_block ht (storeErase_starts ha h)⟩⟩
  case status =>
    intro ht
    have block : storeStatus s = s.ok s.store.bytes := rfl
    rw [store_bytes_eq] at block
    exact next_command_of_block ht block

end Sys2Proof.StandingStore
end

section
/-!
SUPPORT. The attention of a port (R203, R204): what a raise, a taking and a new mask leave of the port record, what the
blocks of READ_ATTENTION and SET_ATTENTION_MASK hand back, and the statement about them.
-/

namespace Sys2Proof.AttentionPorts

open Sys2Proof Sys2Proof.Machine Sys2Proof.Orders

/-! ## The attention set, the mask and the line of a port record (R203, R204) -/

section

variable (r : Port) (k m : Word24)

@[simp] theorem raise_attention : (r.raise k).attention = r.attention ||| k := rfl
@[simp] theorem raise_attn : (r.raise k).attn = ((r.attention ||| k) &&& r.mask != 0) := rfl

/-- An emptied set drives no line, whatever the mask. -/
theorem takeAttention_eq : r.takeAttention = { r with attention := 0, attn := false } := by
  simp [Port.takeAttention, Port.withLine]

theorem setMask_eq : r.setMask m = { r with mask := m, attn := r.attention &&& m != 0 } := rfl

/-- What was raised before the taking is taken with the rest, and the record keeps nothing of it. -/
theorem takeAttention_raise : (r.raise k).takeAttention = r.takeAttention := rfl

/-- What is raised after the taking is the whole set. -/
theorem raise_takeAttention :
    r.takeAttention.raise k = { r with attention := k, attn := k &&& r.mask != 0 } := by
  simp [takeAttention_eq, Port.raise, Port.withLine]

/-- A raise and a new mask meet alike in either order. -/
theorem setMask_raise_comm : (r.raise k).setMask m = (r.setMask m).raise k := rfl

end

/-! ## The blocks of READ_ATTENTION and SET_ATTENTION_MASK (R204) -/

section

variable {p : PortId} {m : Word24} {s : State}

theorem kinds_eq (p : PortId) : PortId.kinds p = if p = .booth then 0x03FFFF#24 else 0x00003F#24 := by
  cases p <;> rfl

theorem readAttention_eq : readAttention p s =
    (s.modPort p fun r => { r with attention := 0, attn := false }).ok (bytes3 (s.port p).attention.toNat) := by
  rw [readAttention, funext takeAttention_eq]

theorem setAttentionMask_badParam (h : m &&& ~~~PortId.kinds p ≠ 0) :
    setAttentionMask p m s = s.refuse .badParam := if_pos h

theorem setAttentionMask_written (h : m &&& ~~~PortId.kinds p = 0) : setAttentionMask p m s =
    (s.modPort p fun r => { r with mask := m, attn := r.attention &&& m != 0 }).ok (bytes3 m.toNat) :=
  if_neg (not_not.mpr h)

end

/-! ## The statement -/

/-- Settles O9: each command is the answer of its block, and the meetings are those of the port record. -/
theorem attentionReadAndMask : Obligations.AttentionReadAndMask := by
  refine ⟨?read, fun p m s ht => ?mask, fun r k m => ?meetings⟩
  case read => exact fun p s ht => next_command_of_block ht readAttention_eq
  case mask =>
    rw [← kinds_eq]
    exact ⟨fun h => next_command_of_block ht (setAttentionMask_badParam h),
      fun h => next_command_of_block ht (setAttentionMask_written h)⟩
  case meetings =>
    have line : ((r.raise k).setMask m).attn = ((r.attention ||| k) &&& m != 0) := by
      rw [setMask_eq, raise_attention]
    refine ⟨raise_attention r k, raise_attn r k, ?_, ?_, ?_, ?_, line, setMask_raise_comm r k m ▸ line⟩
    · rw [takeAttention_raise, takeAttention_eq]
    · rw [takeAttention_raise, takeAttention_eq]
    · rw [raise_takeAttention]
    · rw [raise_takeAttention]

end Sys2Proof.AttentionPorts
end

section
/-!
SUPPORT. The bytes of a port command (chapter 11, Command summary): fields taken apart into bytes and put together
again, the lists of entries behind a count, and the round trip of every command.
-/

namespace Sys2Proof.CommandBytes

open Sys2Proof Sys2Proof.Machine

/-! ## Fields (R209) -/

/-- A byte put below a field that begins where it ends. -/
theorem extract_append_byteAt {n : Nat} (w : BitVec n) (k m : Nat) :
    w.extractLsb' (8 * k + 8) m ++ byteAt w k = w.extractLsb' (8 * k) (m + 8) :=
  BitVec.extractLsb'_append_extractLsb'_eq_extractLsb' rfl

theorem word16_byteAt (w : Word16) : word16 (byteAt w 1) (byteAt w 0) = w :=
  (extract_append_byteAt w 0 8).trans BitVec.extractLsb'_eq_self

theorem word24_byteAt (w : Word24) : word24 (byteAt w 2) (byteAt w 1) (byteAt w 0) = w :=
  (congrArg (· ++ byteAt w 0) (extract_append_byteAt w 1 8)).trans
    ((extract_append_byteAt w 0 16).trans BitVec.extractLsb'_eq_self)

theorem word32_byteAt (w : BitVec 32) : word32 (byteAt w 3) (byteAt w 2) (byteAt w 1) (byteAt w 0) = w :=
  (congrArg (· ++ byteAt w 1 ++ byteAt w 0) (extract_append_byteAt w 2 8)).trans
    ((congrArg (· ++ byteAt w 0) (extract_append_byteAt w 1 16)).trans
      ((extract_append_byteAt w 0 24).trans BitVec.extractLsb'_eq_self))

/-! ## Entries behind a count (R129, R135, R69) -/

theorem takeSegments_bytes (segments : List (BitVec 32)) (rest : List Byte) :
    takeSegments segments.length (segments.flatMap segmentBytes ++ rest) = some (segments, rest) := by
  induction segments with
  | nil => rfl
  | cons w ws ih => simp [segmentBytes, takeSegments, ih, word32_byteAt]

theorem takeLines_bytes (lines : List RawLine) :
    takeLines lines.length (lines.flatMap fun l => [l.item, l.quantity]) = some lines := by
  induction lines with
  | nil => rfl
  | cons x xs ih => simp [takeLines, ih]

theorem takeHandles_bytes (handles : List Word16) :
    takeHandles handles.length (handles.flatMap wordBytes) = some handles := by
  induction handles with
  | nil => rfl
  | cons w ws ih => simp [wordBytes, takeHandles, ih, word16_byteAt]

/-- A well-formed command carries as many entries as its count states. -/
theorem countGood_of_wf {i : Instr} (h : i.wf = true) : i.countGood = true := (Bool.and_eq_true_iff.mp h).2

/-! ## The round trip -/

/-- The bytes that carry a command spell it. -/
def RoundTrip (i : Instr) : Prop :=
  ∀ p code l, encodeCommand i = some (p, code, l) → decodeCommand p code l = some i

theorem roundTrip_of_none {i : Instr} (h : encodeCommand i = none) : RoundTrip i := by
  intro p code l k
  rw [h] at k
  cases k

theorem roundTrip_of_bytes {i : Instr} {p : PortId} {code : Byte} {l : List Byte}
    (h : encodeCommand i = some (p, code, l)) (d : decodeCommand p code l = some i) : RoundTrip i := by
  intro p' code' l' k
  rw [h] at k
  cases k
  exact d

section

variable (p : PortId)

theorem roundTrip_loadShow (screen count : Byte) (segments : List (BitVec 32)) (start : Word24)
    (h : count.toNat = segments.length) : RoundTrip (.loadShow p screen count segments start) := by
  refine roundTrip_of_bytes rfl ?_
  show decodeShow p screen count (segments.flatMap segmentBytes ++ wordBytes3 start) = _
  simp only [decodeShow, h, takeSegments_bytes, wordBytes3, word24_byteAt]

theorem roundTrip_place (screen : Byte) (stall : Word16) (count : Byte) (lines : List RawLine)
    (h : count.toNat = lines.length) : RoundTrip (.place p screen stall count lines) := by
  refine roundTrip_of_bytes rfl ?_
  show (takeLines count.toNat (lines.flatMap fun l => [l.item, l.quantity])).map
    (Instr.place p screen (word16 (byteAt stall 1) (byteAt stall 0)) count) = _
  rw [h, takeLines_bytes, word16_byteAt, Option.map_some]

theorem roundTrip_dispatch (runner count : Byte) (handles : List Word16) (h : count.toNat = handles.length) :
    RoundTrip (.dispatch p runner count handles) := by
  refine roundTrip_of_bytes rfl ?_
  show (takeHandles count.toNat (handles.flatMap wordBytes)).map (Instr.dispatch p runner count) = _
  rw [h, takeHandles_bytes, Option.map_some]

theorem roundTrip_storeProgram (area unit : Byte) (content : List Byte) (h : content.length = 16) :
    RoundTrip (.storeProgram p area unit content) :=
  roundTrip_of_bytes rfl (if_pos h)

theorem roundTrip_take (handle : Option Word16) : RoundTrip (.take p handle) := by
  cases handle with
  | none => exact roundTrip_of_bytes rfl rfl
  | some w => exact roundTrip_of_bytes rfl (congrArg (fun x => some (Instr.take p (some x))) (word16_byteAt w))

/-- A command whose last field is two bytes long. -/
theorem roundTrip_word16 (f : Word16 → Instr) (w : Word16) {code : Byte} {l : List Byte}
    (h : encodeCommand (f w) = some (p, code, l))
    (d : decodeCommand p code l = some (f (word16 (byteAt w 1) (byteAt w 0)))) : RoundTrip (f w) :=
  roundTrip_of_bytes h (by rw [d, word16_byteAt])

/-- A command whose last field is three bytes long. -/
theorem roundTrip_word24 (f : Word24 → Instr) (w : Word24) {code : Byte} {l : List Byte}
    (h : encodeCommand (f w) = some (p, code, l))
    (d : decodeCommand p code l = some (f (word24 (byteAt w 2) (byteAt w 1) (byteAt w 0)))) : RoundTrip (f w) :=
  roundTrip_of_bytes h (by rw [d, word24_byteAt])

theorem roundTrip_move (handle : Word16) (screen : Byte) (stall : Word16) :
    RoundTrip (.move p handle screen stall) :=
  roundTrip_word16 p (fun w => .move p handle screen w) stall rfl
    (congrArg (fun x => some (Instr.move p x screen _)) (word16_byteAt handle))

theorem roundTrip_repair (handle : Word16) (cls lane : Byte) (entryTime : Word24) :
    RoundTrip (.repair p handle cls lane entryTime) :=
  roundTrip_word24 p (fun w => .repair p handle cls lane w) entryTime rfl
    (congrArg (fun x => some (Instr.repair p x cls lane _)) (word16_byteAt handle))

theorem roundTrip_settle (handle : Word16) (amount : Word24) : RoundTrip (.settle p handle amount) :=
  roundTrip_word24 p (fun w => .settle p handle w) amount rfl
    (congrArg (fun x => some (Instr.settle p x _)) (word16_byteAt handle))

end

/-- Settles O4: by cases over the commands; the fields come back byte by byte, the lists of entries by the count that a
well-formed command states. -/
theorem commandBytesRoundTrip : Obligations.CommandBytesRoundTrip := by
  intro i p code l h wf
  have counted := countGood_of_wf wf
  refine (?_ : RoundTrip i) p code l h
  clear h wf
  cases i
  case loadShow p screen count segments start => exact roundTrip_loadShow p _ _ _ _ (eq_of_beq counted)
  case place p screen stall count lines => exact roundTrip_place p _ _ _ _ (eq_of_beq counted)
  case dispatch p runner count handles => exact roundTrip_dispatch p _ _ _ (eq_of_beq counted)
  case storeProgram p area unit content => exact roundTrip_storeProgram p _ _ _ (eq_of_beq counted)
  case take p handle => exact roundTrip_take p handle
  case move p handle screen stall => exact roundTrip_move p handle screen stall
  case repair p handle cls lane entryTime => exact roundTrip_repair p handle cls lane entryTime
  case settle p handle amount => exact roundTrip_settle p handle amount
  case setAttentionMask p mask => exact roundTrip_word24 p (.setAttentionMask p) mask rfl rfl
  case setStart p screen start => exact roundTrip_word24 p (.setStart p screen) start rfl rfl
  case admitCar p lane screen cls stall => exact roundTrip_word16 p (.admitCar p lane screen cls) stall rfl rfl
  case exit p lane w => exact roundTrip_word16 p (.exit p lane) w rfl rfl
  case closeStall p screen w => exact roundTrip_word16 p (.closeStall p screen) w rfl rfl
  case openStall p screen w => exact roundTrip_word16 p (.openStall p screen) w rfl rfl
  case lookupStall p screen w => exact roundTrip_word16 p (.lookupStall p screen) w rfl rfl
  case void p w => exact roundTrip_word16 p (.void p) w rfl rfl
  case lookupAdmission p w => exact roundTrip_word16 p (.lookupAdmission p) w rfl rfl
  case forceRetireAdmission p w => exact roundTrip_word16 p (.forceRetireAdmission p) w rfl rfl
  case ready p w => exact roundTrip_word16 p (.ready p) w rfl rfl
  case delivered p w => exact roundTrip_word16 p (.delivered p) w rfl rfl
  case cancel p w => exact roundTrip_word16 p (.cancel p) w rfl rfl
  case handover p w => exact roundTrip_word16 p (.handover p) w rfl rfl
  case lookupOrder p w => exact roundTrip_word16 p (.lookupOrder p) w rfl rfl
  case forceRetireOrder p w => exact roundTrip_word16 p (.forceRetireOrder p) w rfl rfl
  case nop | readPort | readAttention | readReport | partReset | readIntegrity | clearIntegrity | clearLane |
      readLane | readField | startNow | holdShow | resumeShow | endShow | readScreen | retune | quarantineChannel |
      readChannels | abortRow | readRow | runnerBack | runnerOn | runnerOff | readRunner | queuePeek | openNight |
      closeNight | forceClose | readTotals | setRestPlan | rest | wake | readDomains | storeRead | storeErase |
      storeStatus =>
    exact roundTrip_of_bytes rfl rfl
  all_goals exact roundTrip_of_none rfl

end Sys2Proof.CommandBytes
end

section
/-!
SUPPORT. Steps and commands as a whole (chapter 11): every step has a next state, every port command is its port's
checks and its block, and the statements about both.
-/

namespace Sys2Proof.PortFrames

open Sys2Proof Sys2Proof.Machine

variable {i : Instr} {p : PortId} {code : Byte} {l : List Byte} {s : State}

/-! ## Every step completes -/

theorem handOn_next (i : Instr) (s : State) : ∃ t, handOn i s = .next t := by
  cases i <;> exact ⟨_, rfl⟩

theorem admitFrame_next (p : PortId) (f : Frame) (s : State) : ∃ t, s.admitFrame p f = .next t := by
  unfold State.admitFrame
  dsimp only
  split
  · exact ⟨_, rfl⟩
  · exact handOn_next _ _

theorem execFrameEnd_next (p : PortId) (s : State) : ∃ t, execFrameEnd p s = .next t := by
  unfold execFrameEnd
  split
  · exact ⟨_, rfl⟩
  · exact ⟨_, rfl⟩
  · dsimp only
    split_ifs
    · exact ⟨_, rfl⟩
    · exact ⟨_, rfl⟩
    · exact admitFrame_next _ _ _

theorem exec_next (i : Instr) (s : State) : ∃ t, exec i s = .next t := by
  cases i
  case frameEnd p => exact execFrameEnd_next p s
  all_goals exact ⟨_, rfl⟩

theorem step_next (s : State) : ∃ t, step s = .next t := by
  unfold step
  split
  · exact exec_next _ _
  · split
    · exact exec_next _ _
    · exact ⟨_, rfl⟩

/-- Settles O1: the front command is what the step takes. -/
theorem stepTakesFrontCommand : Obligations.StepTakesFrontCommand := fun _ _ _ => rfl

/-- Settles O2: by cases over the commands, and over what a step takes. -/
theorem everyStepCompletes : Obligations.EveryStepCompletes := ⟨exec_next, step_next⟩

/-! ## Every port command is its port's checks and its block (R199) -/

/-- A port command other than PART_RESET is handed over by its port, its length right when the command is well
formed. -/
theorem exec_command (h : encodeCommand i = some (p, code, l)) (hr : i ≠ .partReset p) :
    ∃ block, ∀ s, exec i s = .next (s.command p code i.wf block) := by
  cases i
  case partReset p' =>
    cases h
    exact absurd rfl hr
  case loadShow p' screen count segments start =>
    cases h
    refine ⟨loadShow screen count segments start, fun s => ?_⟩
    rw [show (Instr.loadShow p screen count segments start).wf =
      (decide (count.toNat = segments.length) && decide (5 + 4 * segments.length ≤ 44)) from Bool.and_comm _ _]
    rfl
  case place p' screen stall count lines =>
    cases h
    refine ⟨place screen stall count lines, fun s => ?_⟩
    rw [show (Instr.place p screen stall count lines).wf =
      (decide (count.toNat = lines.length) && decide (4 + 2 * lines.length ≤ 44)) from Bool.and_comm _ _]
    rfl
  case dispatch p' runner count handles =>
    cases h
    refine ⟨dispatch runner count handles, fun s => ?_⟩
    rw [show (Instr.dispatch p runner count handles).wf =
      (decide (count.toNat = handles.length) && decide (2 + 2 * handles.length ≤ 44)) from Bool.and_comm _ _]
    rfl
  case storeProgram p' area unit content =>
    cases h
    refine ⟨storeProgram area unit content, fun s => ?_⟩
    have full : (Instr.storeProgram p area unit content).wf = (content.length == 16) := by
      by_cases hl : content.length = 16 <;> simp [Instr.wf, Instr.variableLength, Instr.countGood, hl]
    rw [full]
    rfl
  case take p' handle => cases handle <;> cases h <;> exact ⟨_, fun _ => rfl⟩
  all_goals cases h
  all_goals exact ⟨_, fun _ => rfl⟩

/-- PART_RESET is handed over as any command unless its checks pass and no store operation is in flight (R205). -/
theorem exec_partReset_refused (h : s.sys.phase = .held ∨ s.portCheck p 0x05 true ≠ none) :
    ∃ block, exec (.partReset p) s = .next (s.command p 0x05 true block) :=
  ⟨_, congrArg Host.Outcome.next (if_neg (by tauto))⟩

/-- A command that its port refuses is handed over to some block. -/
theorem exec_refused (h : encodeCommand i = some (p, code, l))
    (hr : s.sys.phase = .held ∨ s.portCheck p code i.wf ≠ none) :
    ∃ block, exec i s = .next (s.command p code i.wf block) := by
  by_cases reset : i = .partReset p
  · subst reset
    cases h
    exact exec_partReset_refused hr
  · obtain ⟨block, hb⟩ := exec_command h reset
    exact ⟨block, hb s⟩

theorem portCheck_checking (ok : Bool) (h : s.sys.phase = .checking) :
    s.portCheck p code ok = some .starting := if_pos h

theorem portCheck_busy (ok : Bool) (h : s.sys.phase = .running) (hw : s.sys.resetWaiting = true) :
    s.portCheck p code ok = some .busy := by
  simp [State.portCheck, h, hw]

theorem portCheck_privilege (ok : Bool) (h : s.sys.phase = .running) (hw : s.sys.resetWaiting = false)
    (ht : takenOn code p = false) : s.portCheck p code ok = some .privilege := by
  simp [State.portCheck, h, hw, ht]

theorem portCheck_length (h : s.takes p code) : s.portCheck p code false = some .length := by
  obtain ⟨h, hw, ht⟩ := h
  simp [State.portCheck, h, hw, ht]

/-- A command that fails a check of its port changes only the port's pending answer. -/
theorem exec_of_portCheck {status : Status} (h : encodeCommand i = some (p, code, l)) (hp : s.sys.phase ≠ .held)
    (hc : s.portCheck p code i.wf = some status) : exec i s = .next (s.answer p code status []) := by
  obtain ⟨block, hb⟩ := exec_refused (s := s) h (.inr (by simp [hc]))
  rw [hb, State.command, if_neg hp, hc]

theorem exec_held (h : encodeCommand i = some (p, code, l)) (hp : s.sys.phase = .held) : exec i s = .next s := by
  obtain ⟨block, hb⟩ := exec_refused h (.inl hp)
  rw [hb, command_held p code i.wf block s hp]

/-- Settles O3: the checks in their order, and the two lists of commands code by code. -/
theorem portChecks : Obligations.PortChecks := by
  refine ⟨fun i p code l s h => ⟨exec_held h, fun hp => ?checking, fun hp => ⟨fun hw => ?busy, fun hw ht => ?privilege,
    fun ht wf => ?length⟩⟩, by decide, by decide⟩
  case checking => exact exec_of_portCheck h (by simp [hp]) (portCheck_checking _ hp)
  case busy => exact exec_of_portCheck h (by simp [hp]) (portCheck_busy _ hp hw)
  case privilege => exact exec_of_portCheck h (by simp [hp]) (portCheck_privilege _ hp hw ht)
  case length => exact exec_of_portCheck h (by simp [hp]) (by rw [wf, portCheck_length ht])

end Sys2Proof.PortFrames
end

section
/-!
SUPPORT. Frames (R197 to R199): the select line, the clock and the data output of a port, and the end of a frame with
the command it carries.
-/

namespace Sys2Proof.Frames

open Sys2Proof Sys2Proof.Machine Sys2Proof.PortFrames

variable {p : PortId} {f : Frame} {r : Port} {s : State}

/-! ## One port changed -/

/-- Two changes of a port that agree on its record are the same change. -/
theorem modPort_congr {g h : Port → Port} (hg : g (s.port p) = h (s.port p)) : s.modPort p g = s.modPort p h := by
  cases p <;> simp_all [State.modPort, State.port]

theorem modPort_self {g : Port → Port} (hg : g (s.port p) = s.port p) : s.modPort p g = s := by
  cases p <;> simp_all [State.modPort, State.port]

@[simp] theorem port_modPort (g : Port → Port) : (s.modPort p g).port p = g (s.port p) := by
  cases p <;> rfl

@[simp] theorem modPort_sys (g : Port → Port) : (s.modPort p g).sys = s.sys := by
  cases p <;> rfl

/-! ## Select and clock (R197, R198) -/

theorem select_idle (h : r.link = .idle) : r.select false = { r with
    link := .inFrame { image := r.answer, bytes := [], bits := [], edges := 0, timer := some 100 } } := by
  simp [Port.select, h, Config.frameTime]

theorem clock_inFrame (din : Bool) (h : r.link = .inFrame f) :
    r.clock din = { r with link := .inFrame (f.clock din) } := by
  simp [Port.clock, h]

theorem clock_abandoned (din : Bool) (h : r.link = .abandoned) : r.clock din = r := by
  simp [Port.clock, h]

theorem timeOut_inFrame (h : r.link = .inFrame f) : r.timeOut = { r with frameFault := true, link := .abandoned } := by
  simp [Port.timeOut, h]

theorem timeOut_abandoned (h : r.link = .abandoned) : r.timeOut = r := by
  simp [Port.timeOut, h]

theorem clock_bit (din : Bool) (h : f.bits.length < 7) :
    f.clock din = { f with bits := f.bits ++ [din], edges := f.edges + 1 } := by
  have part : ¬ (f.bits ++ [din]).length = 8 := by simp; omega
  exact if_neg part

theorem clock_byte (din : Bool) (h : f.bits.length = 7) : f.clock din = { f with
    bits := [], edges := f.edges + 1
    bytes := if f.bytes.length < 48 then f.bytes ++ [byteOf (f.bits ++ [din])] else f.bytes } := by
  have whole : (f.bits ++ [din]).length = 8 := by simp [h]
  exact if_pos whole

theorem execFrameEnd_abandoned (h : (s.port p).link = .abandoned) :
    execFrameEnd p s = .next (s.modPort p fun r => { r with link := .idle }) := by
  simp [execFrameEnd, h]

/-- Settles O5: each change of the select line and the clock by the state of the link. -/
theorem frameTaking : Obligations.FrameTaking := by
  refine ⟨by decide +kernel, fun p s => ⟨fun h hs => ?select, fun f din h hb => ?bit, fun f din h hb => ?byte,
    fun f h => ?timeOut, fun h => ⟨fun din => ?clock, ?expiry, execFrameEnd_abandoned h⟩⟩⟩
  case select =>
    refine congrArg Host.Outcome.next (modPort_congr ?_)
    rw [decide_eq_false hs, select_idle h]
  case bit => exact congrArg Host.Outcome.next (modPort_congr (by rw [clock_inFrame din h, clock_bit din hb]))
  case byte => exact congrArg Host.Outcome.next (modPort_congr (by rw [clock_inFrame din h, clock_byte din hb]))
  case timeOut => exact congrArg Host.Outcome.next (modPort_congr (timeOut_inFrame h))
  case clock => exact congrArg Host.Outcome.next (modPort_self (clock_abandoned din h))
  case expiry => exact congrArg Host.Outcome.next (modPort_self (timeOut_abandoned h))

/-! ## The data output (R197) -/

theorem dout_inFrame (h : r.link = .inFrame f) :
    r.dout = (decide (f.edges / 8 < 48) && (f.outbound[f.edges / 8]?.getD 0).getLsbD (7 - f.edges % 8)) := by
  simp only [Port.dout, h]

theorem outbound_none (h : f.image = none) : f.outbound = [] := by
  simp [Frame.outbound, h]

theorem outbound_some {a : Answer} (h : f.image = some a) :
    f.outbound = [a.code, a.status.value, BitVec.ofNat 8 a.data.length] ++ a.data := by
  simp [Frame.outbound, h, byte1]

/-- Settles O6: the bit at an edge is that of the byte the edge falls in, and there is none after the image. -/
theorem frameSendsPendingAnswer : Obligations.FrameSendsPendingAnswer := by
  intro r f h
  refine ⟨fun hi => ?_, fun a hi fits => ⟨fun k hk hb => ?_, fun hk => ?_⟩⟩
  · simp [dout_inFrame h, outbound_none hi]
  · rw [dout_inFrame h, outbound_some hi, hb, decide_eq_true (by omega)]
    rfl
  · have beyond : ([a.code, a.status.value, BitVec.ofNat 8 a.data.length] ++ a.data)[f.edges / 8]? = none := by
      rw [List.getElem?_eq_none_iff]
      simp only [List.length_append, List.length_cons, List.length_nil]
      omega
    rw [dout_inFrame h, outbound_some hi, beyond]
    simp

/-! ## The end of a frame (R198, R199) -/

theorem handOn_eq_exec {i : Instr} (h : encodeCommand i ≠ none) (s : State) : handOn i s = exec i s := by
  cases i
  all_goals first
    | rfl
    | exact absurd rfl h

/-- The codes of the commands that carry a list, which their bytes spell entry by entry. -/
def listCodes : List Byte := [0x28, 0x40, 0x43, 0x69]

def isCommand (i : Instr) : Bool := (encodeCommand i).isSome

/-- What a parameter list spells under each code of the summary but those of `listCodes` is a port command. -/
def spellsCommands (p : PortId) (l : List Byte) : Bool :=
  commandCodes.all fun code => listCodes.contains code || (decodeCommand p code l).all isCommand

theorem spellsCommands_all (p : PortId) : ∀ l, spellsCommands p l = true
  | [] => rfl
  | [_] => rfl
  | [_, _] => rfl
  | [_, _, _] => rfl
  | [_, _, _, _] => rfl
  | [_, _, _, _, _] => rfl
  | [_, _, _, _, _, _] => rfl
  | [_, _, _, _, _, _, _] => rfl
  | _ :: _ :: _ :: _ :: _ :: _ :: _ :: _ :: _ => rfl

theorem decodeShow_isCommand (screen count : Byte) (l : List Byte) :
    (decodeShow p screen count l).all isCommand = true := by
  unfold decodeShow
  split <;> rfl

/-- Under the codes of `listCodes` as well. -/
theorem decodeCommand_list_isCommand {code : Byte} (hc : code ∈ listCodes) :
    ∀ l, (decodeCommand p code l).all isCommand = true := by
  have mapped {α : Type} (o : Option α) (c : α → Instr) (h : ∀ x, isCommand (c x) = true) :
      (o.map c).all isCommand = true := by
    cases o with
    | none => rfl
    | some x => exact h x
  simp only [listCodes, List.mem_cons, List.not_mem_nil, or_false] at hc
  rcases hc with rfl | rfl | rfl | rfl
  · rintro (_ | ⟨a, _ | ⟨b, rest⟩⟩)
    · rfl
    · rfl
    · exact decodeShow_isCommand a b rest
  · rintro (_ | ⟨a, _ | ⟨b, _ | ⟨c, _ | ⟨d, rest⟩⟩⟩⟩)
    · rfl
    · rfl
    · rfl
    · rfl
    · exact mapped (takeLines d.toNat rest) _ fun _ => rfl
  · rintro (_ | ⟨a, _ | ⟨b, rest⟩⟩)
    · rfl
    · rfl
    · exact mapped (takeHandles b.toNat rest) _ fun _ => rfl
  · rintro (_ | ⟨a, _ | ⟨b, rest⟩⟩)
    · rfl
    · rfl
    · show (if rest.length = 16 then some (Instr.storeProgram p a b rest) else none).all isCommand = true
      split <;> rfl

/-- What the bytes of a frame spell under a code of the summary is a port command. -/
theorem decodeCommand_encodes {code : Byte} {l : List Byte} {i : Instr} (hc : code ∈ commandCodes)
    (h : decodeCommand p code l = some i) : encodeCommand i ≠ none := by
  have spelled : (decodeCommand p code l).all isCommand = true := by
    have all := List.all_eq_true.mp (spellsCommands_all p l) code hc
    rcases Bool.or_eq_true_iff.mp all with listed | fixed
    · exact decodeCommand_list_isCommand (List.contains_iff_mem.mp listed) l
    · exact fixed
  rw [h] at spelled
  exact Option.isSome_iff_ne_none.mp spelled

/-- The port at the rise of select, before the checks of its frame: SHORT_READ as the frame leaves it (R199). -/
def afterFrame (p : PortId) (f : Frame) (s : State) : State :=
  (s.modPort p fun r => { r with link := .idle }).modPort p fun r => { r with shortRead := r.shortRead || f.short }

theorem afterFrame_sys : (afterFrame p f s).sys = s.sys := by
  simp [afterFrame]

theorem short_eq (f : Frame) : f.short = match f.image with
    | some a => decide (f.edges / 8 < 3 + a.data.length)
    | none => false := by
  unfold Frame.short Frame.complete
  cases f.image <;> rfl

section

variable (hf : (s.port p).link = .inFrame f)

include hf

theorem execFrameEnd_broken (h : f.edges % 8 ≠ 0 ∨ f.edges / 8 = 1) : execFrameEnd p s =
    .next ((s.modPort p fun r => { r with link := .idle }).modPort p fun r => { r with frameFault := true }) := by
  simp only [execFrameEnd, hf]
  exact if_pos h

theorem execFrameEnd_none (h : f.edges = 0) :
    execFrameEnd p s = .next (s.modPort p fun r => { r with link := .idle }) := by
  simp [execFrameEnd, hf, Frame.complete, h]

section

variable (h0 : f.edges % 8 = 0) (h2 : 2 ≤ f.edges / 8)

include h0 h2

theorem execFrameEnd_whole : execFrameEnd p s = match (afterFrame p f s).frameCheck p f with
    | .error status => .next ((afterFrame p f s).answer p f.code status [])
    | .ok i => handOn i (afterFrame p f s) := by
  have unbroken : ¬ (f.edges % 8 ≠ 0 ∨ f.complete = 1) := by unfold Frame.complete; omega
  have some : ¬ f.complete = 0 := by unfold Frame.complete; omega
  simp only [execFrameEnd, hf, if_neg unbroken, if_neg some, State.admitFrame, afterFrame] <;> rfl

theorem execFrameEnd_refused {status : Status} (h : (afterFrame p f s).frameCheck p f = .error status) :
    execFrameEnd p s = .next ((afterFrame p f s).answer p f.code status []) := by
  rw [execFrameEnd_whole hf h0 h2, h]

theorem execFrameEnd_command {i : Instr} (h : (afterFrame p f s).frameCheck p f = .ok i)
    (hi : encodeCommand i ≠ none) : execFrameEnd p s = exec i (afterFrame p f s) := by
  rw [execFrameEnd_whole hf h0 h2, h]
  exact handOn_eq_exec hi _

end

end

theorem frameCheck_checking (h : s.sys.phase = .checking) : s.frameCheck p f = .error .starting := by
  simp [State.frameCheck, h]

theorem frameCheck_busy (h : s.sys.phase = .running) (hw : s.sys.resetWaiting = true) :
    s.frameCheck p f = .error .busy := by
  simp [State.frameCheck, h, hw]

section

variable (h : s.sys.phase = .running) (hw : s.sys.resetWaiting = false)

include h hw

theorem frameCheck_unknown (hc : f.code ∉ commandCodes) : s.frameCheck p f = .error .unknown := by
  simp [State.frameCheck, h, hw, hc]

theorem frameCheck_privilege (hc : f.code ∈ commandCodes) (ht : takenOn f.code p = false) :
    s.frameCheck p f = .error .privilege := by
  simp [State.frameCheck, h, hw, hc, ht]

theorem frameCheck_taken (hc : f.code ∈ commandCodes) (ht : takenOn f.code p = true) :
    s.frameCheck p f = match f.command p with
      | some i => .ok i
      | none => .error .length := by
  simp only [State.frameCheck, h, hw, List.contains_iff_mem.mpr hc, ht] <;> rfl

end

theorem command_whole (h : f.paramLength ≤ 44 ∧ 2 + f.paramLength ≤ f.edges / 8) :
    f.command p = decodeCommand p f.code ((f.bytes.drop 2).take f.paramLength) := if_pos h

theorem command_none (h : ¬ (f.paramLength ≤ 44 ∧ 2 + f.paramLength ≤ f.edges / 8) ∨
    decodeCommand p f.code ((f.bytes.drop 2).take f.paramLength) = none) : f.command p = none := by
  by_cases whole : f.paramLength ≤ 44 ∧ 2 + f.paramLength ≤ f.edges / 8
  · rw [command_whole whole]
    exact h.resolve_left (not_not.mpr whole)
  · exact if_neg whole

/-- Settles O7: the end of a frame by its length, the checks of a frame in their order, and the command it carries. -/
theorem frameEnds : Obligations.FrameEnds := by
  intro p f s hf s' u params whole
  have hu : u = afterFrame p f s := by
    unfold u afterFrame
    simp only [short_eq] <;> rfl
  have sys : u.sys = s.sys := by rw [hu, afterFrame_sys]
  refine ⟨execFrameEnd_broken hf, execFrameEnd_none hf, fun h0 h2 => ?_⟩
  have refused {status : Status} (h : u.frameCheck p f = .error status) :
      exec (.frameEnd p) s = .next (u.answer p f.code status []) := by
    rw [hu] at h ⊢
    exact execFrameEnd_refused hf h0 h2 h
  refine ⟨fun hp => refused (frameCheck_checking (by rw [sys, hp])),
    fun hp hw => refused (frameCheck_busy (by rw [sys, hp]) (by rw [sys, hw])), fun hp hw => ?_⟩
  rw [← sys] at hp hw
  refine ⟨fun hc => refused (frameCheck_unknown hp hw hc), fun hc ht => refused (frameCheck_privilege hp hw hc ht),
    fun hc ht => ⟨fun i hwhole hd => ?_, fun hn => refused ?_⟩⟩
  · obtain ⟨t, taken⟩ := exec_next i u
    refine ⟨t, ?_, taken⟩
    have check : u.frameCheck p f = .ok i := by
      rw [frameCheck_taken hp hw hc ht, command_whole hwhole, hd]
    rw [hu] at check taken
    exact (execFrameEnd_command hf h0 h2 check (decodeCommand_encodes hc hd)).trans taken
  · rw [frameCheck_taken hp hw hc ht, command_none hn]

end Sys2Proof.Frames
end

section
/-!
SUPPORT. Reads of units of the store in order (R184, R194): what the monitor counts and traps, what the booth port is
told, and the start-up check that begins with the scan (R207).
-/

namespace Sys2Proof.StartUp

open Sys2Proof Sys2Proof.Machine Sys2Proof.Orders Sys2Proof.StandingStore

/-! ## Tables -/

/-- A count over a table goes by its places. -/
theorem countP_toList {α : Type} {n : Nat} (v : Vector α n) (q : α → Bool) :
    v.toList.countP q = (List.finRange n).countP fun i => q v[i] := by
  have places : v.toList = (List.finRange n).map fun i => v[i] := by
    apply List.ext_getElem <;> simp
  rw [places, List.countP_map]
  rfl

theorem unitIndex_areaOf_unitOf (i : Fin 384) : unitIndex (areaOf i) (unitOf i) = i :=
  Fin.ext (Nat.div_add_mod i.val 64)

/-! ## Reads in order (R184) -/

/-- The unit at a place. -/
def unitAt (s : State) (i : Fin 384) : StoreUnit := s.store.units[i]

/-- The event of a unit that is not clean (R184). -/
def eventKind : Health → EventKind
  | .clean | .single => .single
  | .double => .double

theorem unit_at (s : State) (i : Fin 384) : s.store.unit (areaOf i) (unitOf i) = unitAt s i :=
  congrArg (fun j : Fin 384 => s.store.units[j]) (unitIndex_areaOf_unitOf i)

theorem readUnits_cons (i : Fin 384) (l : List (Fin 384)) (s : State) :
    s.readUnits (i :: l) = (s.readUnit (areaOf i) (unitOf i)).2.readUnits l := rfl

theorem readUnits_store (l : List (Fin 384)) (s : State) : (s.readUnits l).store = s.store :=
  readFrame_store (readUnits_readFrame l s)

theorem unitAt_readUnit (i j : Fin 384) (s : State) : unitAt (s.readUnit (areaOf j) (unitOf j)).2 i = unitAt s i := by
  rw [unitAt, readUnit_store]
  rfl

theorem readUnit_mon (i : Fin 384) (s : State) : (s.readUnit (areaOf i) (unitOf i)).2.mon =
    if (unitAt s i).health = .clean then s.mon
    else s.mon.take (.store (areaOf i) (unitOf i)) (eventKind (unitAt s i).health) := by
  rw [readUnit_snd, unit_at]
  cases (unitAt s i).health <;> rfl

theorem readUnit_booth (i : Fin 384) (s : State) : (s.readUnit (areaOf i) (unitOf i)).2.booth =
    if (unitAt s i).health = .double then s.booth.raise (kindSet 14) else s.booth := by
  rw [readUnit_snd, unit_at]
  cases (unitAt s i).health <;> rfl

theorem take_count {m : Monitor} (h : m.count ≤ 65535) (x : EventPlace) (k : EventKind) :
    (m.take x k).count = min (m.count + 1) 65535 := by
  show (if m.count < 65535 then m.count + 1 else m.count) = min (m.count + 1) 65535
  by_cases below : m.count < 65535
  · rw [if_pos below]
    omega
  · rw [if_neg below]
    omega

theorem readUnits_count (l : List (Fin 384)) (s : State) (h : s.mon.count ≤ 65535) :
    (s.readUnits l).mon.count =
      min (s.mon.count + l.countP fun i => decide ((unitAt s i).health ≠ .clean)) 65535 := by
  induction l generalizing s with
  | nil => exact (Nat.min_eq_left h).symm
  | cons i rest ih =>
    have event := readUnit_mon i s
    rw [readUnits_cons, List.countP_cons]
    by_cases clean : (unitAt s i).health = .clean
    · rw [if_pos clean] at event
      rw [ih _ (by rwa [event]), event]
      simp only [unitAt_readUnit, clean]
      rfl
    · rw [if_neg clean] at event
      have count := (congrArg Monitor.count event).trans (take_count h _ _)
      rw [ih _ (by rw [count]; exact Nat.min_le_right _ _), count]
      simp only [unitAt_readUnit, decide_eq_true clean, if_true]
      omega

/-- The first unit that is not clean fills an empty trap. -/
theorem readUnits_trap (l : List (Fin 384)) (s : State) : (s.readUnits l).mon.trap =
    (s.mon.trap <|> (l.find? fun i => decide ((unitAt s i).health ≠ .clean)).map fun i =>
      (.store (areaOf i) (unitOf i), eventKind (unitAt s i).health)) := by
  induction l generalizing s with
  | nil => cases h : s.mon.trap <;> simp [State.readUnits, State.each, h]
  | cons i rest ih =>
    have event := readUnit_mon i s
    rw [readUnits_cons, ih, event, List.find?_cons]
    simp only [unitAt_readUnit]
    by_cases clean : (unitAt s i).health = .clean
    · simp [clean]
    · cases trap : s.mon.trap <;> simp [clean, Monitor.take, trap]

theorem raise_raise (k : Word24) (r : Port) : (r.raise k).raise k = r.raise k := by
  simp [Port.raise, Port.withLine, BitVec.or_assoc]

/-- STORE_FAULT is raised when one unit or more has a double error. -/
theorem readUnits_booth (l : List (Fin 384)) (s : State) : (s.readUnits l).booth =
    if l.any fun i => decide ((unitAt s i).health = .double) then s.booth.raise (kindSet 14) else s.booth := by
  induction l generalizing s with
  | nil => rfl
  | cons i rest ih =>
    rw [readUnits_cons, ih, readUnit_booth, List.any_cons]
    simp only [unitAt_readUnit]
    by_cases double : (unitAt s i).health = .double
    · simp [double, raise_raise]
    · simp [double]

/-! ## The start-up check begins (R194, R207) -/

/-- The state that the start-up check scans the store of: its time running, every slot written with its pattern. -/
def beforeScan (s : State) : State :=
  (s.modSys fun y =>
    { y with phase := .checking, checkTimer := some Config.startUpTime, failing := s.mem.failing }).modMem
      RecordMemory.check

theorem startCheck_scan (s : State) : s.startCheck =
    ((beforeScan s).readUnits (List.finRange 384)).modSys fun y => { y with scan := s.store.scanResult } := rfl

theorem startCheck_sys (s : State) : s.startCheck.sys = { s.sys with
    phase := .checking, checkTimer := some 250, failing := s.mem.failing, scan := s.store.scanResult } := by
  rw [startCheck_scan, modSys_sys, readFrame_sys (readUnits_readFrame _ _)]
  rfl

/-- The start-up check begins in the system record, the record slots, the monitor and the booth port only. -/
theorem startCheck_eq (s : State) : s.startCheck = { s with
    sys := s.startCheck.sys, mem := s.mem.check, mon := s.startCheck.mon, booth := s.startCheck.booth } := by
  rw [startCheck_scan]
  generalize List.finRange 384 = all
  rw [State.readUnits_frame]
  rfl

theorem startCheck_mon (s : State) : s.startCheck.mon = ((beforeScan s).readUnits (List.finRange 384)).mon := by
  rw [startCheck_scan, modSys_mon]

theorem startCheck_mem (s : State) : s.startCheck.mem = s.mem.check := by rw [startCheck_eq]

theorem startCheck_booth (s : State) : s.startCheck.booth =
    if s.store.scanResult.firstBad = none then s.booth else s.booth.raise (kindSet 14) := by
  have scanned := readUnits_booth (List.finRange 384) (beforeScan s)
  have found : (s.store.scanResult.firstBad = none) ↔
      ¬ ((List.finRange 384).any fun i => decide ((unitAt (beforeScan s) i).health = .double)) = true := by
    rw [Store.scanResult, Option.map_eq_none_iff, List.find?_eq_none, List.any_eq_true]
    push Not
    rfl
  rw [startCheck_scan, modSys_booth, scanned]
  by_cases none : s.store.scanResult.firstBad = none
  · rw [if_pos none, if_neg (found.mp none)]
    rfl
  · rw [if_neg none, if_pos (not_not.mp (mt found.mpr none))]
    rfl

end Sys2Proof.StartUp
end

section
/-!
SUPPORT. Resets and the start-up check (R194, R205 to R207): what each leaves, record by record, and the statements
about them.
-/

namespace Sys2Proof.StartUp

open Sys2Proof Sys2Proof.Machine Sys2Proof.Orders Sys2Proof.StandingStore

variable {s : State}

/-! ## The check of a slot (R207) -/

/-- What the one or two writes of the check leave in a slot. -/
theorem slot_check_eq {α : Type} (x : α) (slot : Slot α) : slot.check x = { slot with
    content := x
    health := if slot.flaws.headD .clean = .clean then .clean else slot.flaws.tail.headD .clean
    flaws := if slot.flaws.headD .clean = .clean then slot.flaws.tail else slot.flaws.tail.tail } := by
  by_cases clean : slot.flaws.headD .clean = .clean
  · rw [Slot.check_of_clean x slot clean, if_pos clean, if_pos clean, Slot.write, clean]
  · rw [Slot.check_of_failing x slot clean, if_neg clean, if_neg clean]
    rfl

/-! ## What the scan finds (R194) -/

/-- The first place of a table that `q` holds of. -/
theorem find?_finRange {n : Nat} {q : Fin n → Bool} {i : Fin n} :
    (List.finRange n).find? q = some i ↔ q i = true ∧ ∀ j < i, q j = false := by
  rw [List.find?_eq_some_iff_getElem]
  constructor
  · rintro ⟨hi, k, hk, rfl, before⟩
    refine ⟨hi, fun j hj => ?_⟩
    have place := before j.val (by simpa [Fin.lt_def] using hj)
    simpa using place
  · rintro ⟨hi, before⟩
    refine ⟨hi, i.val, by simp, by simp, fun j hj => ?_⟩
    have place := before ⟨j, by omega⟩ (Fin.lt_def.mpr hj)
    simpa using place

theorem uncorrectable_iff (u : StoreUnit) : u.status = .uncorrectable ↔ u.health = .double := by
  unfold StoreUnit.status
  cases u.health with
  | double => simp
  | clean | single => by_cases erased : u.bytes = erasedBytes <;> simp [erased]

variable (r : Store)

theorem scan_corrected : r.scanResult.corrected = r.units.toList.countP fun u => decide (u.health = .single) :=
  (countP_toList r.units fun u => decide (u.health = .single)).symm

theorem scan_firstBad_none : r.scanResult.firstBad = none ↔ ∀ i : Fin 384, r.units[i].health ≠ .double := by
  rw [Store.scanResult, Option.map_eq_none_iff, List.find?_eq_none]
  exact ⟨fun h i => by simpa using h i (List.mem_finRange i), fun h i _ => by simpa using h i⟩

theorem scan_firstBad_some {area : Fin 6} {unit : Fin 64} (h : r.scanResult.firstBad = some (area, unit)) :
    r.units[unitIndex area unit].health = .double ∧
      ∀ j : Fin 384, j < unitIndex area unit → r.units[j].health ≠ .double := by
  rw [Store.scanResult, Option.map_eq_some_iff] at h
  obtain ⟨i, found, place⟩ := h
  obtain ⟨rfl, rfl⟩ := Prod.mk.inj place
  obtain ⟨double, first⟩ := find?_finRange.mp found
  have at_place : ∀ k, k = i → r.units[k].health = .double ∧ ∀ j : Fin 384, j < k → r.units[j].health ≠ .double := by
    rintro k rfl
    exact ⟨of_decide_eq_true double, fun j hj => of_decide_eq_false (first j hj)⟩
  exact at_place _ (unitIndex_areaOf_unitOf i)

theorem scan_identity : r.scanResult.identity =
    if (r.unit 0 0).health = .double then none else some ((r.unit 0 0).bytes.toList.take 11) :=
  if_congr (uncorrectable_iff _) rfl rfl

/-! ## The events of the scan at the monitor (R18) -/

theorem startCheck_count (h : s.mon.count ≤ 65535) : s.startCheck.mon.count =
    min (s.mon.count + s.store.units.toList.countP fun u => decide (u.health ≠ .clean)) 65535 := by
  rw [startCheck_mon, readUnits_count _ (beforeScan s) h, countP_toList]
  rfl

theorem startCheck_trap : s.startCheck.mon.trap =
    (s.mon.trap <|> ((List.finRange 384).find? fun i => decide (s.store.units[i].health ≠ .clean)).map fun i =>
      (.store (areaOf i) (unitOf i), eventKind s.store.units[i].health)) := by
  rw [startCheck_mon, readUnits_trap]
  rfl

theorem startCheck_trap_kept
    (h : s.mon.trap ≠ none ∨ ∀ i : Fin 384, s.store.units[i].health = .clean) :
    s.startCheck.mon.trap = s.mon.trap := by
  rw [startCheck_trap]
  rcases h with filled | clean
  · obtain ⟨x, hx⟩ := Option.ne_none_iff_exists'.mp filled
    rw [hx]
    rfl
  · rw [List.find?_eq_none.mpr fun i _ => by simpa using clean i]
    cases s.mon.trap <;> rfl

theorem eventKind_of_ne_clean {h : Health} (bad : h ≠ .clean) :
    eventKind h = if h = .single then .single else .double := by
  cases h with
  | clean => exact absurd rfl bad
  | single | double => rfl

theorem startCheck_trap_filled {i : Fin 384} (empty : s.mon.trap = none) (bad : s.store.units[i].health ≠ .clean)
    (first : ∀ j : Fin 384, j < i → s.store.units[j].health = .clean) :
    s.startCheck.mon.trap = some (.store (areaOf i) (unitOf i),
      if s.store.units[i].health = .single then .single else .double) := by
  have found : (List.finRange 384).find? (fun i => decide (s.store.units[i].health ≠ .clean)) = some i :=
    find?_finRange.mpr ⟨decide_eq_true bad, fun j hj => decide_eq_false (not_not.mpr (first j hj))⟩
  rw [startCheck_trap, empty, found, ← eventKind_of_ne_clean bad]
  rfl

/-! ## The end of the check (R207) -/

theorem first_eq (wakeTime : Nat) (x : Domain) : Domain.first wakeTime x = { x with
    state := if x.ready.raw then .active else .waking, stopReq := false
    ready := { raw := x.ready.raw, level := x.ready.raw, timer := none }
    stopAck := { raw := x.stopAck.raw, level := x.stopAck.raw, timer := none }
    timer := if x.ready.raw then none else some (wakeTime * 1000) } := by
  unfold Domain.first
  cases h : x.ready.raw <;> simp [Input.qualify, h, Domain.enter, DomainState.stopReq, seconds, Config.second]

/-- Settles O12: the check of the slots one by one, the scan of the store, and the records at the end of the check. -/
theorem startUpCheck : Obligations.StartUpCheck := by
  refine ⟨fun s => ⟨fun held => ⟨s.startCheck, ?_, ?_, ⟨fun a => ?_, fun o => ?_, fun i => ?_⟩, ?_, ?_, ?_,
    fun area unit h => ?_, ?_, startCheck_count, startCheck_trap_kept, fun i => startCheck_trap_filled, ?_, ?_⟩,
    fun other => ?_⟩, fun s checking => ⟨s.endCheck, ?_, rfl, rfl, ⟨fun n => ?_, fun n => ?_⟩, fun n => ?_,
      fun d => ?_, rfl⟩⟩
  · exact congrArg Host.Outcome.next (if_pos held)
  · rw [startCheck_sys]
    rfl
  · rw [startCheck_mem, RecordMemory.check_admissions, slot_check_eq]
  · rw [startCheck_mem, RecordMemory.check_orders, slot_check_eq]
  · rw [startCheck_mem, RecordMemory.check_stalls, slot_check_eq]
  · rw [startCheck_mem]
    rfl
  · rw [startCheck_sys]
    exact scan_corrected s.store
  · rw [startCheck_sys]
    exact scan_firstBad_none s.store
  · rw [startCheck_sys] at h
    exact scan_firstBad_some s.store h
  · rw [startCheck_sys]
    exact scan_identity s.store
  · rw [startCheck_booth, startCheck_sys]
  · exact (startCheck_eq s).trans (by rw [startCheck_mem])
  · exact congrArg Host.Outcome.next (if_neg other)
  · exact congrArg Host.Outcome.next (if_pos checking)
  · exact Vector.getElem_map _ _
  · exact Vector.getElem_map _ _
  · exact Vector.getElem_map _ _
  · exact (Vector.getElem_map _ _).trans (first_eq _ _)

/-! ## PART_RESET (R205) -/

theorem partReset_store : s.partReset.store = { s.store with op := none, last := none, locked := false } := by
  rw [State.partReset, startCheck_eq]
  rfl

theorem partReset_sys : s.partReset.sys.phase = .checking ∧ s.partReset.sys.resetWaiting = false ∧
    s.partReset.sys.checkTimer = some 250 := by
  rw [State.partReset, startCheck_sys]
  exact ⟨rfl, rfl, rfl⟩

theorem partReset_booth_answer : s.partReset.booth.answer = none := by
  rw [State.partReset, startCheck_booth]
  split <;> rfl

/-- Outside the store, the system record and the booth port a PART_RESET leaves the after-reset values. -/
theorem partReset_eq : s.partReset = { s.afterReset with
    sys := s.partReset.sys, mem := s.afterReset.mem.check, mon := s.partReset.mon, booth := s.partReset.booth } :=
  startCheck_eq s.afterReset

theorem partReset_night : s.partReset.night = Night.reset := by rw [partReset_eq]; rfl

theorem portCheck_passes {p : PortId} {code : Byte} (h : s.takes p code) : s.portCheck p code true = none := by
  obtain ⟨running, ready, taken⟩ := h
  simp [State.portCheck, running, ready, taken]

/-- Settles O10: made at once when nothing is in flight, and otherwise a command that leaves the reset waiting. -/
theorem partResetMadeOrWaiting : Obligations.PartResetMadeOrWaiting := by
  intro s ht
  refine ⟨fun idle => ⟨s.partReset, ?_, ?_⟩, fun flying => ?_⟩
  · exact congrArg Host.Outcome.next (if_pos ⟨by simp [ht.1], portCheck_passes ht, by simp [Store.busy, idle]⟩)
  · obtain ⟨phase, waiting, timer⟩ := partReset_sys (s := s)
    refine ⟨phase, waiting, timer, partReset_booth_answer, ?_, partReset_night, ?_, ?_, ?_, partReset_store, ?_⟩
    all_goals
      rw [partReset_eq]
      rfl
  · have busy : s.store.busy ≠ false := by simpa [busy_eq] using flying
    refine congrArg Host.Outcome.next ((if_neg fun h => busy h.2.2).trans ?_)
    exact command_taken .booth 0x05 _ s ht

/-! ## POWER_ON_RESET (R194, R206) -/

theorem interrupt_idle {k : Nat} (h : r.op = none) : r.interrupt k = r := by
  simp only [Store.interrupt, h]

theorem powerOnReset_eq (s : State) : s.powerOnReset = { s.afterReset with
    sys := System.reset (if s.store.busy then s.sys.interrupted + 1 else s.sys.interrupted)
    store := Store.reset (s.store.interrupt s.sys.interrupted).units } := by
  unfold State.powerOnReset
  dsimp only
  split
  next => rfl
  next idle =>
    rw [interrupt_idle s.store (by simpa [Store.busy] using idle)]
    rfl

/-- A spoiled unit has two wrong bits. -/
theorem uncorrectable_of_wrong_three {u : StoreUnit} (h : u.wrong = 3) : u.status = .uncorrectable :=
  status_of_double (u.health_of_two 0 1 (by decide) (by decide) (by rw [h]; decide) (by rw [h]; decide))

theorem interrupt_program {k : Nat} {area : Fin 6} {unit : Fin 64} {content : Vector Byte 16} {timer : Timer}
    (h : r.op = some (.program area unit content timer)) (i : Fin 384) :
    if i = unitIndex area unit then (r.interrupt k).units[i].status = .uncorrectable
    else (r.interrupt k).units[i] = r.units[i] := by
  simp only [Store.interrupt, h, upd_get]
  split
  next here =>
    rw [if_pos here.symm]
    exact uncorrectable_of_wrong_three rfl
  next other => rw [if_neg (Ne.symm other)]

theorem interrupt_erase {k : Nat} {area : Fin 6} {timer : Timer} (h : r.op = some (.erase area timer)) (i : Fin 384) :
    if i.val / 64 = area.val then (r.interrupt k).units[i].status = .uncorrectable
    else (r.interrupt k).units[i] = r.units[i] := by
  have place : (areaOf i = area) ↔ i.val / 64 = area.val := Fin.ext_iff
  simp only [Store.interrupt, h, Fin.getElem_fin, Vector.getElem_ofFn, Fin.eta]
  split
  next here =>
    rw [if_pos (place.mpr here)]
    exact uncorrectable_of_wrong_three rfl
  next other => rw [if_neg (mt place.mp other)]

theorem abandon_ne_inFrame (l : Link) (f : Frame) : l.abandon ≠ .inFrame f := by
  cases l <;> simp [Link.abandon]

theorem dout_of_no_frame {x : Port} (h : ∀ f, x.link ≠ .inFrame f) : x.dout = false := by
  cases hx : x.link with
  | inFrame f => exact absurd hx (h f)
  | idle | abandoned => simp [Port.dout, hx]

theorem afterReset_admFree (s : State) : s.afterReset.mem.admFree = List.finRange 1024 := by
  simp only [State.afterReset, RecordMemory.reset]

theorem afterReset_orderFree (s : State) : s.afterReset.mem.orderFree = List.finRange 256 := by
  simp only [State.afterReset, RecordMemory.reset]

theorem afterReset_admLive (s : State) (a : Fin 1024) : s.afterReset.admLive a = false := by
  simp [State.admLive, afterReset_admFree]

theorem afterReset_orderLive (s : State) (o : Fin 256) : s.afterReset.orderLive o = false := by
  simp [State.orderLive, afterReset_orderFree]

/-- The slots of a table after a reset: free, with the flaws they had. -/
theorem freshSlot_eq {α : Type} {n : Nat} (x : α) (v : Vector (Slot α) n) (i : Fin n) :
    ((v.map Slot.flaws).map (Slot.fresh x))[i] =
      { content := x, health := .clean, flaws := v[i].flaws, marked := false } := by
  simp [Slot.fresh]

/-- Settles O11: every record but the system record and the store as `State.afterReset` gives it, and the store by what
was in flight. -/
theorem powerOnResetHoldsThePart : Obligations.PowerOnResetHoldsThePart := by
  intro s
  refine ⟨s.powerOnReset, rfl, ?_⟩
  rw [powerOnReset_eq]
  refine ⟨rfl, rfl, rfl, fun p => ?ports, fun p => ?dout, rfl, rfl, rfl, rfl, fun a => ?adms, fun o => ?orders,
    fun i => ?stalls, afterReset_admFree s, afterReset_orderFree s, rfl, rfl, rfl, rfl, rfl, rfl, rfl, rfl, rfl, rfl, rfl, rfl, rfl, fun n => ?lanes,
    fun n => ?live, rfl, rfl, rfl, rfl, fun n => ?screens, rfl, rfl, fun n => ?sounds, fun c => ?channels,
    rfl, rfl, rfl, rfl, fun r => ?rows, rfl, rfl, rfl, rfl, rfl, rfl, rfl, rfl, fun d => ?domains, rfl, rfl, rfl, rfl,
    rfl, fun idle => ?idle, fun area unit content timer flying => ?program, fun area timer flying => ?erase⟩
  case ports => cases p <;> exact ⟨rfl, rfl, rfl, rfl, rfl, rfl, abandon_ne_inFrame _⟩
  case dout => cases p <;> exact dout_of_no_frame (abandon_ne_inFrame _)
  case adms => exact ⟨afterReset_admLive s a, Vector.getElem_replicate _, freshSlot_eq _ s.mem.admissions a⟩
  case orders => exact ⟨afterReset_orderLive s o, Vector.getElem_replicate _, freshSlot_eq _ s.mem.orders o⟩
  case stalls => exact freshSlot_eq _ s.mem.stalls i
  case lanes => exact Vector.getElem_map _ _
  case live => exact ⟨Vector.getElem_replicate _, Vector.getElem_replicate _⟩
  case screens => exact Vector.getElem_map _ _
  case sounds => exact Vector.getElem_map _ _
  case channels => exact Vector.getElem_replicate _
  case rows => exact Vector.getElem_map _ _
  case domains => exact Vector.getElem_map _ _
  case idle => exact (congrArg Store.units (interrupt_idle s.store idle) :)
  case program => exact interrupt_program s.store flying
  case erase => exact interrupt_erase s.store flying

end Sys2Proof.StartUp
end

section
/-!
SUPPORT. The completions of programs and erases (R190, R191), the waiting PART_RESET they make (R205), the commands of
the ports themselves (R19, R200, R208), and the state after reset.
-/

namespace Sys2Proof.StartUp

open Sys2Proof Sys2Proof.Machine Sys2Proof.Orders Sys2Proof.StandingStore Sys2Proof.NightUnit

variable {s t : State} {area : Fin 6} {unit : Fin 64} {content : Vector Byte 16} {timer : Timer}

/-! ## Attention that stands -/

theorem raise_keeps {r : Port} {k m : Word24} (h : r.attention &&& m ≠ 0) : (r.raise k).attention &&& m ≠ 0 := by
  intro none
  refine h (BitVec.eq_of_getLsbD_eq fun i hi => ?_)
  have bit := congrArg (·.getLsbD i) none
  simp only [Port.raise, Port.withLine, BitVec.getLsbD_and, BitVec.getLsbD_or] at bit ⊢
  revert bit
  cases r.attention.getLsbD i <;> simp

/-! ## Completions (R190, R191) -/

/-- The read that follows a write raises STORE_FAULT or nothing, and STORE_DONE follows. -/
def reported (s : State) (f : Store → Store) : State := (s.modStore f).raiseBooth .storeDone

theorem reported_done (s : State) (f : Store → Store) : (reported s f).booth.attention &&& kindSet 13 ≠ 0 :=
  attention_raise_kindSet_ne_zero (by decide) _

theorem reported_store (s : State) (f : Store → Store) : (reported s f).store = f s.store := rfl

/-- A read after a write of the store, and the report of a completion, change the store, the monitor and the booth port
only. -/
theorem storeFrame_of_read {u : State} {g : Store → Store}
    (h : u = { s.modStore g with mon := u.mon, booth := u.booth }) :
    u = { s with store := u.store, booth := u.booth, mon := u.mon } := by
  rw [h]
  rfl

theorem storeFrame_reported {u : State} (h : u = { s with store := u.store, booth := u.booth, mon := u.mon })
    (f : Store → Store) : reported u f =
      { s with store := (reported u f).store, booth := (reported u f).booth, mon := (reported u f).mon } := by
  rw [h]
  rfl

/-- The store with a unit written (R190). -/
def programmed (s : State) (area : Fin 6) (unit : Fin 64) (content : Vector Byte 16) : State :=
  s.modStore fun r => { r with units := upd r.units (unitIndex area unit) (StoreUnit.write content) }

theorem programmed_unit : (programmed s area unit content).store.unit area unit =
    (s.store.unit area unit).write content :=
  (upd_get _ _ _ _).trans (if_pos rfl)

theorem completeProgram_eq : s.completeProgram area unit content =
    reported ((programmed s area unit content).readUnit area unit).2 fun r =>
      { r with op := none, last := some (.program area unit ((s.store.unit area unit).write content).status) } := by
  rw [← programmed_unit]
  rfl

theorem completeProgram_store : (s.completeProgram area unit content).store = { s.store with
    units := upd s.store.units (unitIndex area unit) fun _ => (s.store.unit area unit).write content, op := none
    last := some (.program area unit ((s.store.unit area unit).write content).status) } := by
  rw [completeProgram_eq, reported_store, readUnit_store]
  rfl

theorem completeProgram_frame : s.completeProgram area unit content = { s with
    store := (s.completeProgram area unit content).store, booth := (s.completeProgram area unit content).booth
    mon := (s.completeProgram area unit content).mon } := by
  rw [completeProgram_eq]
  exact storeFrame_reported (storeFrame_of_read (State.readUnit_frame _ _ _)) _

theorem completeProgram_fault (h : ((s.store.unit area unit).write content).health = .double) :
    (s.completeProgram area unit content).booth.attention &&& kindSet 14 ≠ 0 := by
  rw [completeProgram_eq]
  refine raise_keeps ?_
  rw [readUnit_snd, programmed_unit, h]
  exact attention_raise_kindSet_ne_zero (by decide) _

theorem completeProgram_mon (h : ((s.store.unit area unit).write content).health = .clean) :
    (s.completeProgram area unit content).mon = s.mon := by
  rw [completeProgram_eq, readUnit_snd, programmed_unit, h]
  rfl

/-- The store with an area erased, read back (R191). -/
def erasedArea (s : State) (area : Fin 6) : State := (s.modStore (Store.eraseArea area)).readUnits (areaUnits area)

theorem erasedArea_store : (erasedArea s area).store = s.store.eraseArea area := readUnits_store _ _

theorem completeErase_eq : s.completeErase area = reported (erasedArea s area) fun r =>
    { r with
      op := none, last := some (.erase area ((s.store.eraseArea area).notErased area).length
        ((s.store.eraseArea area).notErased area).head?) } := by
  rw [← erasedArea_store]
  unfold State.completeErase reported erasedArea
  generalize areaUnits area = units
  rfl

theorem completeErase_store : (s.completeErase area).store = { s.store.eraseArea area with
    op := none, last := some (.erase area ((s.store.eraseArea area).notErased area).length
      ((s.store.eraseArea area).notErased area).head?) } := by
  rw [completeErase_eq, reported_store, erasedArea_store]

theorem completeErase_frame : s.completeErase area = { s with
    store := (s.completeErase area).store, booth := (s.completeErase area).booth
    mon := (s.completeErase area).mon } := by
  rw [completeErase_eq]
  exact storeFrame_reported (storeFrame_of_read (State.readUnits_frame _ _)) _

theorem completeErase_unit (i : Fin 384) : (s.completeErase area).store.units[i] =
    if i.val / 64 = area.val then s.store.units[i].write erasedBytes else s.store.units[i] := by
  have place : (areaOf i = area) ↔ i.val / 64 = area.val := Fin.ext_iff
  rw [completeErase_store]
  simp only [Store.eraseArea, Fin.getElem_fin, Vector.getElem_ofFn, Fin.eta, place]

theorem eraseArea_locked (r : Store) : (r.eraseArea area).locked = r.locked := by
  simp only [Store.eraseArea]

theorem completeErase_locked : (s.completeErase area).store.locked = s.store.locked := by
  rw [completeErase_store]
  dsimp only
  rw [eraseArea_locked]

theorem partReset_units : s.partReset.store.units = s.store.units := by rw [partReset_store]

/-! ## The waiting PART_RESET (R205) -/

theorem makeWaitingReset_none (h : s.sys.resetWaiting = false) : s.makeWaitingReset = s := if_neg (by simp [h])

theorem makeWaitingReset_made (h : s.sys.resetWaiting = true) : s.makeWaitingReset = s.partReset := if_pos h

theorem exec_programComplete (h : s.store.op = some (.program area unit content timer)) :
    exec .storeProgramComplete s = .next (s.completeProgram area unit content).makeWaitingReset := by
  show execStoreProgramComplete s = _
  rw [execStoreProgramComplete, h]

theorem exec_eraseComplete (h : s.store.op = some (.erase area timer)) :
    exec .storeEraseComplete s = .next (s.completeErase area).makeWaitingReset := by
  show execStoreEraseComplete s = _
  rw [execStoreEraseComplete, h]

theorem completeProgram_sys : (s.completeProgram area unit content).sys = s.sys := by rw [completeProgram_frame]

theorem completeErase_sys : (s.completeErase area).sys = s.sys := by rw [completeErase_frame]

/-- Settles O55: each completion by whether a PART_RESET waits for it. -/
theorem storeCompletions : Obligations.StoreCompletions := by
  unfold Obligations.StoreCompletions
  intro written
  have write_eq : written = fun y content => y.write content := rfl
  clear_value written
  subst write_eq
  beta_reduce
  refine ⟨storeCheck_erased, fun s area unit content timer flying => ?program, fun s area timer flying => ?erase,
    fun s => ⟨fun other => ?noProgram, fun other => ?noErase⟩⟩
  case program =>
    rw [exec_programComplete flying]
    refine ⟨fun none => ⟨_, rfl, ?_⟩, fun waits => ⟨_, rfl, ?_⟩⟩
    · rw [makeWaitingReset_none (by rw [completeProgram_sys, none])]
      exact ⟨completeProgram_store, fun sound => ⟨StoreUnit.bytes_write content (s.store.unit area unit) (by
          rw [(StoreUnit.health_eq_clean _).mpr sound]; decide), StoreUnit.status_write content (s.store.unit area unit) sound⟩,
        by rw [completeProgram_eq]; exact reported_done _ _, completeProgram_fault, completeProgram_mon,
        completeProgram_frame⟩
    · rw [makeWaitingReset_made (by rw [completeProgram_sys, waits])]
      obtain ⟨phase, waiting, -⟩ := partReset_sys (s := s.completeProgram area unit content)
      exact ⟨by rw [partReset_store, completeProgram_store], phase, waiting, partReset_night⟩
  case erase =>
    rw [exec_eraseComplete flying]
    refine ⟨fun none => ⟨_, rfl, ?_⟩, fun waits => ⟨_, rfl, ?_⟩⟩
    · rw [makeWaitingReset_none (by rw [completeErase_sys, none])]
      refine ⟨completeErase_unit, fun bad hbad => ?_, by rw [completeErase_store], completeErase_locked,
        by rw [completeErase_eq]; exact reported_done _ _, completeErase_frame⟩
      rw [completeErase_store] at hbad ⊢
      rw [hbad]
      rfl
    · rw [makeWaitingReset_made (by rw [completeErase_sys, waits])]
      obtain ⟨phase, waiting, -⟩ := partReset_sys (s := s.completeErase area)
      exact ⟨fun i => by rw [partReset_units]; exact completeErase_unit i, by rw [partReset_store],
        by rw [partReset_store], phase, waiting, partReset_night⟩
  case noProgram =>
    show execStoreProgramComplete s = _
    unfold execStoreProgramComplete
    split
    next area unit content timer h => exact absurd h (other area unit content timer)
    next => rfl
  case noErase =>
    show execStoreEraseComplete s = _
    unfold execStoreEraseComplete
    split
    next area timer h => exact absurd h (other area timer)
    next => rfl

/-! ## The commands of the ports (R19, R200, R208) -/

theorem flagByte_eq (r : Port) : r.flagByte = (if r.frameFault then 1 else 0) + (if r.shortRead then 2 else 0) := rfl

theorem identity_eq (p : PortId) : PortId.identity p = if p = .booth then 1 else 2 := by cases p <;> rfl

theorem reportBytes_eq (r : Report) : r.bytes =
    [(if r.failing ≠ 0 then 1 else 0) + (if r.scan.identity = none then 2 else 0)] ++ bytes2 r.failing ++
      bytes2 r.scan.corrected ++
      (match r.scan.firstBad with
        | some (a, u) => [BitVec.ofNat 8 a.val, BitVec.ofNat 8 u.val]
        | none => [0xFF, 0xFF]) ++
      r.scan.identity.getD (List.replicate 11 0) := by
  have flags : bitsByte [r.failing != 0, r.scan.identity.isNone] =
      (if r.failing ≠ 0 then 1 else 0) + (if r.scan.identity = none then 2 else 0) := by
    by_cases failing : r.failing = 0 <;> cases identity : r.scan.identity <;> simp [failing, bitsByte]
  rw [← flags]
  unfold Report.bytes
  cases r.scan.firstBad <;> rfl

/-- The data of READ_INTEGRITY (R19). -/
theorem integrityBytes_eq (s : State) : (readIntegrity s).data = bytes2 s.mon.count ++
    (match s.mon.trap with
      | none => [0, 0, 0, 0, 0]
      | some (place, kind) => [1, byte1 place.source] ++ place.location ++ [byte1 kind.number]) ++
    bytes2 s.mem.admMarks ++ bytes2 s.mem.orderMarks ++ bytes2 s.mem.stallMarks := by
  unfold readIntegrity
  cases s.mon.trap <;> rfl

/-- Settles O8: each command is taken by its port, and its block answers the bytes of its format. -/
theorem portAndReports : Obligations.PortAndReports := by
  refine ⟨fun p s => ⟨fun ht => next_command_of_block ht rfl, fun ht => ?readPort⟩, fun s =>
    ⟨fun ht => ?report, fun ht => ?integrity, fun ht => next_command_of_block ht rfl⟩⟩
  case readPort =>
    rw [← identity_eq, ← flagByte_eq]
    exact next_command_of_block ht rfl
  case report =>
    exact (next_command_of_block ht rfl).trans
      (congrArg (fun d => Host.Outcome.next (s.answer .booth 0x04 .ok d)) (reportBytes_eq _))
  case integrity =>
    exact (next_command_of_block ht rfl).trans
      (congrArg (fun d => Host.Outcome.next (s.answer .booth 0x08 .ok d)) (integrityBytes_eq s))

/-! ## The state after reset -/

theorem windowCondition_reset (n : Fin 6) : State.reset.windowCondition n = false :=
  windowCondition_notOpened n (by decide)

theorem countP_marked_fresh {α : Type} {n : Nat} (x : α) (v : Vector (List Health) n) :
    (v.map (Slot.fresh x)).toList.countP Slot.marked = 0 := by
  rw [List.countP_eq_zero]
  simp [Slot.fresh]

/-- Settles O60: each invariant record by record. -/
theorem invariantsAtReset : Obligations.InvariantsAtReset := by
  refine ⟨⟨⟨by decide, by decide, by decide⟩, by decide, by decide, by decide⟩, ?barriers, ?projectors, ?stops,
    ?codes, ⟨fun n => ?windows, fun _ => rfl⟩, ?limits, ?marks⟩
  case barriers => unfold State.barriersGood; decide
  case projectors => unfold State.projectorLinesGood; decide
  case stops => unfold State.stopLinesGood; decide
  case codes => unfold State.carrierCodesGood; decide
  case windows =>
    rw [windowCondition_reset]
    exact Vector.getElem_replicate _
  case limits => unfold State.limitsGood; decide
  case marks =>
    constructor
    · rw [show State.reset.mem.admissions = (Vector.replicate 1024 []).map (Slot.fresh Admission.freePattern) from rfl,
        countP_marked_fresh]
      rfl
    · rw [show State.reset.mem.orders = (Vector.replicate 256 []).map (Slot.fresh Order.freePattern) from rfl,
        countP_marked_fresh]
      rfl

end Sys2Proof.StartUp
end

section
/-!
SUPPORT. What every step keeps (the invariants of the statements O56 to O59), as one relation between a state and a
later one, and the changes of attention, monitor and record memory that keep it.
-/

namespace Sys2Proof.Invariants

open Sys2Proof Sys2Proof.Machine

/-! The defaults below are tactic blocks; the proofs are elaborated in order, or each would hold a thread that waits for
those before it. -/

set_option Elab.async false

/-- From `s` to `t` each invariant but that of the order windows is kept. A change that no invariant looks at keeps each
by definition. -/
structure KeptApart (s t : State) : Prop where
  attention : s.attentionGood → t.attentionGood := by exact id
  projector : s.projectorLinesGood → t.projectorLinesGood := by exact id
  stop : s.stopLinesGood → t.stopLinesGood := by exact id
  codes : s.carrierCodesGood → t.carrierCodesGood := by exact id
  barriers : s.barriersGood → t.barriersGood := by exact id
  limits : s.limitsGood → t.limitsGood := by exact id
  marks : s.marksGood → t.marksGood := by exact id

/-- From `s` to `t` each invariant is kept. -/
structure Kept (s t : State) : Prop extends KeptApart s t where
  windows : s.windowsGood → t.windowsGood := by exact id

variable {s t u : State}

theorem keptApart_trans (h : KeptApart s t) (k : KeptApart t u) : KeptApart s u where
  attention := k.attention ∘ h.attention
  projector := k.projector ∘ h.projector
  stop := k.stop ∘ h.stop
  codes := k.codes ∘ h.codes
  barriers := k.barriers ∘ h.barriers
  limits := k.limits ∘ h.limits
  marks := k.marks ∘ h.marks

theorem kept_refl (s : State) : Kept s s := {}

theorem kept_trans (h : Kept s t) (k : Kept t u) : Kept s u where
  toKeptApart := keptApart_trans h.toKeptApart k.toKeptApart
  windows := k.windows ∘ h.windows

theorem kept_each {α : Type} {f : α → State → State} (h : ∀ (a : α) (s : State), Kept s (f a s)) (l : List α)
    (s : State) : Kept s (s.each l f) :=
  NightUnit.each_keeps (Kept s) (kept_refl s) (fun a t ht => kept_trans ht (h a t)) l

/-! ## Ports (R203, R204) -/

/-- A change of a port that keeps its attention line as its set and mask say. -/
theorem kept_modPort (p : PortId) {f : Port → Port} (h : ∀ r : Port, r.attentionGood p → (f r).attentionGood p)
    (s : State) : Kept s (s.modPort p f) := by
  cases p with
  | booth => exact { attention := fun ⟨booth, counter⟩ => ⟨h _ booth, counter⟩ }
  | counter => exact { attention := fun ⟨booth, counter⟩ => ⟨booth, h _ counter⟩ }

theorem kept_answer (p : PortId) (code : Byte) (status : Status) (data : List Byte) (s : State) :
    Kept s (s.answer p code status data) :=
  kept_modPort p (f := fun r => { r with answer := some { code := code, status := status, data := data } })
    (fun _ h => h) s

/-- A raise of kinds that the port has. -/
theorem attentionGood_raise {p : PortId} {k : Word24} (hk : k &&& ~~~PortId.kinds p = 0) {r : Port}
    (h : r.attentionGood p) : (r.raise k).attentionGood p := by
  obtain ⟨line, set, mask⟩ := h
  refine ⟨rfl, ?_, mask⟩
  rw [AttentionPorts.raise_attention]
  refine BitVec.eq_of_getLsbD_eq fun i hi => ?_
  have raised := congrArg (·.getLsbD i) hk
  have stood := congrArg (·.getLsbD i) set
  simp only [BitVec.getLsbD_and, BitVec.getLsbD_or] at raised stood ⊢
  rw [Bool.and_or_distrib_right, raised, stood]
  simp

theorem kept_raiseBooth (k : BoothKind) (s : State) : Kept s (s.raiseBooth k) :=
  kept_modPort .booth (fun _ => attentionGood_raise (by cases k <;> decide)) s

theorem kept_raiseCounter (k : CounterKind) (s : State) : Kept s (s.raiseCounter k) :=
  kept_modPort .counter (fun _ => attentionGood_raise (by cases k <;> decide)) s

theorem kept_raiseDamaged (s : State) : Kept s s.raiseDamaged :=
  kept_trans (kept_raiseBooth _ s) (kept_raiseCounter _ _)

/-! ## Changes that no invariant looks at -/

theorem kept_modRow (r : Fin 48) (f : Row → Row) (s : State) : Kept s (s.modRow r f) := {}
theorem kept_modPosts (f : Posts → Posts) (s : State) : Kept s (s.modPosts f) := {}
theorem kept_modDisp (f : Display → Display) (s : State) : Kept s (s.modDisp f) := {}
theorem kept_modStore (f : Store → Store) (s : State) : Kept s (s.modStore f) := {}
theorem kept_modStallSlot (i : Fin 1024) (f : Slot Stall → Slot Stall) (s : State) : Kept s (s.modStallSlot i f) := {}

theorem kept_modOrds {f : OrderTable → OrderTable} (s : State)
    (h : (f s.ords).windows = s.ords.windows := by exact rfl) :
    Kept s (s.modOrds f) where
  windows := fun ⟨windows, night⟩ => ⟨fun n => by
    show (f s.ords).windows[n] = _
    rw [h]
    exact windows n, night⟩

theorem kept_modMem {f : RecordMemory → RecordMemory} (s : State)
    (h : (f s.mem).admissions = s.mem.admissions := by exact rfl)
    (ho : (f s.mem).orders = s.mem.orders := by exact rfl) (ha : (f s.mem).admMarks = s.mem.admMarks := by exact rfl)
    (hm : (f s.mem).orderMarks = s.mem.orderMarks := by exact rfl) : Kept s (s.modMem f) where
  marks := by
    unfold State.marksGood
    rw [modMem_mem, h, ho, ha, hm]
    exact id

/-- A change of the lot map that keeps the field records. -/
theorem kept_modLot {f : LotMap → LotMap} (s : State)
    (h : (f s.lot).fields = s.lot.fields := by exact rfl) :
    Kept s (s.modLot f) where
  windows := fun ⟨windows, night⟩ => ⟨fun n => by
    refine (windows n).trans ?_
    simp only [State.windowCondition, LotMap.ordersDuringFeature, modLot_lot, h]
    rfl, night⟩

/-! ## The integrity monitor (R18) -/

theorem kept_event (x : EventPlace) (k : EventKind) (s : State) : Kept s (s.event x k) where
  limits := fun ⟨count, rest⟩ => ⟨by
    show (if s.mon.count < Config.countLimit then s.mon.count + 1 else s.mon.count) ≤ Config.countLimit
    split <;> omega, rest⟩

theorem kept_storeEvent (a : Fin 6) (u : Fin 64) (k : EventKind) (s : State) : Kept s (s.storeEvent a u k) := by
  cases k with
  | single => exact kept_event _ _ s
  | double => exact kept_trans (kept_event _ _ s) (kept_raiseBooth _ _)

/-! ## Damage marks (R15) -/

/-- One entry of a table replaced moves a count by that entry alone. -/
theorem countP_upd {α : Type} {n : Nat} (v : Vector α n) (i : Fin n) (f : α → α) (q : α → Bool) :
    (upd v i f).toList.countP q + (if q v[i] then 1 else 0) = v.toList.countP q + (if q (f v[i]) then 1 else 0) := by
  have hi : i.val < v.toList.length := by simp
  have entry : v.toList[i.val] = v[i] := by simp
  have split := List.take_append_drop i.val v.toList
  have tail := List.drop_eq_getElem_cons hi
  have before : v.toList = v.toList.take i.val ++ v[i] :: v.toList.drop (i.val + 1) := by
    rw [← entry, ← tail, split]
  have after : (upd v i f).toList = v.toList.take i.val ++ f v[i] :: v.toList.drop (i.val + 1) := by
    simp only [upd, Vector.toList_set]
    exact List.set_eq_take_append_cons_drop.trans (if_pos hi)
  rw [after]
  conv_rhs => rw [before]
  simp only [List.countP_append, List.countP_cons]
  omega

theorem countP_upd_same {α : Type} {n : Nat} (v : Vector α n) (i : Fin n) {f : α → α} {q : α → Bool}
    (h : q (f v[i]) = q v[i]) : (upd v i f).toList.countP q = v.toList.countP q := by
  have count := countP_upd v i f q
  rw [h] at count
  omega

theorem countP_mark {α : Type} {n : Nat} (v : Vector (Slot α) n) (i : Fin n) (h : v[i].marked = false) :
    (upd v i Slot.mark).toList.countP Slot.marked = v.toList.countP Slot.marked + 1 := by
  have count := countP_upd v i Slot.mark Slot.marked
  rw [h] at count
  simpa [Slot.mark] using count

theorem countP_unmark {α : Type} {n : Nat} (v : Vector (Slot α) n) (i : Fin n) (h : v[i].marked = true) :
    (upd v i Slot.unmark).toList.countP Slot.marked = v.toList.countP Slot.marked - 1 := by
  have count := countP_upd v i Slot.unmark Slot.marked
  rw [h] at count
  simp only [Slot.unmark, if_true, Bool.false_eq_true, if_false] at count
  omega

/-- A slot written when it is not marked keeps its mark. -/
theorem marked_write {α : Type} (f : α → α) (slot : Slot α) :
    (if slot.marked then slot else Slot.write (f slot.content) slot).marked = slot.marked := by
  split <;> rfl

/-- A change of an admission slot that keeps its mark. -/
theorem kept_modAdmSlot (a : Fin 1024) {f : Slot Admission → Slot Admission} (s : State)
    (h : (f s.mem.admissions[a]).marked = s.mem.admissions[a].marked) : Kept s (s.modAdmSlot a f) where
  marks := fun ⟨adm, order⟩ => ⟨adm.trans (countP_upd_same _ a h).symm, order⟩

theorem kept_modOrderSlot (o : Fin 256) {f : Slot Order → Slot Order} (s : State)
    (h : (f s.mem.orders[o]).marked = s.mem.orders[o].marked) : Kept s (s.modOrderSlot o f) where
  marks := fun ⟨adm, order⟩ => ⟨adm, order.trans (countP_upd_same _ o h).symm⟩

/-- A slot that is not marked is marked, and one more counted. -/
theorem kept_markAdm (a : Fin 1024) (s : State) (h : s.mem.admissions[a].marked = false) : Kept s (s.markAdm a) := by
  refine kept_trans (t := s.modMem fun m =>
    { m with admissions := upd m.admissions a Slot.mark, admMarks := m.admMarks + 1 })
    { marks := fun ⟨adm, order⟩ => ⟨?_, order⟩ } (kept_trans (kept_event _ _ _) (kept_raiseDamaged _))
  exact (congrArg (· + 1) adm).trans (countP_mark _ a h).symm

theorem kept_markOrder (o : Fin 256) (s : State) (h : s.mem.orders[o].marked = false) : Kept s (s.markOrder o) := by
  refine kept_trans (t := s.modMem fun m =>
    { m with orders := upd m.orders o Slot.mark, orderMarks := m.orderMarks + 1 })
    { marks := fun ⟨adm, order⟩ => ⟨adm, ?_⟩ } (kept_trans (kept_event _ _ _) (kept_raiseDamaged _))
  exact (congrArg (· + 1) order).trans (countP_mark _ o h).symm

theorem kept_unmarkAdm (a : Fin 1024) (s : State) : Kept s (s.unmarkAdm a) := by
  unfold State.unmarkAdm
  split
  next marked =>
    exact { marks := fun ⟨adm, order⟩ => ⟨(congrArg (· - 1) adm).trans (countP_unmark _ a marked).symm, order⟩ }
  next => exact kept_refl s

theorem kept_unmarkOrder (o : Fin 256) (s : State) : Kept s (s.unmarkOrder o) := by
  unfold State.unmarkOrder
  split
  next marked =>
    exact { marks := fun ⟨adm, order⟩ => ⟨adm, (congrArg (· - 1) order).trans (countP_unmark _ o marked).symm⟩ }
  next => exact kept_refl s

/-! ## Reads and writes of admissions and orders (R8 to R14) -/

theorem kept_readAdm (a : Fin 1024) (s : State) : Kept s (s.readAdm a).2 := by
  unfold State.readAdm
  dsimp only
  split
  · exact kept_refl s
  next clear =>
    split
    · exact kept_refl s
    · exact kept_trans (kept_modAdmSlot a s rfl) (kept_event _ _ _)
    · exact kept_markAdm a s (eq_false_of_ne_true clear)

theorem kept_writeAdm (a : Fin 1024) (f : Admission → Admission) (s : State) : Kept s (s.writeAdm a f) :=
  kept_modAdmSlot a s (marked_write f _)

theorem kept_updateAdm (a : Fin 1024) (f : Admission → Admission) (s : State) : Kept s (s.updateAdm a f) :=
  kept_trans (kept_readAdm a s) (kept_writeAdm a f _)

theorem kept_retireAdmSlot (a : Fin 1024) (s : State) : Kept s (s.retireAdmSlot a) :=
  kept_trans (kept_trans (kept_modAdmSlot a s rfl) (kept_unmarkAdm a _)) (kept_modMem _)

theorem kept_createAdm (a : Fin 1024) (x : Admission) (s : State) : Kept s (s.createAdm a x) :=
  kept_trans (kept_modAdmSlot a s rfl) (kept_modMem _)

theorem kept_readOrder (o : Fin 256) (s : State) : Kept s (s.readOrder o).2 := by
  unfold State.readOrder
  dsimp only
  split
  · exact kept_refl s
  next clear =>
    split
    · exact kept_refl s
    · exact kept_trans (kept_modOrderSlot o s rfl) (kept_event _ _ _)
    · exact kept_markOrder o s (eq_false_of_ne_true clear)

theorem kept_writeOrder (o : Fin 256) (f : Order → Order) (s : State) : Kept s (s.writeOrder o f) :=
  kept_modOrderSlot o s (marked_write f _)

theorem kept_updateOrder (o : Fin 256) (f : Order → Order) (s : State) : Kept s (s.updateOrder o f) :=
  kept_trans (kept_readOrder o s) (kept_writeOrder o f _)

theorem kept_retireOrderSlot (o : Fin 256) (s : State) : Kept s (s.retireOrderSlot o) :=
  kept_trans (kept_trans (kept_modOrderSlot o s rfl) (kept_unmarkOrder o _)) (kept_modMem _)

theorem kept_createOrder (o : Fin 256) (x : Order) (s : State) : Kept s (s.createOrder o x) :=
  kept_trans (kept_modOrderSlot o s rfl) (kept_modMem _)

theorem kept_readOrders (l : List (Fin 256)) (s : State) : Kept s (s.readOrders l).2.2 := by
  induction l generalizing s with
  | nil => exact kept_refl s
  | cons o rest ih =>
    have both := kept_trans (kept_readOrder o s) (ih _)
    unfold State.readOrders
    generalize s.readOrder o = r at *
    obtain ⟨x, u⟩ := r
    cases x <;> exact both

theorem kept_readTab (a : Fin 1024) (s : State) : Kept s (s.readTab a).2 := by
  have read := kept_readAdm a s
  unfold State.readTab
  generalize s.readAdm a = r at *
  obtain ⟨x, u⟩ := r
  cases x with
  | none => exact read
  | some x => exact kept_trans read (kept_readOrders _ u)

/-! ## The standing store (R184) -/

theorem kept_readUnit (a : Fin 6) (u : Fin 64) (s : State) : Kept s (s.readUnit a u).2 := by
  unfold State.readUnit
  dsimp only
  split
  · exact kept_refl s
  · exact kept_storeEvent _ _ _ s
  · exact kept_storeEvent _ _ _ s

theorem kept_readUnits (l : List (Fin 384)) (s : State) : Kept s (s.readUnits l) :=
  kept_each (fun i => kept_readUnit (areaOf i) (unitOf i)) l s

/-! ## The handing over of a command (R199) -/

theorem kept_command_running {block : State → Reply} (p : PortId) (code : Byte) (ok : Bool) (s : State)
    (h : s.sys.phase = .running → Kept s (block s).state) : Kept s (s.command p code ok block) := by
  unfold State.command
  split
  · exact kept_refl s
  next notHeld =>
    have checked : s.portCheck p code ok = none → s.sys.phase = .running := by
      intro passed
      cases phase : s.sys.phase with
      | running => rfl
      | held => exact absurd phase notHeld
      | checking => simp [State.portCheck, phase] at passed
    split
    · exact kept_answer _ _ _ _ s
    next passed => exact kept_trans (h (checked passed)) (kept_answer _ _ _ _ _)

theorem kept_command {block : State → Reply} (p : PortId) (code : Byte) (ok : Bool)
    (h : ∀ s, Kept s (block s).state) (s : State) : Kept s (s.command p code ok block) :=
  kept_command_running p code ok s fun _ => h s

theorem kept_whileRunning {f : State → State} (h : ∀ s, Kept s (f s)) (s : State) : Kept s (s.whileRunning f) := by
  unfold State.whileRunning
  split
  · exact h s
  · exact kept_refl s

end Sys2Proof.Invariants
end

section
/-!
SUPPORT. Reads of records (R8 to R11) and the patrol (R16): what each read does by the health of its slot, and the
statements about them.
-/

namespace Sys2Proof.Records

open Sys2Proof Sys2Proof.Machine Sys2Proof.StartUp

variable {s : State}

/-! ## The integrity monitor (R18) -/

theorem event_eq (place : EventPlace) (kind : EventKind) (s : State) : s.event place kind = { s with mon :=
    { count := if s.mon.count < 65535 then s.mon.count + 1 else s.mon.count
      trap := match s.mon.trap with
        | none => some (place, kind)
        | some x => some x } } := by
  unfold State.event State.modMon Monitor.take
  cases s.mon.trap <;> rfl

/-! ## Writes of slots -/

/-- A change of one entry may be looked at as it stands. -/
theorem upd_congr {α : Type} {n : Nat} {v : Vector α n} {i : Fin n} {f g : α → α} (h : f v[i] = g v[i]) :
    upd v i f = upd v i g := congrArg (v.set i) h

theorem modAdmSlot_rewrite (a : Fin 1024) (s : State) :
    s.modAdmSlot a (Slot.write s.mem.admissions[a].content) = { s with mem := { s.mem with
      admissions := upd s.mem.admissions a fun x =>
        { x with health := x.flaws.headD .clean, flaws := x.flaws.tail } } } := rfl

theorem modOrderSlot_rewrite (o : Fin 256) (s : State) :
    s.modOrderSlot o (Slot.write s.mem.orders[o].content) = { s with mem := { s.mem with
      orders := upd s.mem.orders o fun x =>
        { x with health := x.flaws.headD .clean, flaws := x.flaws.tail } } } := rfl

theorem modStallSlot_rewrite (i : Fin 1024) (s : State) :
    s.modStallSlot i (Slot.write s.mem.stalls[i].content) = s.modStallSlot i fun x =>
      { x with health := x.flaws.headD .clean, flaws := x.flaws.tail } := rfl

/-! ## Reads of admissions and orders (R8 to R10) -/

section

variable {a : Fin 1024}

theorem readAdm_single (m : s.mem.admissions[a].marked = false) (h : s.mem.admissions[a].health = .single) :
    s.readAdm a = (some s.mem.admissions[a].content,
      (s.modAdmSlot a (Slot.write s.mem.admissions[a].content)).event (.admission a) .single) := by
  simp only [Fin.getElem_fin] at m h
  simp [State.readAdm, m, h]

theorem readAdm_double (m : s.mem.admissions[a].marked = false) (h : s.mem.admissions[a].health = .double) :
    s.readAdm a = (none, s.markAdm a) := by
  simp only [Fin.getElem_fin] at m h
  simp [State.readAdm, m, h]

end

section

variable {o : Fin 256}

theorem readOrder_single (m : s.mem.orders[o].marked = false) (h : s.mem.orders[o].health = .single) :
    s.readOrder o = (some s.mem.orders[o].content,
      (s.modOrderSlot o (Slot.write s.mem.orders[o].content)).event (.order o) .single) := by
  simp only [Fin.getElem_fin] at m h
  simp [State.readOrder, m, h]

theorem readOrder_double (m : s.mem.orders[o].marked = false) (h : s.mem.orders[o].health = .double) :
    s.readOrder o = (none, s.markOrder o) := by
  simp only [Fin.getElem_fin] at m h
  simp [State.readOrder, m, h]

end

/-- Settles O13: the event at the monitor, and each read by the mark and the health of its slot. -/
theorem readsOfRecords : Obligations.ReadsOfRecords := by
  refine ⟨fun place kind s => ?event, fun a s => ⟨readAdm_marked, fun m h => readAdm_clean ⟨m, h⟩, fun m h => ?adm,
    readAdm_double⟩, fun o s => ⟨readOrder_marked, fun m h => readOrder_clean ⟨m, h⟩, fun m h => ?order,
    readOrder_double⟩⟩
  case event => exact event_eq place kind s
  case adm => rw [readAdm_single m h, modAdmSlot_rewrite]
  case order => rw [readOrder_single m h, modOrderSlot_rewrite]

/-! ## The patrol (R16) -/

theorem patrolFree_clean (place : EventPlace) {h : Health} (rewrite : State → State) (hh : h = .clean) (s : State) :
    s.patrolFree place h rewrite = s := by
  rw [hh]
  rfl

theorem patrolFree_error (place : EventPlace) {h : Health} (rewrite : State → State) (hh : h ≠ .clean) (s : State) :
    s.patrolFree place h rewrite = (rewrite s).event place (if h = .single then .single else .double) := by
  cases h with
  | clean => exact absurd rfl hh
  | single | double => rfl

theorem patrolAt_adm {k : Fin 2304} {a : Fin 1024} (h : k.val = a.val) (s : State) :
    s.patrolAt k = s.patrolAdm a := by
  have here : Fin.ofNat 1024 k.val = a := Fin.ext (by simp [h])
  rw [State.patrolAt, if_pos (by omega), here]

theorem patrolAt_stall {k : Fin 2304} {i : Fin 1024} (h : k.val = 1024 + i.val) (s : State) :
    s.patrolAt k = s.patrolStall i := by
  have here : Fin.ofNat 1024 (k.val - 1024) = i := Fin.ext (by simp [h])
  rw [State.patrolAt, if_neg (by omega), if_pos (by omega), here]

theorem patrolAt_order {k : Fin 2304} {o : Fin 256} (h : k.val = 2048 + o.val) (s : State) :
    s.patrolAt k = s.patrolOrder o := by
  have here : Fin.ofNat 256 (k.val - 2048) = o := Fin.ext (by simp [h])
  rw [State.patrolAt, if_neg (by omega), if_neg (by omega), here]

/-- The record memory as the patrol counts on it: where it stands and its period. -/
def SamePatrol (s t : State) : Prop :=
  t.mem.patrolPosition = s.mem.patrolPosition ∧ t.mem.patrolPeriod = s.mem.patrolPeriod

theorem samePatrol_readAdm (a : Fin 1024) (s : State) : SamePatrol s (s.readAdm a).2 := by
  unfold State.readAdm
  dsimp only
  split
  · exact ⟨rfl, rfl⟩
  · split <;> exact ⟨rfl, rfl⟩

theorem samePatrol_readOrder (o : Fin 256) (s : State) : SamePatrol s (s.readOrder o).2 := by
  unfold State.readOrder
  dsimp only
  split
  · exact ⟨rfl, rfl⟩
  · split <;> exact ⟨rfl, rfl⟩

theorem samePatrol_readStall (i : Fin 1024) (s : State) : SamePatrol s (s.readStall i).2 := by
  unfold State.readStall
  dsimp only
  split <;> exact ⟨rfl, rfl⟩

/-- The patrol at its position, and then the next position with a fresh timer. -/
theorem exec_patrolRead {u : State} (hs : s.sys.phase = .running) (ht : s.mem.patrolTimer ≠ none)
    (hu : s.patrolAt s.mem.patrolPosition = u) (same : SamePatrol s u) : exec .patrolRead s =
      .next { u with mem := { u.mem with
        patrolPosition := s.mem.patrolPosition + 1, patrolTimer := some s.mem.patrolPeriod } } := by
  obtain ⟨position, period⟩ := same
  show execPatrolRead s = _
  rw [execPatrolRead, whileRunning_running s _ hs, if_pos (Option.isSome_iff_ne_none.mpr ht), hu, State.modMem,
    RecordMemory.patrolNext, position, ← period]

/-- Settles O15: the position's slot, by its table, by whether it is live or in use, and by its health. -/
theorem patrolReadsNextSlot : Obligations.PatrolReadsNextSlot := by
  intro s hs ht k next
  have here {u : State} (hu : s.patrolAt s.mem.patrolPosition = u) (same : SamePatrol s u) :
      exec .patrolRead s = .next (next u) := exec_patrolRead hs ht hu same
  refine ⟨fun a hk => ⟨fun live => ?_, fun free h => ?_, fun free h => ?_⟩,
    fun i hk => ⟨fun used => ?_, fun unused h => ?_, fun unused h => ?_⟩,
    fun o hk => ⟨fun live => ?_, fun free h => ?_, fun free h => ?_⟩⟩
  · exact here (by rw [patrolAt_adm hk, State.patrolAdm, if_pos live]) (samePatrol_readAdm a s)
  · exact here (by rw [patrolAt_adm hk, State.patrolAdm, if_neg (by simp [free]), patrolFree_clean _ _ h]) ⟨rfl, rfl⟩
  · exact here (by rw [patrolAt_adm hk, State.patrolAdm, if_neg (by simp [free]), patrolFree_error _ _ h]; rfl)
      ⟨rfl, rfl⟩
  · exact here (by rw [patrolAt_stall hk, State.patrolStall, if_pos used]) (samePatrol_readStall i s)
  · exact here (by rw [patrolAt_stall hk, State.patrolStall, if_neg (by simp [unused]), patrolFree_clean _ _ h])
      ⟨rfl, rfl⟩
  · exact here (by rw [patrolAt_stall hk, State.patrolStall, if_neg (by simp [unused]), patrolFree_error _ _ h]; rfl)
      ⟨rfl, rfl⟩
  · exact here (by rw [patrolAt_order hk, State.patrolOrder, if_pos live]) (samePatrol_readOrder o s)
  · exact here (by rw [patrolAt_order hk, State.patrolOrder, if_neg (by simp [free]), patrolFree_clean _ _ h])
      ⟨rfl, rfl⟩
  · exact here (by rw [patrolAt_order hk, State.patrolOrder, if_neg (by simp [free]), patrolFree_error _ _ h]; rfl)
      ⟨rfl, rfl⟩

end Sys2Proof.Records
end

section
/-!
SUPPORT. The geometry of a field and the naming of stalls (R20, R21, R26).
-/

namespace Sys2Proof.Lot

open Sys2Proof Sys2Proof.Machine

/-! ## Rows (R21) -/

section

variable (p : Pattern) (rows : Nat)

theorem stallsBefore_succ (r : Nat) :
    p.stallsBefore rows (r + 2) = p.stallsBefore rows (r + 1) + p.rowLength rows (r + 1) := by
  simp [Pattern.stallsBefore, List.range_succ]

theorem stallsBefore_mono {a b : Nat} (h : a ≤ b) : p.stallsBefore rows (a + 1) ≤ p.stallsBefore rows (b + 1) := by
  induction h with
  | refl => exact Nat.le_refl _
  | step _ ih => exact ih.trans (by rw [stallsBefore_succ]; exact Nat.le_add_right _ _)

/-- How many rows but the last lie before stall `n`: all of those counted do, and the next one does not. -/
theorem countP_range_initial {q : Nat → Bool} (hq : ∀ a b, a ≤ b → q b = true → q a = true) (m : Nat) :
    let k := (List.range m).countP q
    k ≤ m ∧ (∀ r < k, q r = true) ∧ (k < m → q k = false) := by
  induction m with
  | zero => simp
  | succ m ih =>
    obtain ⟨le, before, next⟩ := ih
    simp only [List.range_succ, List.countP_append, List.countP_cons, List.countP_nil, Nat.zero_add]
    by_cases last : q m = true
    · have all : (List.range m).countP q = m := by
        by_contra fewer
        have short : (List.range m).countP q < m := by omega
        have holds := hq _ m short.le last
        rw [next short] at holds
        cases holds
      rw [if_pos last, all] at *
      exact ⟨Nat.le_refl _, fun r hr => hq r m (by omega) last, fun h => absurd h (Nat.lt_irrefl _)⟩
    · rw [if_neg last]
      refine ⟨by omega, before, fun h => ?_⟩
      rcases Nat.lt_or_ge ((List.range m).countP q) m with short | full
      · exact next short
      · rw [show (List.range m).countP q + 0 = m by omega]
        exact eq_false_of_ne_true last

/-- The row of a good stall number is the one that begins before it and ends at or after it (R21). -/
theorem rowOf_spec {n : Nat} (hrows : 1 ≤ rows) (h1 : 1 ≤ n) (hn : n ≤ p.stallCount rows) :
    1 ≤ p.rowOf rows n ∧ p.rowOf rows n ≤ rows ∧ p.stallsBefore rows (p.rowOf rows n) < n ∧
      n ≤ p.stallsBefore rows (p.rowOf rows n) + p.rowLength rows (p.rowOf rows n) := by
  have downward (a b : Nat) (h : a ≤ b) (hb : decide (p.stallsBefore rows (b + 2) < n) = true) :
      decide (p.stallsBefore rows (a + 2) < n) = true :=
    decide_eq_true (Nat.lt_of_le_of_lt (stallsBefore_mono p rows (Nat.succ_le_succ h)) (of_decide_eq_true hb))
  obtain ⟨le, before, next⟩ := countP_range_initial downward (rows - 1)
  rw [Pattern.rowOf]
  generalize (List.range (rows - 1)).countP (fun r => decide (p.stallsBefore rows (r + 2) < n)) = k at *
  refine ⟨by omega, by omega, ?_, ?_⟩
  · cases k with
    | zero => exact h1
    | succ k =>
      rw [Nat.add_comm 1 (k + 1)]
      exact of_decide_eq_true (before k (Nat.lt_succ_self k))
  · rw [Nat.add_comm 1 k, ← stallsBefore_succ]
    rcases Nat.lt_or_ge k (rows - 1) with short | full
    · exact Nat.not_lt.mp (of_decide_eq_false (next short))
    · have last : k + 1 = rows := by omega
      rw [Pattern.stallCount, ← last] at hn
      rwa [← last]

end

theorem leastRows_pos (p : Pattern) : 1 ≤ p.leastRows := by cases p <;> decide

/-! ## The naming of a stall (R26) -/

section

variable {l : LotMap} {screen : Byte} {stall : Word16}

theorem loaded_iff : l.loaded = true ↔ ∃ n : Fin 6, l.fields[n] ≠ none := by
  simp only [LotMap.loaded, Vector.any_eq_true, Option.isSome_iff_ne_none]
  exact ⟨fun ⟨i, hi, h⟩ => ⟨⟨i, hi⟩, h⟩, fun ⟨n, h⟩ => ⟨n.val, n.isLt, h⟩⟩

theorem numbered_eq {k : Nat} {b : Byte} {n : Fin k} (h : b.toNat = n.val + 1) : numbered k b = some n := by
  rw [numbered_some ⟨by omega, by omega⟩]
  exact congrArg some (Fin.ext (by show b.toNat - 1 = n.val; omega))

theorem named_noLayout (h : ∀ n : Fin 6, l.fields[n] = none) : l.named screen stall = .error .badState := by
  have unloaded : l.loaded ≠ true := by
    rw [Ne, loaded_iff]
    exact fun ⟨n, hn⟩ => hn (h n)
  simp [LotMap.named, unloaded]

theorem named_badScreen (h : l.loaded = true) (hs : ¬ (1 ≤ screen.toNat ∧ screen.toNat ≤ 6)) :
    l.named screen stall = .error .badParam := by
  simp [LotMap.named, h, numbered_none hs]

variable {n : Fin 6} (h : l.loaded = true) (hs : screen.toNat = n.val + 1)

include h hs

theorem named_noField (hf : l.fields[n] = none) : l.named screen stall = .error .badParam := by
  simp only [Fin.getElem_fin] at hf
  simp [LotMap.named, h, numbered_eq hs, hf]

theorem named_field {f : Field} (hf : l.fields[n] = some f) : l.named screen stall =
    if 1 ≤ stall.toNat ∧ stall.toNat ≤ f.stallCount then
      .ok (n, Fin.ofNat 1024 (f.firstIndex + stall.toNat - 1))
    else .error .badParam := by
  simp only [Fin.getElem_fin] at hf
  simp [LotMap.named, h, numbered_eq hs, hf, Field.index]

end

/-- Settles O16: the row of a number by the rows before it, and a name by the checks of R26 in order. -/
theorem stallNames : Obligations.StallNames := by
  refine ⟨fun f screen n least most h1 hn => ?_, fun l screen stall => ⟨named_noLayout, fun some => ?_⟩⟩
  · have rows : 1 ≤ f.rowCount := (leastRows_pos f.pattern).trans least
    obtain ⟨first, last, after, within⟩ := rowOf_spec f.pattern f.rowCount rows h1 hn
    exact ⟨rfl, rfl, first, last, Nat.sub_pos_of_lt after, Nat.sub_le_iff_le_add'.mpr within,
      (Nat.add_sub_of_le after.le).symm⟩
  · have loaded := loaded_iff.mpr some
    exact ⟨named_badScreen loaded, fun n hs => ⟨named_noField loaded hs, fun f hf =>
      ⟨fun bad => (named_field loaded hs hf).trans (if_neg bad),
        fun good => (named_field loaded hs hf).trans (if_pos good)⟩⟩⟩

end Sys2Proof.Lot
end

section
/-!
SUPPORT. The stalls (chapter 2): the tallies, reads and writes of stalls, the release examination, the allocation and
the stall commands, and the statements about them.
-/

namespace Sys2Proof.Lot

open Sys2Proof Sys2Proof.Machine Sys2Proof.Orders Sys2Proof.Records Sys2Proof.Invariants

/-! ## Tallies (R25) -/

/-- Each kind and state has a tally of its own. -/
theorem tallyIndex_inj {k k' : StallKind} {y y' : StallState} :
    tallyIndex k y = tallyIndex k' y' ↔ k = k' ∧ y = y' := by
  revert k k' y y'
  have all : ∀ (k k' : StallKind) (y y' : StallState), tallyIndex k y = tallyIndex k' y' ↔ k = k' ∧ y = y' := by
    intro k k' y y'
    cases k <;> cases k' <;> cases y <;> cases y' <;> decide
  exact fun {k k' y y'} => all k k' y y'

theorem upd_add_one {n : Nat} (v : Vector Nat n) (b c : Fin n) :
    (upd v b (· + 1))[c] = v[c] + if b = c then 1 else 0 := by
  rw [upd_get]
  split
  next same => rw [same]
  next => rfl

theorem upd_sub_one {n : Nat} (v : Vector Nat n) (b c : Fin n) :
    (upd v b (· - 1))[c] = if b = c then v[c] - 1 else v[c] := by
  rw [upd_get]
  split
  next same => rw [same]
  next => rfl

section

variable {i : Fin 1024} {st : StallState} {l : LotMap} {x : Stall} (h : l.place i = some x)

include h

theorem recount_eq : l.recount i st = { l with
    counted := upd l.counted i fun _ => st
    tallies := upd l.tallies x.screen fun t =>
      upd (upd t (tallyIndex x.kind l.counted[i]) (· - 1)) (tallyIndex x.kind st) (· + 1) } := by
  simp only [LotMap.recount, h]

/-- A tally after a recount: one less under the state before, one more under the state after. -/
theorem tally_recount (n : Fin 6) (k : StallKind) (y : StallState) : (l.recount i st).tally n k y =
    if x.screen = n then
      (if x.kind = k ∧ l.counted[i] = y then l.tally n k y - 1 else l.tally n k y) +
        if x.kind = k ∧ st = y then 1 else 0
    else l.tally n k y := by
  rw [recount_eq h]
  simp only [LotMap.tally, upd_get]
  split
  next same =>
    subst same
    simp only [upd_add_one, upd_sub_one, tallyIndex_inj]
  next => rfl

end

theorem recount_keeps (i : Fin 1024) (st : StallState) (l : LotMap) :
    (l.recount i st).fields = l.fields ∧ (l.recount i st).occupants = l.occupants ∧
      (l.recount i st).queues = l.queues := by
  unfold LotMap.recount
  split <;> exact ⟨rfl, rfl, rfl⟩

/-! ## Reads of stalls (R8, R9, R38) -/

section

variable {i : Fin 1024} {s : State}

theorem readStall_single (h : s.mem.stalls[i].health = .single) : s.readStall i = (s.mem.stalls[i].content,
    (s.modStallSlot i (Slot.write s.mem.stalls[i].content)).event (.stall i) .single) := by
  simp only [Fin.getElem_fin] at h
  simp [State.readStall, h]

theorem readStall_double (h : s.mem.stalls[i].health = .double) :
    s.readStall i = (((s.markStall i).rebuildStall i).stall i, (s.markStall i).rebuildStall i) := by
  simp only [Fin.getElem_fin] at h
  simp [State.readStall, h]

theorem rebuilt_of_place {x : Stall} (h : s.lot.place i = some x) : s.rebuilt i =
    if s.lot.occupants[i] = none then { x with closed := true, closePending := false, cause := some .damage }
    else { x with closed := false, closePending := false, cause := none } := by
  unfold State.rebuilt
  rw [h]
  cases ho : s.lot.occupants[i] <;> simp

theorem upd_upd {α : Type} {n : Nat} (v : Vector α n) (j : Fin n) (f g : α → α) :
    upd (upd v j f) j g = upd v j fun x => g (f x) := by
  simp [upd]

/-- A mark set and the rebuild that clears it leave the count of marks as it was (R15, R38). -/
theorem rebuildStall_markStall (i : Fin 1024) (s : State) : (s.markStall i).rebuildStall i =
    ((((s.modStallSlot i fun z => { z with
      content := s.rebuilt i, health := z.flaws.headD .clean, flaws := z.flaws.tail, marked := false }).event
      (.stall i) .double).raiseBooth .recordDamaged).raiseCounter .recordDamaged).modLot
        (LotMap.recount i ((s.rebuilt i).state s.lot.occupants[i])) := by
  have slots := upd_upd s.mem.stalls i Slot.mark fun slot => (slot.write (s.rebuilt i)).unmark
  show { s with
    mem := { s.mem with
      stalls := upd (upd s.mem.stalls i Slot.mark) i fun slot => (slot.write (s.rebuilt i)).unmark
      stallMarks := s.mem.stallMarks + 1 - 1 }
    mon := _, booth := _, counter := _, lot := _ } = _
  rw [slots, Nat.add_sub_cancel]
  rfl

theorem stall_markStall_rebuildStall (i : Fin 1024) (s : State) :
    ((s.markStall i).rebuildStall i).stall i = s.rebuilt i := by
  rw [rebuildStall_markStall]
  show (upd s.mem.stalls i _)[i].content = _
  rw [upd_get, if_pos rfl]

end

/-- Settles O17: the tallies by kind and state, and a read of a stall by the health of its slot. -/
theorem stallReadsAndTallies : Obligations.StallReadsAndTallies := by
  refine ⟨fun i st l x h counted => ?_, fun i s => ⟨readStall_clean, fun h => ?_, fun h x place => ?_⟩⟩
  · have moved := tally_recount (st := st) h
    obtain ⟨fields, occupants, queues⟩ := recount_keeps i st l
    have same : (l.recount i st).counted = upd l.counted i fun _ => st := by rw [recount_eq h]
    refine ⟨by rw [same, upd_get, if_pos rfl], fun j hj => by rw [same, upd_get_other _ _ _ _ (Ne.symm hj)],
      fun stays n k y => ?_, fun changes => ⟨?_, ?_, fun n k y other => ?_⟩, fields, occupants, queues⟩
    · rw [moved]
      split
      next here =>
        subst here
        split
        next both =>
          obtain ⟨rfl, rfl⟩ := both
          rw [if_pos ⟨rfl, stays⟩]
          omega
        next neither =>
          rw [if_neg (by rwa [stays])]
          rfl
      next => rfl
    · rw [moved, if_pos rfl, if_pos ⟨rfl, rfl⟩, if_neg fun both => changes both.2]
      omega
    · rw [moved, if_pos rfl, if_neg fun both => changes both.2.symm, if_pos ⟨rfl, rfl⟩]
    · rw [moved]
      split
      next here =>
        rw [if_neg (fun both => other ⟨here.symm, both.1.symm, .inr both.2.symm⟩),
          if_neg (fun both => other ⟨here.symm, both.1.symm, .inl both.2.symm⟩)]
        rfl
      next => rfl
  · exact (readStall_single h).trans (by rw [modStallSlot_rewrite])
  · intro y
    have content : s.rebuilt i = y := rebuilt_of_place place
    rw [readStall_double h, stall_markStall_rebuildStall, rebuildStall_markStall, content]

/-! ## What a read or a write of a stall leaves -/

section

variable (i : Fin 1024) (s : State)

theorem readStall_lotKeeps : (s.readStall i).2.lot.fields = s.lot.fields ∧
    (s.readStall i).2.lot.occupants = s.lot.occupants ∧ (s.readStall i).2.lot.queues = s.lot.queues := by
  cases h : s.mem.stalls[i].health with
  | clean => rw [readStall_clean h]; exact ⟨rfl, rfl, rfl⟩
  | single => rw [readStall_single h]; exact ⟨rfl, rfl, rfl⟩
  | double => rw [readStall_double h]; exact recount_keeps _ _ _

/-- What a read returns is what the slot then holds. -/
theorem stall_readStall : (s.readStall i).2.stall i = (s.readStall i).1 := by
  cases h : s.mem.stalls[i].health with
  | clean => rw [readStall_clean h]
  | single =>
    rw [readStall_single h]
    show (upd s.mem.stalls i _)[i].content = _
    rw [upd_get, if_pos rfl]
    rfl
  | double => rw [readStall_double h]

theorem writeStall_stall (f : Stall → Stall) : (s.writeStall i f).stall i = f (s.stall i) := by
  show (upd s.mem.stalls i _)[i].content = _
  rw [upd_get, if_pos rfl]
  rfl

theorem writeStall_occupants (f : Stall → Stall) : (s.writeStall i f).lot.occupants = s.lot.occupants :=
  (recount_keeps _ _ _).2.1

end

end Sys2Proof.Lot
end

section
/-!
SUPPORT. The release examination (R32), the allocation (R26 to R28) and the commands of the lot map (R35 to R37): what
each hands back for each outcome of its reads, and the statements about them.
-/

namespace Sys2Proof.Lot

open Sys2Proof Sys2Proof.Machine Sys2Proof.Orders

/-! ## The release examination (R32) -/

section

variable {i a : Fin 1024} {kind : StallKind} {rest : List (Fin 1024)} {s u : State} {x : Admission}

theorem examineQueue_damaged (h : s.readAdm a = (none, u)) :
    s.examineQueue i kind (a :: rest) = u.examineQueue i kind rest := by
  simp only [State.examineQueue, h]

theorem examineQueue_skips (h : s.readAdm a = (some x, u))
    (hx : (x.state ≠ .issued ∧ x.state ≠ .waiting) ∨ x.cls.fits kind = false) :
    s.examineQueue i kind (a :: rest) = u.examineQueue i kind rest := by
  simp only [State.examineQueue, h]
  refine if_neg fun ⟨state, fits⟩ => ?_
  rcases hx with ⟨issued, waiting⟩ | unfit
  · exact state.elim issued waiting
  · rw [unfit] at fits
    cases fits

theorem examineQueue_gives (h : s.readAdm a = (some x, u)) (hx : x.state = .issued ∨ x.state = .waiting)
    (fits : x.cls.fits kind = true) : s.examineQueue i kind (a :: rest) = u.giveStall i a x := by
  simp only [State.examineQueue, h]
  exact if_pos ⟨hx, fits⟩

theorem giveStall_issued (h : x.state = .issued) : s.giveStall i a x =
    ((s.modLot (LotMap.leaveQueue a)).holdStall i a .reservation).writeAdm a fun y =>
      { y with stall := some (s.lot.numberOf i) } := by
  simp only [State.giveStall, h]

theorem giveStall_waiting (h : x.state = .waiting) : s.giveStall i a x =
    (((s.modLot (LotMap.leaveQueue a)).holdStall i a .occupation).writeAdm a fun y =>
      { y with stall := some (s.lot.numberOf i), state := .seated }).raiseBooth .seatedFromQueue := by
  simp only [State.giveStall, h]

end

/-- Settles O19: the examination member by member. -/
theorem releaseExamination : Obligations.ReleaseExamination := fun _ _ _ _ _ _ =>
  ⟨rfl, examineQueue_damaged, fun _ h => ⟨examineQueue_skips h,
    fun issued fits => (examineQueue_gives h (.inl issued) fits).trans (giveStall_issued issued),
    fun waiting fits => (examineQueue_gives h (.inr waiting) fits).trans (giveStall_waiting waiting)⟩⟩

/-! ## The search of a field (R28) -/

theorem fits_iff (c : VehicleClass) (k : StallKind) : c.fits k = true ↔ c = .car ∨ k = .high := by
  cases c <;> simp [VehicleClass.fits]

theorem searchStalls_clean {l : List (Fin 1024)} {s : State} (h : ∀ i ∈ l, s.stallClean i) :
    s.searchStalls l = (l.find? fun i => decide (s.stallState i = .free), s) := by
  induction l with
  | nil => rfl
  | cons i rest ih =>
    have read := readStall_clean (h i List.mem_cons_self)
    have others := ih fun j hj => h j (List.mem_cons_of_mem i hj)
    simp only [State.searchStalls, read, List.find?_cons]
    by_cases free : s.stallState i = .free
    · rw [if_pos (by exact free), decide_eq_true free]
    · rw [if_neg (by exact free), decide_eq_false free, others]

theorem stallsOf_subset {n : Fin 6} {kinds all : List StallKind} (l : LotMap) (h : ∀ k ∈ kinds, k ∈ all) :
    ∀ i ∈ l.stallsOf n kinds, i ∈ l.stallsOf n all := by
  unfold LotMap.stallsOf
  split
  · exact fun i hi => hi
  · intro i hi
    simp only [List.mem_map, List.mem_filter, List.contains_iff_mem] at hi ⊢
    obtain ⟨k, ⟨range, kind⟩, rfl⟩ := hi
    exact ⟨k, ⟨range, h _ kind⟩, rfl⟩

/-- The lowest FREE stall of the kinds that have a FREE tally. -/
def freeStall (s : State) (n : Fin 6) (kinds : List StallKind) : Option (Fin 1024) :=
  (s.lot.stallsOf n (kinds.filter fun k => 0 < s.lot.tally n k .free)).find? fun i => s.stallState i = .free

theorem searchKinds_clean {n : Fin 6} {kinds : List StallKind} {s : State}
    (h : ∀ i ∈ s.lot.stallsOf n [.front, .standard, .high], s.stallClean i) :
    s.searchKinds n kinds = (freeStall s n kinds, s) :=
  searchStalls_clean fun i hi => h i (stallsOf_subset s.lot (fun k _ => by cases k <;> decide) i hi)

section

variable {n : Fin 6} {s : State} (h : ∀ i ∈ s.lot.stallsOf n [.front, .standard, .high], s.stallClean i)

include h

theorem searchField_tall : s.searchField n .tall = (freeStall s n [.high], s) := searchKinds_clean h

theorem searchField_car :
    s.searchField n .car = ((freeStall s n [.front, .standard] <|> freeStall s n [.high]), s) := by
  simp only [State.searchField, searchKinds_clean h]
  cases freeStall s n [.front, .standard] with
  | none => exact searchKinds_clean h
  | some i => rfl

end

/-! ## The allocation (R26 to R28) -/

section

variable {screen : Byte} {n m : Fin 6} {stall : Word16} {c : VehicleClass} {s u : State} {i : Fin 1024} {x : Stall}

theorem readStall_occupants (hr : s.readStall i = (x, u)) : u.lot.occupants = s.lot.occupants := by
  have kept := (readStall_lotKeeps i s).2.1
  rwa [hr] at kept

theorem searchStalls_keeps (l : List (Fin 1024)) (s : State) : (s.searchStalls l).2.lot.fields = s.lot.fields ∧
    (s.searchStalls l).2.lot.queues = s.lot.queues := by
  induction l generalizing s with
  | nil => exact ⟨rfl, rfl⟩
  | cons i rest ih =>
    obtain ⟨fields, -, queues⟩ := readStall_lotKeeps i s
    have others := ih (s.readStall i).2
    unfold State.searchStalls
    dsimp only
    split
    · exact ⟨fields, queues⟩
    · exact ⟨others.1.trans fields, others.2.trans queues⟩

theorem searchField_keeps (n : Fin 6) (c : VehicleClass) (s : State) :
    (s.searchField n c).2.lot.fields = s.lot.fields ∧ (s.searchField n c).2.lot.queues = s.lot.queues := by
  have search (kinds : List StallKind) (s : State) : (s.searchKinds n kinds).2.lot.fields = s.lot.fields ∧
    (s.searchKinds n kinds).2.lot.queues = s.lot.queues := searchStalls_keeps _ s
  cases c with
  | tall => exact search _ s
  | car =>
    have low := search [.front, .standard] s
    unfold State.searchField
    generalize s.searchKinds n [.front, .standard] = r at *
    obtain ⟨i, u⟩ := r
    cases i with
    | some i => exact low
    | none => exact ⟨(search _ u).1.trans low.1, (search _ u).2.trans low.2⟩

theorem allocate_badName {status : Status} (h : stall ≠ 0) (hn : s.lot.named screen stall = .error status) :
    s.allocate screen n stall c = (.refused status, s) := by
  simp only [State.allocate, if_neg h, hn]

theorem allocate_named (h : stall ≠ 0) (hn : s.lot.named screen stall = .ok (m, i)) (hr : s.readStall i = (x, u)) :
    s.allocate screen n stall c = (if x.state s.lot.occupants[i] = .free ∧ (c = .car ∨ x.kind = .high) then .stall i
      else .refused .badParam, u) := by
  simp only [State.allocate, if_neg h, hn, hr, readStall_occupants hr, fits_iff]

theorem allocate_found (h : stall = 0) (hs : s.searchField n c = (some i, u)) :
    s.allocate screen n stall c = (.stall i, u) := by
  simp only [State.allocate, if_pos h, hs]

theorem allocate_notFound (h : stall = 0) (hs : s.searchField n c = (none, u)) : s.allocate screen n stall c =
    (if s.lot.queues[n].length < s.lot.capacity n then .queued else .refused .full, u) := by
  obtain ⟨fields, queues⟩ := searchField_keeps n c s
  rw [hs] at fields queues
  dsimp only at fields queues
  simp only [State.allocate, if_pos h, hs, LotMap.capacity, fields, queues]
  rfl

end

/-- Settles O20: the allocation by the name, the read and the search, and the search of a field that reads clean. -/
theorem allocation : Obligations.Allocation := by
  refine ⟨fun screen n stall c s => ⟨fun h status => allocate_badName h, fun m i x u h hn hr => ⟨fun free fits => ?_,
    fun bad => ?_⟩, fun i u => allocate_found, fun u h hs => ⟨fun room => ?_, fun full => ?_⟩⟩,
    fun n s clean => ⟨searchField_car clean, searchField_tall clean⟩⟩
  · rw [allocate_named h hn hr, if_pos ⟨free, fits⟩]
  · rw [allocate_named h hn hr, if_neg]
    rintro ⟨free, fits⟩
    rcases bad with taken | ⟨rfl, low⟩
    · exact taken free
    · exact fits.elim (by simp) low
  · rw [allocate_notFound h hs, if_pos room]
  · rw [allocate_notFound h hs, if_neg (Nat.not_lt.mpr full)]

/-! ## CLOSE_STALL and OPEN_STALL (R35, R36) -/

section

variable {screen : Byte} {stall : Word16} {s t u : State} {status : Status} {n : Fin 6} {i : Fin 1024}
  {x y : Stall} {o : Option Occupant}

theorem closeStall_badName (h : s.lot.named screen stall = .error status) :
    closeStall screen stall s = s.refuse status := by
  simp only [closeStall, h]

theorem openStall_badName (h : s.lot.named screen stall = .error status) :
    openStall screen stall s = s.refuse status := by
  simp only [openStall, h]

theorem state_free (h : x.state o = .free) : o = none := by
  match o with
  | none => rfl
  | some ⟨_, .reservation⟩ => cases h
  | some ⟨_, .occupation⟩ => cases h

/-- The state of a stall that is held does not go by its close fields. -/
theorem state_held {st : StallState} (h : x.state o = st) (hst : st = .reserved ∨ st = .occupied) (y : Stall) :
    y.state o = st := by
  match o with
  | none =>
    simp only [Stall.state] at h
    split at h <;> rcases hst with rfl | rfl <;> cases h
  | some ⟨_, .reservation⟩ => exact h
  | some ⟨_, .occupation⟩ => exact h

theorem stallAnswer_eq (hs : t.stall i = y) (ho : t.lot.occupants = s.lot.occupants) :
    t.stallAnswer i = t.ok [byte1 (y.state s.lot.occupants[i]).number, flagByte y.closePending] := by
  rw [State.stallAnswer, State.stallState, hs, ho]

section

variable (hn : s.lot.named screen stall = .ok (n, i)) (hr : s.readStall i = (x, u))

theorem stall_of_readStall (hr : s.readStall i = (x, u)) : u.stall i = x := by
  have read := stall_readStall i s
  rwa [hr] at read

/-- The answer after a write of the close fields. -/
theorem stallAnswer_writeStall (hr : s.readStall i = (x, u)) (f : Stall → Stall) : (u.writeStall i f).stallAnswer i =
    (u.writeStall i f).ok [byte1 ((f x).state u.lot.occupants[i]).number, flagByte (f x).closePending] :=
  stallAnswer_eq (by rw [writeStall_stall, stall_of_readStall hr]) (writeStall_occupants i u f)

theorem stallAnswer_read (hr : s.readStall i = (x, u)) :
    u.stallAnswer i = u.ok [byte1 (x.state u.lot.occupants[i]).number, flagByte x.closePending] :=
  stallAnswer_eq (stall_of_readStall hr) rfl

include hn hr

theorem closeStall_free (h : x.state u.lot.occupants[i] = .free) : closeStall screen stall s =
    (u.writeStall i fun y => { y with closed := true, cause := some .operator }).ok [1, flagByte x.closePending] := by
  have empty := state_free h
  simp only [closeStall, hn, hr, h, stallAnswer_writeStall hr]
  rw [empty]
  rfl

theorem closeStall_held {st : StallState} (hst : st = .reserved ∨ st = .occupied)
    (h : x.state u.lot.occupants[i] = st) : closeStall screen stall s =
      (if x.closePending then u else u.writeStall i fun y => { y with closePending := true }).ok
        [byte1 st.number, 1] := by
  have held := state_held h hst { x with closePending := true }
  have answered : closeStall screen stall s = (if x.closePending then u
      else u.writeStall i fun y => { y with closePending := true }).stallAnswer i := by
    rcases hst with rfl | rfl <;> simp only [closeStall, hn, hr, h]
  rw [answered]
  split
  next pending => rw [stallAnswer_read hr, h, pending]; rfl
  next => rw [stallAnswer_writeStall hr, held]; rfl

theorem closeStall_closed (h : x.state u.lot.occupants[i] = .closed) :
    closeStall screen stall s = u.ok [1, flagByte x.closePending] := by
  simp only [closeStall, hn, hr, h, stallAnswer_read hr]
  rfl

theorem openStall_closed (h : x.state u.lot.occupants[i] = .closed) : openStall screen stall s =
    let v := u.writeStall i fun y => { y with closed := false, cause := none }
    let w := v.examineQueue i x.kind v.lot.queues[x.screen]
    w.ok [byte1 (w.stallState i).number, flagByte (w.stall i).closePending] := by
  simp only [openStall, hn, hr, h, State.stallAnswer]

theorem openStall_held {st : StallState} (hst : st = .reserved ∨ st = .occupied)
    (h : x.state u.lot.occupants[i] = st) : openStall screen stall s =
      (if x.closePending then u.writeStall i fun y => { y with closePending := false } else u).ok
        [byte1 st.number, 0] := by
  have held := state_held h hst { x with closePending := false }
  have answered : openStall screen stall s = (if x.closePending then
      u.writeStall i fun y => { y with closePending := false } else u).stallAnswer i := by
    rcases hst with rfl | rfl <;> simp only [openStall, hn, hr, h]
  rw [answered]
  split
  next => rw [stallAnswer_writeStall hr, held]; rfl
  next clear => rw [stallAnswer_read hr, h, eq_false_of_ne_true clear]; rfl

theorem openStall_free (h : x.state u.lot.occupants[i] = .free) :
    openStall screen stall s = u.ok [2, flagByte x.closePending] := by
  simp only [openStall, hn, hr, h, stallAnswer_read hr]
  rfl

end

end

/-- Settles O18: both commands by the state of the stall as read. -/
theorem stallCommands : Obligations.StallCommands := by
  refine fun screen stall s => ⟨fun status h => ⟨fun ht => next_command_of_block ht (closeStall_badName h),
    fun ht => next_command_of_block ht (openStall_badName h)⟩, fun n i x u hn hr => ⟨fun ht => ?closing, fun ht => ?opening⟩⟩
  case closing =>
    exact ⟨fun h => next_command_of_block ht (closeStall_free hn hr h),
      fun st hst h => next_command_of_block ht (closeStall_held hn hr hst h),
      fun h => next_command_of_block ht (closeStall_closed hn hr h)⟩
  case opening =>
    exact ⟨fun h => next_command_of_block ht (openStall_closed hn hr h),
      fun st hst h => next_command_of_block ht (openStall_held hn hr hst h),
      fun h => next_command_of_block ht (openStall_free hn hr h)⟩

/-! ## LOOKUP_STALL and READ_FIELD (R37) -/

section

variable {screen : Byte} {stall : Word16} {s u : State} {n : Fin 6}

theorem lookupStall_badName {status : Status} (h : s.lot.named screen stall = .error status) :
    lookupStall screen stall s = s.refuse status := by
  simp only [lookupStall, h]

/-- The 14 bytes of a stall as read (R37). -/
def stallBytes (i : Fin 1024) (x : Stall) (u : State) : List Byte :=
  bytes2 x.number ++ [numberByte x.screen, byte1 x.row, byte1 x.position, byte1 x.kind.number] ++ bytes2 i.val ++
    [byte1 (x.state u.lot.occupants[i]).number] ++ optAdmHandle (u.occupantHandle i) ++
    [flagByte x.closePending, byte1 ((x.cause.map CloseCause.number).getD 0)]

theorem lookupStall_read {i : Fin 1024} {x : Stall} (hn : s.lot.named screen stall = .ok (n, i))
    (hr : s.readStall i = (x, u)) : lookupStall screen stall s = u.ok (stallBytes i x u) := by
  simp only [lookupStall, hn, hr, stallBytes]

theorem occupantBytes_eq (i : Fin 1024) (u : State) : optAdmHandle (u.occupantHandle i) =
    match u.lot.occupants[i] with
    | none => [0, 0, 0]
    | some o => 1 :: (u.admHandle o.slot).bytes := by
  unfold State.occupantHandle
  cases u.lot.occupants[i] <;> rfl

theorem readField_noLayout (h : s.lot.loaded = false) : readField screen s = s.refuse .badState := by
  simp [readField, h]

theorem readField_badScreen (h : s.lot.loaded = true) (hs : ¬ (1 ≤ screen.toNat ∧ screen.toNat ≤ 6)) :
    readField screen s = s.refuse .badParam := by
  simp [readField, h, numbered_none hs]

theorem readField_screen (h : s.lot.loaded = true) (hs : screen.toNat = n.val + 1) : readField screen s =
    s.ok (s.lot.fieldBytes n ++ s.lot.tallyBytes n ++
      listBytes 8 2 (fun a => (s.admHandle a).bytes) s.lot.queues[n]) := by
  simp [readField, h, numbered_eq hs]

theorem fieldBytes_some {f : Field} (l : LotMap) (h : l.fields[n] = some f) : l.fieldBytes n =
    [byte1 (n.val + 1), byte1 f.rowCount, byte1 f.pattern.number, byte1 (f.home.val + 1), byte1 f.capacity,
      if f.ordersDuringFeature then 1 else 0] ++ bytes2 f.stallCount ++ bytes2 f.firstIndex := by
  unfold LotMap.fieldBytes
  rw [h]
  rfl

theorem fieldBytes_none (l : LotMap) (h : l.fields[n] = none) :
    l.fieldBytes n = byte1 (n.val + 1) :: List.replicate 9 0 := by
  unfold LotMap.fieldBytes
  rw [h]
  rfl

theorem length_fieldBytes (l : LotMap) (n : Fin 6) : (l.fieldBytes n).length = 10 := by
  cases h : l.fields[n] with
  | none => rw [fieldBytes_none l h]; rfl
  | some f => rw [fieldBytes_some l h]; rfl

theorem length_readField (h : s.lot.queues[n].length ≤ 8) : (s.lot.fieldBytes n ++ s.lot.tallyBytes n ++
    listBytes 8 2 (fun a => (s.admHandle a).bytes) s.lot.queues[n]).length = 43 := by
  have tallies : (s.lot.tallyBytes n).length = 16 := rfl
  have queue := length_listBytes (enc := fun a => (s.admHandle a).bytes) (width := 2) (fun _ _ => rfl) h
  rw [List.length_append, List.length_append, length_fieldBytes, tallies, queue]

end

/-- Settles O21: both lookups by their checks, and the bytes of their formats. -/
theorem lotLookups : Obligations.LotLookups := by
  refine ⟨fun p screen stall s ht => ⟨fun status h => next_command_of_block ht (lookupStall_badName h),
    fun n i x u hn hr => ?_⟩, fun screen s ht => ⟨fun h => next_command_of_block ht (readField_noLayout h),
    fun h hs => next_command_of_block ht (readField_badScreen h hs), fun h n hs =>
      ⟨next_command_of_block ht (readField_screen h hs), length_readField, fun f => fieldBytes_some s.lot,
        fieldBytes_none s.lot, rfl⟩⟩⟩
  have answered := next_command_of_block ht (lookupStall_read hn hr)
  unfold stallBytes at answered
  rw [occupantBytes_eq] at answered
  exact answered

end Sys2Proof.Lot
end

section
/-!
SUPPORT. The changes of displays, order windows, shows, sounds and channels keep the invariants (R67, R87, R128).
-/

namespace Sys2Proof.Invariants

open Sys2Proof Sys2Proof.Machine Sys2Proof.NightUnit

/-! The defaults below are tactic blocks; the proofs are elaborated in order, or each would hold a thread that waits for
those before it. -/

set_option Elab.async false

variable {s t u : State}

/-! ## Displays (R101, R102) -/

theorem kept_showSound (n : Fin 6) (s : State) : Kept s (s.showSound n) :=
  kept_each (fun _ _ => by exact kept_modDisp _ _) _ s

theorem kept_queueRows (n : Fin 6) (s : State) : Kept s (s.queueRows n) :=
  kept_each (fun _ _ => by exact kept_modDisp _ _) _ s

theorem kept_showAllWords (s : State) : Kept s s.showAllWords :=
  kept_each (fun _ _ => by exact kept_modDisp _ _) _ s

/-! ## Order windows recomputed (R128) -/

/-- The other windows as their conditions say, the recomputed one joins them. -/
theorem windowsGood_recomputeWindow {n : Fin 6} (others : ∀ m, n ≠ m → s.ords.windows[m] = s.windowCondition m)
    (night : s.sys.phase ≠ .running → s.night.state = .closed) : (s.recomputeWindow n).windowsGood := by
  have frame := recomputeWindow_windowFrame n s
  refine ⟨fun m => ?_, by rw [frame]; exact night⟩
  rw [recomputeWindow_windows, EquipmentDomains.windowFrame_windowCondition frame]
  split
  next same => rw [same]
  next other => exact others m other

theorem windowsGood_recomputeWindows (night : s.sys.phase ≠ .running → s.night.state = .closed) :
    s.recomputeWindows.windowsGood := by
  have frame := recomputeWindows_windowFrame s
  refine ⟨fun m => ?_, by rw [frame]; exact night⟩
  rw [EquipmentDomains.recomputeWindows_windows, EquipmentDomains.windowFrame_windowCondition frame]

/-- A change that keeps all but the windows, followed by one of the windows that makes them good. -/
theorem kept_of_windowFrame (apart : KeptApart s u) (frame : WindowFrame u t) (h : s.windowsGood → t.windowsGood) :
    Kept s t where
  attention g := by rw [frame]; exact apart.attention g
  projector g := by rw [frame]; exact apart.projector g
  stop g := by rw [frame]; exact apart.stop g
  codes g := by rw [frame]; exact apart.codes g
  barriers g := by rw [frame]; exact apart.barriers g
  limits g := by rw [frame]; exact apart.limits g
  marks g := by rw [frame]; exact apart.marks g
  windows := h

/-- Every window recomputed after a change that keeps all else. -/
theorem kept_recomputeWindows (apart : KeptApart s u)
    (night : s.windowsGood → u.sys.phase ≠ .running → u.night.state = .closed) : Kept s u.recomputeWindows :=
  kept_of_windowFrame apart (recomputeWindows_windowFrame u) fun good => windowsGood_recomputeWindows (night good)

/-- The show state of a screen is all that its window looks at in the shows. -/
theorem windowCondition_of_state {m : Fin 6} (hn : t.night.state = s.night.state) (hd : t.active kitchen = s.active kitchen) (hl : t.lot = s.lot)
    (h : t.shows.screens[m].state = s.shows.screens[m].state) : t.windowCondition m = s.windowCondition m := by
  unfold State.windowCondition
  rw [hn, hd, hl, h]

/-! ## Shows (R67) -/

/-- A change of a screen that keeps its show state keeps that of every screen. -/
theorem modScreen_state (n : Fin 6) {f : Screen → Screen} (h : ∀ c : Screen, (f c).state = c.state) (s : State)
    (m : Fin 6) : (s.modScreen n f).shows.screens[m].state = s.shows.screens[m].state := by
  simp only [modScreen_shows, upd_get]
  split
  next same => rw [h, same]
  next => rfl

/-- A change of a screen that keeps its show state and lines. -/
theorem kept_modScreen (n : Fin 6) {f : Screen → Screen} (s : State)
    (h : ∀ c : Screen, (f c).state = c.state ∧ (f c).runReq = c.runReq ∧ (f c).pauseReq = c.pauseReq :=
      by exact fun _ => ⟨rfl, rfl, rfl⟩) : Kept s (s.modScreen n f) where
  projector good m := by
    simp only [modScreen_shows, upd_get]
    split
    next same =>
      subst same
      obtain ⟨state, run, pause⟩ := h s.shows.screens[n]
      rw [state, run, pause]
      exact good n
    next => exact good m
  windows := fun ⟨windows, night⟩ => ⟨fun m => (windows m).trans (Eq.symm
    (windowCondition_of_state (congrArg Night.state (modScreen_night n f s)) rfl (modScreen_lot n f s)
      (modScreen_state n (fun c => (h c).1) s m))), night⟩

theorem projectorLinesGood_enter (n : Fin 6) (x : ShowState) (h : s.projectorLinesGood) :
    (s.modScreen n (Screen.enter x)).projectorLinesGood := by
  intro m
  simp only [modScreen_shows, upd_get]
  split
  · exact ⟨rfl, rfl⟩
  · exact h m

theorem kept_setShow (n : Fin 6) (x : ShowState) (s : State) : Kept s (s.setShow n x) := by
  unfold State.setShow
  split
  · exact kept_refl s
  refine kept_of_windowFrame (u := (s.modScreen n (Screen.enter x)).raiseBooth .showState)
    { attention := (kept_raiseBooth _ s).attention, projector := projectorLinesGood_enter n x }
    (recomputeWindow_windowFrame n _) fun ⟨windows, night⟩ => windowsGood_recomputeWindow (fun m other => ?_) night
  have same : ((s.modScreen n (Screen.enter x)).raiseBooth .showState).shows.screens[m] = s.shows.screens[m] :=
    upd_get_other _ n m _ other
  exact (windows m).trans (windowCondition_of_state (t := (s.modScreen n (Screen.enter x)).raiseBooth .showState)
    (s := s) rfl rfl rfl (congrArg Screen.state same)).symm

theorem kept_addHold (n : Fin 6) (r : HoldReason) (s : State) : Kept s (s.addHold n r) := by
  unfold State.addHold
  split
  · exact kept_trans (kept_modScreen n s) (kept_setShow n _ _)
  · exact kept_refl s

theorem kept_removeHold (n : Fin 6) (r : HoldReason) (s : State) : Kept s (s.removeHold n r) := by
  unfold State.removeHold
  dsimp only
  split
  · have emptied := kept_modScreen (f := fun c => { c with reasons := c.reasons.set r false }) n s
    split
    · exact kept_trans emptied (kept_setShow n _ _)
    · exact emptied
  · exact kept_refl s

theorem kept_enterSegment (n : Fin 6) (k : Nat) (s : State) : Kept s (s.enterSegment n k) := by
  unfold State.enterSegment
  dsimp only
  split
  · exact kept_trans (kept_modScreen n s) (kept_setShow n _ _)
  · exact kept_modScreen n s

theorem kept_beginShow (n : Fin 6) (s : State) : Kept s (s.beginShow n) := by
  have entered := kept_trans
    (kept_modScreen (f := fun c => { c with startTimer := none, start := some s.night.clock }) n s)
    (kept_enterSegment n 1 _)
  unfold State.beginShow
  dsimp only
  split
  · exact kept_trans entered (kept_addHold n _ _)
  · exact entered

theorem kept_examineStart (n : Fin 6) (s : State) : Kept s (s.examineStart n) := by
  have started := kept_trans
    (kept_modScreen (f := fun c => { c with current := some 1, startTimer := seconds s.shows.startTimeout }) n s)
    (kept_setShow n .starting _)
  unfold State.examineStart
  dsimp only
  split
  · split
    · exact kept_trans started (kept_beginShow n _)
    · exact started
  · exact kept_refl s

theorem kept_abandonStart (n : Fin 6) (s : State) : Kept s (s.abandonStart n) := by
  unfold State.abandonStart
  split
  · exact kept_trans (kept_trans (kept_modScreen n s) (kept_setShow n _ _))
      (kept_examineStart n _)
  · exact kept_refl s

theorem kept_domainLost (n : Fin 6) (s : State) : Kept s (s.domainLost n) :=
  kept_trans (kept_abandonStart n s) (kept_addHold n _ _)

theorem kept_soundTaken (n : Fin 6) (s : State) : Kept s (s.soundTaken n) := by
  unfold State.soundTaken
  split
  · split
    · exact kept_examineStart n s
    · exact kept_removeHold n _ s
    · exact kept_refl s
  · exact kept_examineStart n s
  · exact kept_domainLost n s
  · exact kept_domainLost n s

/-! ## Sounds and channels (R87 to R99) -/

/-- A change of a sound record after which CHSEL follows the sound again. -/
theorem kept_modSound (n : Fin 6) {f : SoundRecord → SoundRecord} (s : State)
    (h : ∀ r : SoundRecord, r.chsel = r.sound.code → (f r).chsel = (f r).sound.code := by exact fun _ h => h) :
    Kept s (s.modSound n f) where
  codes good m := by
    simp only [modSound_chans, upd_get]
    split
    next same => subst same; exact h _ (good n)
    next => exact good m

theorem qualify_code (faultTime : Nat) (r : SoundRecord) :
    (r.qualify faultTime).chsel = r.chsel ∧ (r.qualify faultTime).sound = r.sound := by
  unfold SoundRecord.qualify
  split <;> exact ⟨rfl, rfl⟩

theorem enter_code (x : Sound) (faultTime : Nat) (r : SoundRecord) :
    (r.enter x faultTime).chsel = x.code ∧ (r.enter x faultTime).sound = x := by
  unfold SoundRecord.enter
  dsimp only
  split
  · split
    · exact qualify_code faultTime _
    · exact qualify_code faultTime _
  · exact ⟨rfl, rfl⟩

theorem takeLine_code (faultTime : Nat) (r : SoundRecord) :
    (r.takeLine faultTime).chsel = r.chsel ∧ (r.takeLine faultTime).sound = r.sound := by
  unfold SoundRecord.takeLine
  split
  · split
    · exact ⟨rfl, rfl⟩
    · exact qualify_code faultTime r
  · exact ⟨rfl, rfl⟩

theorem kept_setChannel (c : Fin 12) (x : ChannelState) (s : State) : Kept s (s.setChannel c x) := {}

theorem kept_setSound (n : Fin 6) (x : Sound) (s : State) : Kept s (s.setSound n x) := by
  refine kept_trans (kept_trans (kept_modSound n s fun r _ => ?_) (kept_soundTaken n _)) (kept_showSound n _)
  obtain ⟨code, sound⟩ := enter_code x s.chans.faultTime r
  rw [code, sound]

theorem kept_takeChannel (n : Fin 6) (c : Fin 12) (s : State) : Kept s (s.takeChannel n c) :=
  kept_trans (kept_setChannel c _ s) (kept_setSound n _ _)

theorem kept_offer (c : Fin 12) (s : State) : Kept s (s.offer c) := by
  unfold State.offer
  split
  · split
    · exact kept_takeChannel _ c s
    · exact kept_refl s
  · exact kept_refl s

theorem kept_acquire (n : Fin 6) (s : State) : Kept s (s.acquire n) := by
  unfold State.acquire
  split
  · exact kept_takeChannel n _ s
  · exact kept_trans (kept_setSound n _ s) (kept_raiseBooth _ _)

/-- The announce timer of a screen stopped or started. -/
theorem kept_announceTimer (n : Fin 6) (t : Timer) (s : State) :
    Kept s (s.modSound n fun r => { r with announceTimer := t }) :=
  kept_modSound n s

theorem kept_giveUp (n : Fin 6) (s : State) : Kept s (s.giveUp n) := by
  unfold State.giveUp
  split
  next c _ => exact kept_trans (kept_trans (kept_setChannel c _ s) (kept_setSound n _ _)) (kept_offer c _)
  next c next _ _ =>
    have freed : Kept s ((((s.setChannel c .free).setChannel next .free).modSound n fun r =>
        { r with announceTimer := none }).setSound n .off) :=
      kept_trans (kept_trans (kept_trans (kept_setChannel c _ s) (kept_setChannel next _ _))
        (kept_announceTimer n none _)) (kept_setSound n _ _)
    dsimp only
    split
    · exact kept_trans freed (kept_trans (kept_offer c _) (kept_offer next _))
    · exact kept_trans freed (kept_trans (kept_offer next _) (kept_offer c _))
  next => exact kept_setSound n _ s
  next => exact kept_refl s

theorem kept_updateWanting (n : Fin 6) (s : State) : Kept s (s.updateWanting n) := by
  have wanting (b : Bool) : Kept s (s.modSound n fun r => { r with wanting := b }) := kept_modSound n s
  unfold State.updateWanting
  split
  · exact kept_refl s
  · split
    · exact kept_trans (wanting true) (kept_acquire n _)
    · exact kept_trans (wanting false) (kept_giveUp n _)

theorem kept_quarantine (c : Fin 12) (s : State) : Kept s (s.quarantine c) := kept_setChannel c _ s

theorem kept_announceChannel (n : Fin 6) (c next : Fin 12) (cause : RetuneCause) (s : State) :
    Kept s (s.announceChannel n c next cause) :=
  kept_trans (kept_trans (kept_setChannel next _ s) (kept_announceTimer n _ _)) (kept_setSound n _ _)

theorem kept_loseSound (n : Fin 6) (c : Fin 12) (s : State) : Kept s (s.loseSound n c) :=
  kept_trans (kept_trans (kept_trans (kept_quarantine c s) (kept_announceTimer n _ _)) (kept_setSound n _ _))
    (kept_raiseBooth _ _)

/-- A sound replaced by one with the same code (R94). -/
theorem kept_carrierFaultAt (n : Fin 6) (s : State) : Kept s (s.carrierFaultAt n) := by
  unfold State.carrierFaultAt
  split
  · split
    · exact kept_announceChannel n _ _ _ s
    · exact kept_loseSound n _ s
  next c next cause sound =>
    exact
      { codes := fun good m => by
          simp only [modSound_chans, upd_get]
          split
          next same =>
            subst same
            rw [good n, sound]
            rfl
          next => exact good m }
  · exact kept_refl s
  · exact kept_refl s

theorem kept_announcedQuarantined (n : Fin 6) (c next : Fin 12) (cause : RetuneCause) (s : State) :
    Kept s (s.announcedQuarantined n c next cause) := by
  have quarantined := kept_quarantine next s
  unfold State.announcedQuarantined
  dsimp only
  split
  · exact kept_trans quarantined (kept_announceChannel n _ _ _ _)
  · cases cause with
    | operator =>
      exact kept_trans (kept_trans (kept_trans quarantined (kept_announceTimer n _ _)) (kept_setSound n _ _))
        (kept_raiseBooth _ _)
    | carrier => exact kept_trans quarantined (kept_loseSound n c _)

theorem kept_switchChannel (n : Fin 6) (c next : Fin 12) (cause : RetuneCause) (s : State) :
    Kept s (s.switchChannel n c next cause) := by
  have taken := kept_trans (kept_setChannel next (.held n .live) s) (kept_announceTimer n none _)
  unfold State.switchChannel
  dsimp only
  cases cause with
  | carrier =>
    exact kept_trans (kept_trans (kept_trans taken (kept_quarantine c _)) (kept_setSound n _ _)) (kept_raiseBooth _ _)
  | operator =>
    exact kept_trans (kept_trans (kept_trans (kept_trans taken (kept_setChannel c _ _)) (kept_setSound n _ _))
      (kept_offer c _)) (kept_raiseBooth _ _)

end Sys2Proof.Invariants
end

section
/-!
SUPPORT. The operations of the lot, of the order table and of the closing of the night keep the invariants (chapters 2
and 7, R79, R80, R162).
-/

namespace Sys2Proof.Invariants

open Sys2Proof Sys2Proof.Machine Sys2Proof.NightUnit

/-! The defaults below are tactic blocks; the proofs are elaborated in order, or each would hold a thread that waits for
those before it. -/

set_option Elab.async false

variable {s t u : State}

/-! ## Stalls (R8, R9, R24, R25, R38) -/

theorem kept_markStall (i : Fin 1024) (s : State) : Kept s (s.markStall i) :=
  kept_trans (kept_trans (kept_modMem s) (kept_event _ _ _)) (kept_raiseDamaged _)

theorem kept_recount (i : Fin 1024) (st : StallState) (s : State) : Kept s (s.modLot (LotMap.recount i st)) :=
  kept_modLot s (Lot.recount_keeps i st s.lot).1

theorem kept_rebuildStall (i : Fin 1024) (s : State) : Kept s (s.rebuildStall i) :=
  kept_trans (kept_modMem s) (kept_recount i _ _)

theorem kept_readStall (i : Fin 1024) (s : State) : Kept s (s.readStall i).2 := by
  unfold State.readStall
  dsimp only
  split
  · exact kept_refl s
  · exact kept_trans (kept_modStallSlot i _ s) (kept_event _ _ _)
  · exact kept_trans (kept_markStall i s) (kept_rebuildStall i _)

theorem kept_writeStall (i : Fin 1024) (f : Stall → Stall) (s : State) : Kept s (s.writeStall i f) :=
  kept_trans (kept_modStallSlot i _ s) (kept_recount i _ _)

theorem kept_holdStall (i a : Fin 1024) (hold : Hold) (s : State) : Kept s (s.holdStall i a hold) :=
  kept_modLot s (Lot.recount_keeps i _ _).1

theorem kept_leaveQueue (a : Fin 1024) (s : State) : Kept s (s.modLot (LotMap.leaveQueue a)) := kept_modLot s

/-! ## Release and allocation (R26 to R33) -/

theorem kept_giveStall (i a : Fin 1024) (x : Admission) (s : State) : Kept s (s.giveStall i a x) := by
  have left (hold : Hold) := kept_trans (kept_leaveQueue a s) (kept_holdStall i a hold _)
  unfold State.giveStall
  dsimp only
  split
  · exact kept_trans (left .reservation) (kept_writeAdm a _ _)
  · exact kept_trans (kept_trans (left .occupation) (kept_writeAdm a _ _)) (kept_raiseBooth _ _)

theorem kept_examineQueue (i : Fin 1024) (kind : StallKind) (l : List (Fin 1024)) (s : State) :
    Kept s (s.examineQueue i kind l) := by
  induction l generalizing s with
  | nil => exact kept_refl s
  | cons a rest ih =>
    have read := kept_readAdm a s
    unfold State.examineQueue
    generalize s.readAdm a = r at *
    obtain ⟨x, u⟩ := r
    cases x with
    | none => exact kept_trans read (ih u)
    | some x =>
      dsimp only
      split
      · exact kept_trans read (kept_giveStall i a x u)
      · exact kept_trans read (ih u)

theorem kept_emptied (i : Fin 1024) (s : State) :
    Kept s (s.modLot fun l => { l with occupants := upd l.occupants i fun _ => none }) := kept_modLot s

theorem kept_releaseStall (i : Fin 1024) (s : State) : Kept s (s.releaseStall i) := by
  have read := kept_trans (kept_emptied i s) (kept_readStall i _)
  unfold State.releaseStall
  dsimp only
  split
  · exact kept_trans read (kept_writeStall i _ _)
  · split
    · exact read
    · exact kept_trans (kept_trans read (kept_writeStall i _ _)) (kept_examineQueue i _ _ _)

theorem kept_searchStalls (l : List (Fin 1024)) (s : State) : Kept s (s.searchStalls l).2 := by
  induction l generalizing s with
  | nil => exact kept_refl s
  | cons i rest ih =>
    unfold State.searchStalls
    dsimp only
    split
    · exact kept_readStall i s
    · exact kept_trans (kept_readStall i s) (ih _)

theorem kept_searchField (n : Fin 6) (c : VehicleClass) (s : State) : Kept s (s.searchField n c).2 := by
  have search (kinds : List StallKind) (s : State) : Kept s (s.searchKinds n kinds).2 := kept_searchStalls _ s
  cases c with
  | tall => exact search _ s
  | car =>
    have low := search [.front, .standard] s
    unfold State.searchField
    generalize s.searchKinds n [.front, .standard] = r at *
    obtain ⟨i, u⟩ := r
    cases i with
    | some i => exact low
    | none => exact kept_trans low (search _ u)

theorem kept_allocate (screen : Byte) (n : Fin 6) (stall : Word16) (c : VehicleClass) (s : State) :
    Kept s (s.allocate screen n stall c).2 := by
  have search := kept_searchField n c s
  unfold State.allocate
  split
  · generalize s.searchField n c = r at *
    obtain ⟨i, u⟩ := r
    cases i <;> exact search
  · split
    · exact kept_refl s
    · exact kept_readStall _ s

theorem kept_offerReturn (a : Fin 1024) (s : State) : Kept s (s.offerReturn a) := by
  have read := kept_readAdm a s
  unfold State.offerReturn
  split
  · exact kept_refl s
  next n _ =>
    generalize s.readAdm a = r at *
    obtain ⟨x, u⟩ := r
    cases x with
    | none => exact read
    | some x =>
      have searched := kept_trans read (kept_searchField n x.cls u)
      dsimp only
      generalize u.searchField n x.cls = q at *
      obtain ⟨i, v⟩ := q
      cases i with
      | none => exact searched
      | some i => exact kept_trans searched (kept_giveStall i a _ v)

theorem kept_leavePlace (a : Fin 1024) (s : State) : Kept s (s.leavePlace a) := by
  unfold State.leavePlace
  split
  · exact kept_trans (kept_leaveQueue a s) (kept_releaseStall _ _)
  · exact kept_leaveQueue a s

/-! ## The commands of the lot (R35 to R37) -/

theorem kept_closeStall (screen : Byte) (stall : Word16) (s : State) : Kept s (closeStall screen stall s).state := by
  unfold closeStall
  split
  · exact kept_refl s
  next i _ =>
    have read := kept_readStall i s
    dsimp only [State.stallAnswer, ok_state]
    split
    · exact kept_trans read (kept_writeStall i _ _)
    · split
      · exact read
      · exact kept_trans read (kept_writeStall i _ _)
    · split
      · exact read
      · exact kept_trans read (kept_writeStall i _ _)
    · exact read

theorem kept_openStall (screen : Byte) (stall : Word16) (s : State) : Kept s (openStall screen stall s).state := by
  unfold openStall
  split
  · exact kept_refl s
  next i _ =>
    have read := kept_readStall i s
    dsimp only [State.stallAnswer, ok_state]
    split
    · exact kept_trans (kept_trans read (kept_writeStall i _ _)) (kept_examineQueue i _ _ _)
    · split
      · exact kept_trans read (kept_writeStall i _ _)
      · exact read
    · split
      · exact kept_trans read (kept_writeStall i _ _)
      · exact read
    · exact read

theorem kept_lookupStall (screen : Byte) (stall : Word16) (s : State) :
    Kept s (lookupStall screen stall s).state := by
  unfold lookupStall
  split
  · exact kept_refl s
  · exact kept_readStall _ s

theorem kept_readField (screen : Byte) (s : State) : Kept s (readField screen s).state := by
  unfold readField
  split
  · exact kept_refl s
  · split <;> exact kept_refl s

/-! ## The night (R157, R162, R165) -/

/-- A change of the night that keeps its state and holds the clock and the totals. -/
theorem kept_modNight {f : Night → Night} (s : State) (h : (f s.night).state = s.night.state := by exact rfl)
    (clock : s.night.clock ≤ Config.lastSecond → (f s.night).clock ≤ Config.lastSecond := by exact id)
    (takings : s.night.takings ≤ Config.totalLimit → (f s.night).takings ≤ Config.totalLimit := by exact id)
    (writeOffs : s.night.writeOffs ≤ Config.totalLimit → (f s.night).writeOffs ≤ Config.totalLimit := by exact id)
    (delivered : s.night.delivered ≤ Config.totalLimit → (f s.night).delivered ≤ Config.totalLimit := by exact id) :
    Kept s (s.modNight f) where
  windows := fun ⟨windows, night⟩ => ⟨fun m => (windows m).trans
    (windowCondition_of_state (t := s.modNight f) h rfl rfl rfl).symm, fun phase => h.trans (night phase)⟩
  limits := fun ⟨mon, c, k, w, d, rest⟩ => ⟨mon, clock c, takings k, writeOffs w, delivered d, rest⟩

theorem addTotal_le (total n : Nat) : addTotal total n ≤ Config.totalLimit := Nat.min_le_right _ _

theorem kept_writeOff (n : Nat) (s : State) : Kept s (s.writeOff n) :=
  kept_modNight s (writeOffs := fun _ => addTotal_le _ _)

theorem kept_closeNight (s : State) : Kept s s.closeNight := by
  refine kept_recomputeWindows { attention := (kept_raiseBooth .nightClosed s).attention } fun _ _ => ?_
  rfl

theorem kept_examineClose (s : State) : Kept s s.examineClose := by
  unfold State.examineClose
  split
  · exact kept_closeNight s
  · exact kept_refl s

/-! ## The end of a show (R79, R80) -/

theorem kept_goDark (n : Fin 6) (s : State) : Kept s (s.goDark n) :=
  kept_trans (kept_trans (kept_trans (kept_modScreen n s) (kept_setShow n _ _)) (kept_updateWanting n _))
    (kept_examineClose _)

theorem kept_examineEnded (n : Fin 6) (s : State) : Kept s (s.examineEnded n) := by
  unfold State.examineEnded
  split
  · exact kept_goDark n s
  · exact kept_refl s

theorem kept_endShow (n : Fin 6) (s : State) : Kept s (s.endShow n) :=
  kept_trans (kept_trans (kept_modScreen n s) (kept_setShow n _ _)) (kept_examineEnded n _)

/-! ## Orders (chapter 7) -/

theorem kept_leaveKitchen (k : Fin 256) (s : State) : Kept s (s.leaveKitchen k) := kept_modOrds s

theorem kept_leaveRunner (k : Fin 256) (s : State) : Kept s (s.leaveRunner k) := kept_modOrds s

theorem kept_leaveList (a : Fin 1024) (k : Fin 256) (s : State) : Kept s (s.leaveList a k) := kept_writeAdm a _ s

theorem kept_modRunner (r : Fin 12) (f : Runner → Runner) (s : State) : Kept s (s.modRunner r f) := {}

theorem kept_retireOrder (k : Fin 256) (s : State) : Kept s (s.retireOrder k) :=
  kept_trans (kept_trans (kept_trans (kept_leaveKitchen k s) (kept_leaveRunner k _)) (kept_retireOrderSlot k _))
    (kept_examineClose _)

theorem kept_examineTab (a : Fin 1024) (s : State) : Kept s (s.examineTab a) := by
  have read := kept_readAdm a s
  unfold State.examineTab
  generalize s.readAdm a = r at *
  obtain ⟨x, u⟩ := r
  cases x with
  | none => exact read
  | some x =>
    dsimp only
    split
    · split
      · exact kept_trans read (kept_modOrds u)
      · exact read
    · exact read

theorem kept_placeIn (k : Fin 256) (a : Fin 1024) (x : Order) (s : State) : Kept s (s.placeIn k a x) :=
  kept_trans (kept_trans (kept_trans (kept_createOrder k x s) (kept_modOrds _)) (kept_writeAdm a _ _))
    (kept_raiseCounter _ _)

theorem kept_placeOrder (n : Fin 6) (i : Fin 1024) (number : Nat) (origin : Origin) (lines : List Line) (s : State) :
    Kept s (s.placeOrder n i number origin lines).state := by
  unfold State.placeOrder
  split
  · exact kept_refl s
  split
  · exact kept_refl s
  next a _ =>
    have read := kept_readTab a s
    generalize s.readTab a = r at *
    obtain ⟨x, u⟩ := r
    cases x with
    | none => exact read
    | some x =>
      dsimp only
      split
      · exact read
      split
      · exact read
      split
      · exact read
      · exact kept_trans read (kept_placeIn _ a _ u)

theorem kept_deliver (k : Fin 256) (x : Order) (s : State) : Kept s (s.deliver k x) := by
  have counted : Kept s (((s.leaveRunner k).writeOrder k fun y =>
      { y with state := .delivered, runner := none }).modNight fun n =>
      { n with delivered := addTotal n.delivered 1 }) :=
    kept_trans (kept_trans (kept_leaveRunner k s) (kept_writeOrder k _ _))
      (kept_modNight _ (delivered := fun _ => addTotal_le _ _))
  unfold State.deliver
  dsimp only
  split
  · exact kept_trans (kept_trans (kept_trans counted (kept_leaveList _ k _)) (kept_retireOrder k _))
      (kept_examineTab _ _)
  · exact kept_trans counted (kept_examineTab _ _)

theorem kept_readOrderAdm (k : Fin 256) (s : State) : Kept s (s.readOrderAdm k).2 := by
  have read := kept_readOrder k s
  unfold State.readOrderAdm
  generalize s.readOrder k = r at *
  obtain ⟨x, u⟩ := r
  cases x with
  | none => exact read
  | some x =>
    have both := kept_trans read (kept_readAdm x.admission.slot u)
    dsimp only
    generalize u.readAdm x.admission.slot = q at *
    obtain ⟨y, v⟩ := q
    cases y <;> exact both

theorem kept_cancelPlaced (a : Fin 1024) (k : Fin 256) (s : State) : Kept s (s.cancelPlaced a k) :=
  kept_trans (kept_trans (kept_leaveKitchen k s) (kept_leaveList a k _)) (kept_retireOrder k _)

theorem kept_exitOrders (a : Fin 1024) (orders : List (Fin 256 × Order)) (s : State) :
    Kept s (s.exitOrders a orders) := by
  unfold State.exitOrders
  exact kept_trans (kept_each (fun o => by exact kept_cancelPlaced a o.1) _ s)
    (kept_each (fun o => by exact kept_writeOrder o.1 _) _ _)

theorem kept_clearCollect (orders : List OrderHandle) (s : State) : Kept s (s.clearCollect orders) :=
  kept_each (fun h => by exact kept_updateOrder h.slot _) orders s

theorem kept_forceOrders (l : List (Fin 256)) (s : State) : Kept s (s.forceOrders l).2 := by
  induction l generalizing s with
  | nil => exact kept_refl s
  | cons k rest ih =>
    exact kept_trans (kept_trans (kept_readOrder k s) (kept_retireOrder k _)) (ih _)

theorem kept_findHolder (h : OrderHandle) (l : List (Fin 1024)) (s : State) : Kept s (s.findHolder h l).2 := by
  induction l generalizing s with
  | nil => exact kept_refl s
  | cons a rest ih =>
    have read := kept_readAdm a s
    unfold State.findHolder
    generalize s.readAdm a = r at *
    obtain ⟨x, u⟩ := r
    cases x with
    | none => exact kept_trans read (ih u)
    | some x =>
      dsimp only
      split
      · exact read
      · exact kept_trans read (ih u)

theorem kept_orderOwner (h : OrderHandle) (x : Option Order) (s : State) : Kept s (s.orderOwner h x).2 := by
  cases x with
  | none => exact kept_findHolder h _ s
  | some x =>
    have read := kept_readAdm x.admission.slot s
    unfold State.orderOwner
    dsimp only
    generalize s.readAdm x.admission.slot = r at *
    obtain ⟨y, u⟩ := r
    cases y <;> exact read

theorem kept_owedWithout (h : OrderHandle) (x : Option Order) (y : Admission) (s : State) :
    Kept s (s.owedWithout h x y).2 := by
  have read := kept_readOrders ((y.orders.filter fun o => o != h).map OrderHandle.slot) s
  unfold State.owedWithout
  dsimp only
  generalize s.readOrders ((y.orders.filter fun o => o != h).map OrderHandle.slot) = r at *
  obtain ⟨xs, good, u⟩ := r
  cases good <;> exact read

/-! ## The order commands (R129 to R147) -/

theorem kept_place (screen : Byte) (stall : Word16) (count : Byte) (lines : List RawLine) (s : State) :
    Kept s (place screen stall count lines s).state := by
  unfold place
  split
  · exact kept_refl s
  split
  · exact kept_refl s
  split
  · exact kept_refl s
  · exact kept_placeOrder _ _ _ _ _ s

theorem kept_takeOrder (k : Fin 256) (x : Order) (s : State) : Kept s (s.takeOrder k x) :=
  kept_trans (kept_trans (kept_leaveKitchen k s) (kept_writeOrder k _ _)) (kept_writeAdm _ _ _)

theorem kept_takeMember (k : Fin 256) (s : State) : Kept s (s.takeMember k).state := by
  have read := kept_readOrderAdm k s
  unfold State.takeMember
  generalize s.readOrderAdm k = r at *
  obtain ⟨x, u⟩ := r
  cases x with
  | none => exact read
  | some x => exact kept_trans (t := u) read (kept_takeOrder k x.1 u)

theorem kept_take (handle : Option Word16) (s : State) : Kept s (take handle s).state := by
  unfold take
  split
  · dsimp only
    split
    · exact kept_refl s
    split
    · exact kept_refl s
    · exact kept_takeMember _ s
  · split
    · exact kept_refl s
    · exact kept_takeMember _ s

theorem kept_readyCommand (handle : Word16) (s : State) : Kept s (readyCommand handle s).state := by
  have read := kept_readOrder (OrderHandle.ofWord handle).slot s
  unfold readyCommand
  dsimp only
  split
  · exact kept_refl s
  generalize s.readOrder (OrderHandle.ofWord handle).slot = r at *
  obtain ⟨x, u⟩ := r
  cases x with
  | none => exact read
  | some x =>
    dsimp only
    split
    · exact read
    · exact kept_trans (t := u) read (by rw [ok_state]; exact kept_writeOrder _ _ u)

theorem kept_sendOut (r : Fin 12) (slots : List (Fin 256)) (s : State) : Kept s (s.sendOut r slots) :=
  kept_trans (kept_each (fun k => kept_writeOrder k _) slots s) (kept_modRunner r _ _)

theorem kept_dispatch (runner count : Byte) (handles : List Word16) (s : State) :
    Kept s (dispatch runner count handles s).state := by
  have read := kept_readOrders ((handles.map OrderHandle.ofWord).map OrderHandle.slot) s
  unfold dispatch
  dsimp only
  split
  · exact kept_refl s
  split
  · exact kept_refl s
  split
  · exact kept_refl s
  split
  · exact kept_refl s
  split
  · exact kept_refl s
  generalize s.readOrders ((handles.map OrderHandle.ofWord).map OrderHandle.slot) = r at *
  obtain ⟨xs, good, u⟩ := r
  cases good with
  | false => exact read
  | true =>
    dsimp only
    split
    · exact read
    · exact kept_trans read (kept_sendOut _ _ u)

theorem kept_runnerBack (runner : Byte) (s : State) : Kept s (runnerBack runner s).state := by
  unfold runnerBack
  split
  · exact kept_refl s
  next r _ =>
    have read := kept_readOrders s.ords.runners[r].carried s
    split
    · exact kept_refl s
    dsimp only
    generalize s.readOrders s.ords.runners[r].carried = q at *
    obtain ⟨xs, good, u⟩ := q
    cases good with
    | false => exact read
    | true =>
      exact kept_trans read (kept_trans (kept_each (fun k => kept_writeOrder k _) _ u) (kept_modRunner r _ _))

theorem kept_runnerOn (runner : Byte) (s : State) : Kept s (runnerOn runner s).state := by
  unfold runnerOn
  split
  · exact kept_refl s
  dsimp only [ok_state]
  split
  · exact kept_modRunner _ _ s
  · exact kept_refl s

theorem kept_runnerOff (runner : Byte) (s : State) : Kept s (runnerOff runner s).state := by
  unfold runnerOff
  split
  · exact kept_refl s
  split
  · exact kept_refl s
  · exact kept_refl s
  · exact kept_modRunner _ _ s

theorem kept_readRunner (runner : Byte) (s : State) : Kept s (readRunner runner s).state := by
  unfold readRunner
  split <;> exact kept_refl s

theorem kept_readOwners (l : List (Fin 256 × Order)) (s : State) : Kept s (s.readOwners l).2 := by
  induction l generalizing s with
  | nil => exact kept_refl s
  | cons o rest ih => exact kept_trans (kept_readAdm _ s) (ih _)

theorem kept_confirmRequest (r : Fin 12) (n : Fin 6) (stall : Nat) (s : State) :
    Kept s (s.confirmRequest r n stall).2 := by
  have read := kept_readOrders s.ords.runners[r].carried s
  unfold State.confirmRequest
  generalize s.readOrders s.ords.runners[r].carried = q at *
  obtain ⟨xs, good, u⟩ := q
  cases good with
  | false => exact read
  | true =>
    dsimp only
    have owners := kept_trans read (kept_readOwners (xs.filter fun x => x.2.screen = n ∧ x.2.stall = stall) u)
    generalize u.readOwners (xs.filter fun x => x.2.screen = n ∧ x.2.stall = stall) = p at *
    obtain ⟨all, v⟩ := p
    cases all with
    | false => exact owners
    | true =>
      dsimp only
      split
      · exact owners
      split
      · exact owners
      · exact kept_trans owners (kept_trans (kept_each (fun x => by exact kept_deliver x.1 x.2) _ v) (kept_raiseCounter _ _))

theorem kept_deliveredCommand (handle : Word16) (s : State) : Kept s (deliveredCommand handle s).state := by
  have read := kept_readOrder (OrderHandle.ofWord handle).slot s
  unfold deliveredCommand
  dsimp only
  split
  · exact kept_refl s
  generalize s.readOrder (OrderHandle.ofWord handle).slot = r at *
  obtain ⟨x, u⟩ := r
  cases x with
  | none => exact read
  | some x =>
    have owner : Kept s (if x.paid then ((u.readAdm x.admission.slot).1.isSome, (u.readAdm x.admission.slot).2)
        else (true, u)).2 := by
      split
      · exact kept_trans read (kept_readAdm _ u)
      · exact read
    dsimp only
    generalize (if x.paid then ((u.readAdm x.admission.slot).1.isSome, (u.readAdm x.admission.slot).2)
      else (true, u)) = q at *
    obtain ⟨good, v⟩ := q
    dsimp only
    split
    · exact owner
    split
    · exact owner
    · exact kept_trans owner (kept_deliver _ x v)

theorem kept_handover (handle : Word16) (s : State) : Kept s (handover handle s).state := by
  have read := kept_readOrderAdm (OrderHandle.ofWord handle).slot s
  unfold handover
  dsimp only
  split
  · exact kept_refl s
  generalize s.readOrderAdm (OrderHandle.ofWord handle).slot = r at *
  obtain ⟨x, u⟩ := r
  cases x with
  | none => exact read
  | some x =>
    dsimp only
    split
    · exact kept_trans read (kept_deliver _ x.1 u)
    · exact read

theorem kept_cancelOrder (k : Fin 256) (x : Order) (s : State) : Kept s (s.cancelOrder k x) :=
  kept_trans (kept_trans (kept_trans (kept_writeAdm _ _ s) (kept_leaveList _ k _)) (kept_retireOrder k _))
    (kept_examineTab _ _)

theorem kept_cancelCommand (handle : Word16) (s : State) : Kept s (cancelCommand handle s).state := by
  have read := kept_readOrderAdm (OrderHandle.ofWord handle).slot s
  unfold cancelCommand
  dsimp only
  split
  · exact kept_refl s
  generalize s.readOrderAdm (OrderHandle.ofWord handle).slot = r at *
  obtain ⟨x, u⟩ := r
  cases x with
  | none => exact read
  | some x =>
    dsimp only
    split
    · exact read
    · exact kept_trans read (kept_cancelOrder _ x.1 u)

theorem kept_cancelNewestRequest (i : Fin 1024) (s : State) : Kept s (s.cancelNewestRequest i).2 := by
  unfold State.cancelNewestRequest
  split
  · exact kept_refl s
  next a _ =>
    have read := kept_readTab a s
    generalize s.readTab a = r at *
    obtain ⟨x, u⟩ := r
    cases x with
    | none => exact read
    | some x =>
      dsimp only
      split
      · exact read
      · exact kept_trans read (kept_trans (kept_cancelPlaced a _ u) (kept_raiseCounter _ _))

theorem kept_forceRetireOrder (handle : Word16) (s : State) : Kept s (forceRetireOrder handle s).state := by
  have read := kept_readOrder (OrderHandle.ofWord handle).slot s
  unfold forceRetireOrder
  dsimp only
  split
  · exact kept_refl s
  generalize s.readOrder (OrderHandle.ofWord handle).slot = r at *
  obtain ⟨x, u⟩ := r
  have owner := kept_trans read (kept_orderOwner (OrderHandle.ofWord handle) x u)
  dsimp only
  generalize u.orderOwner (OrderHandle.ofWord handle) x = q at *
  obtain ⟨y, v⟩ := q
  cases y with
  | none => exact kept_trans owner (kept_trans (kept_writeOff _ v) (kept_retireOrder _ _))
  | some y =>
    have owed := kept_trans owner (kept_owedWithout (OrderHandle.ofWord handle) x y.2 v)
    exact kept_trans owed (kept_trans (kept_trans (kept_trans (kept_trans (kept_writeAdm _ _ _)
      (kept_leaveList _ _ _)) (kept_writeOff _ _)) (kept_retireOrder _ _)) (kept_examineTab _ _))

theorem kept_lookupOrder (handle : Word16) (s : State) : Kept s (lookupOrder handle s).state := by
  have read := kept_readOrder (OrderHandle.ofWord handle).slot s
  unfold lookupOrder
  dsimp only
  split
  · exact kept_refl s
  generalize s.readOrder (OrderHandle.ofWord handle).slot = r at *
  obtain ⟨x, u⟩ := r
  cases x <;> exact read

/-! ## Settlement (R151, R152) -/

theorem kept_payOrders (a : Fin 1024) (orders : List (Fin 256 × Order)) (s : State) : Kept s (s.payOrders a orders) := by
  unfold State.payOrders
  exact kept_trans (kept_each (fun o => by exact kept_writeOrder o.1 _) _ s)
    (kept_each (fun o s => by exact kept_trans (kept_leaveList a o.1 s) (kept_retireOrder o.1 _)) _ _)

theorem kept_settle (handle : Word16) (amount : Word24) (s : State) : Kept s (settle handle amount s).state := by
  have read := kept_readTab (AdmHandle.ofWord handle).slot s
  unfold settle
  dsimp only
  split
  · exact kept_refl s
  split
  · exact kept_refl s
  generalize s.readTab (AdmHandle.ofWord handle).slot = r at *
  obtain ⟨x, u⟩ := r
  cases x with
  | none => exact read
  | some x =>
    dsimp only
    split
    · exact read
    · exact kept_trans read (kept_trans (kept_trans (kept_trans (kept_payOrders _ _ u) (kept_writeAdm _ _ _))
        (kept_modNight _ (takings := fun _ => addTotal_le _ _))) (kept_examineTab _ _))

/-! ## The requests of the posts (R118, R138, R142) -/

theorem kept_takeRequest {α : Type} (r : Fin 48) (f : RequestBody → Option α) {act : α → State → Status × State}
    (h : ∀ x s, Kept s (act x s).2) (s : State) : Kept s (s.takeRequest r f act) := by
  unfold State.takeRequest
  split
  · exact kept_refl s
  split
  · exact kept_refl s
  · exact kept_trans (kept_modPosts _ s) (kept_trans (h _ _) (kept_modPosts _ _))

theorem kept_placeRequest (x : Fin 6 × Nat × List Line) (s : State) : Kept s (s.placeRequest x).2 := by
  unfold State.placeRequest
  split
  · exact kept_refl s
  · exact kept_placeOrder _ _ _ _ _ s

end Sys2Proof.Invariants
end

section
/-!
SUPPORT. The operations and commands of the lanes and of the admissions keep the invariants (chapter 3).
-/

namespace Sys2Proof.Invariants

open Sys2Proof Sys2Proof.Machine Sys2Proof.NightUnit

/-! The defaults below are tactic blocks; the proofs are elaborated in order, or each would hold a thread that waits for
those before it. -/

set_option Elab.async false

variable {s t u : State}

/-! ## Lanes (R40, R42, R44) -/

/-- From lane `l` to lane `m`, RAISE still stands as the state says and no count passes its limit. -/
structure LaneKept (l m : Lane) : Prop where
  barrier : l.raise = l.state.open → m.raise = m.state.open := by exact id
  passes : l.passes ≤ Config.countLimit → m.passes ≤ Config.countLimit := by exact id
  tailgates : l.tailgates ≤ Config.countLimit → m.tailgates ≤ Config.countLimit := by exact id
  voids : l.voids ≤ Config.countLimit → m.voids ≤ Config.countLimit := by exact id

/-- A change of a lane that keeps it good from the state that it is in. -/
theorem kept_modLane_of_state {n : Fin 4} {f : Lane → Lane} {s : State}
    (h : ∀ l : Lane, l.state = s.gate.lanes[n].state → LaneKept l (f l)) : Kept s (s.modLane n f) where
  barriers good m := by
    simp only [modLane_gate, upd_get]
    split
    · exact (h _ rfl).barrier (good n)
    · exact good m
  limits := fun ⟨mon, clock, takings, writeOffs, delivered, lanes, admitted⟩ => by
    refine ⟨mon, clock, takings, writeOffs, delivered, fun m => ?_, admitted⟩
    simp only [modLane_gate, upd_get]
    split
    · exact ⟨(h _ rfl).passes (lanes n).1, (h _ rfl).tailgates (lanes n).2.1, (h _ rfl).voids (lanes n).2.2⟩
    · exact lanes m

theorem kept_modLane {n : Fin 4} {f : Lane → Lane} {s : State}
    (h : ∀ l : Lane, LaneKept l (f l) := by exact fun _ => {}) : Kept s (s.modLane n f) := kept_modLane_of_state fun l _ => h l

theorem modLane_lane (n : Fin 4) (f : Lane → Lane) (s : State) :
    (s.modLane n f).gate.lanes[n] = f s.gate.lanes[n] := upd_get_same _ _ _

/-- A change of the gate that keeps the lanes and holds the admitted counts. -/
theorem kept_modGate {f : Gate → Gate} (s : State) (h : (f s.gate).lanes = s.gate.lanes := by exact rfl)
    (counts : (∀ n : Fin 6, s.gate.admitted[n] ≤ Config.countLimit) →
      ∀ n : Fin 6, (f s.gate).admitted[n] ≤ Config.countLimit := by exact id) : Kept s (s.modGate f) where
  barriers good m := by
    rw [modGate_gate, h]
    exact good m
  limits := fun ⟨mon, clock, takings, writeOffs, delivered, lanes, admitted⟩ =>
    ⟨mon, clock, takings, writeOffs, delivered, fun m => by
      rw [modGate_gate, h]
      exact lanes m, counts admitted⟩

theorem countUp_le (n : Nat) : countUp n ≤ Config.countLimit := Nat.min_le_right _ _

/-- A lane with RAISE low in a state where no vehicle may pass. -/
theorem laneKept_shut {l m : Lane} (raise : m.raise = false) (state : m.state.open = false)
    (passes : m.passes = l.passes := by exact rfl) (tailgates : m.tailgates = l.tailgates := by exact rfl)
    (voids : m.voids = l.voids := by exact rfl) : LaneKept l m where
  barrier _ := raise.trans state.symm
  passes h := by rwa [passes]
  tailgates h := by rwa [tailgates]
  voids h := by rwa [voids]

/-- A lane with RAISE high in a state where a vehicle may pass. -/
theorem laneKept_open {l m : Lane} (raise : m.raise = true) (state : m.state.open = true)
    (passes : m.passes = l.passes := by exact rfl) (tailgates : m.tailgates = l.tailgates := by exact rfl)
    (voids : m.voids = l.voids := by exact rfl) : LaneKept l m where
  barrier _ := raise.trans state.symm
  passes h := by rwa [passes]
  tailgates h := by rwa [tailgates]
  voids h := by rwa [voids]

theorem restState_open (l : Lane) : l.restState.open = false := by
  unfold Lane.restState
  split <;> rfl

theorem laneKept_endFault (stuckTime : Nat) (l : Lane) : LaneKept l (l.endFault stuckTime) := by
  unfold Lane.endFault
  dsimp only
  split <;> exact {}

theorem endFault_state (stuckTime : Nat) (l : Lane) : (l.endFault stuckTime).state = l.state := by
  unfold Lane.endFault Lane.restartStuck
  dsimp only
  split <;> rfl

theorem laneKept_free (stuckTime : Nat) (l : Lane) : LaneKept l (l.free stuckTime) := by
  have ended := laneKept_endFault stuckTime l
  refine { passes := ended.passes, tailgates := ended.tailgates, voids := ended.voids, barrier := fun _ => ?_ }
  have rests (c : Prop) [Decidable c] (k : Lane) : (if c then LaneState.idle else k.restState).open = false := by
    split
    · rfl
    · exact restState_open k
  exact (rests _ _).symm

theorem laneKept_fault (c : LaneFault) (l : Lane) : LaneKept l (l.fault c) :=
  laneKept_shut rfl rfl

theorem kept_announcePresent (n : Fin 4) (s : State) : Kept s (s.announcePresent n) := by
  unfold State.announcePresent
  split
  · exact kept_raiseBooth _ s
  · exact kept_refl s

theorem kept_freeLane (n : Fin 4) (s : State) : Kept s (s.freeLane n) :=
  kept_trans (kept_modLane (laneKept_free _)) (kept_announcePresent n _)

theorem kept_faultLane (n : Fin 4) (c : LaneFault) (s : State) : Kept s (s.faultLane n c) :=
  kept_trans (kept_modLane (laneKept_fault c)) (kept_raiseBooth _ _)

/-! ## Live counts, retirement, passes, voids and returns (R46, R50 to R57) -/

theorem kept_addLive (n : Fin 6) (s : State) : Kept s (s.addLive n) := kept_modGate s

theorem kept_dropLive (n : Fin 6) (s : State) : Kept s (s.dropLive n) :=
  kept_trans (kept_modGate s) (kept_examineEnded n _)

theorem kept_retireAdm (a : Fin 1024) (n : Option (Fin 6)) (s : State) : Kept s (s.retireAdm a n) := by
  refine kept_trans (kept_retireAdmSlot a s) (kept_trans ?dropped (kept_examineClose _))
  cases n with
  | none => exact kept_refl _
  | some n => exact kept_dropLive n _

theorem kept_addPass (n : Fin 4) (s : State) :
    Kept s (s.modLane n fun l => { l with passes := countUp l.passes }) :=
  kept_modLane fun _ => { passes := fun _ => countUp_le _ }

theorem kept_addAdmitted (m : Fin 6) (s : State) :
    Kept s (s.modGate fun g => { g with admitted := upd g.admitted m countUp }) :=
  kept_modGate s (counts := fun h n => by
    show (upd s.gate.admitted m countUp)[n] ≤ _
    rw [upd_get]
    split
    · exact countUp_le _
    · exact h n)

theorem kept_entryPass (n : Fin 4) (a : Fin 1024) (s : State) : Kept s (s.entryPass n a) := by
  have updated := kept_updateAdm a (fun x => { x with state := s.lot.parkedState a }) s
  unfold State.entryPass
  dsimp only
  generalize (s.updateAdm a fun x => { x with state := s.lot.parkedState a }) = u at *
  refine kept_trans (kept_trans ?counted (kept_addPass n _)) (kept_freeLane n _)
  cases u.lot.stallHeldBy a with
  | none =>
    dsimp only
    split
    · exact kept_trans updated (kept_addAdmitted _ u)
    · exact updated
  | some i =>
    have held := kept_trans updated (kept_holdStall i a .occupation u)
    dsimp only
    split
    · exact kept_trans held (kept_addAdmitted _ _)
    · exact held

theorem kept_exitPass (n : Fin 4) (a : Fin 1024) (s : State) : Kept s (s.exitPass n a) := by
  unfold State.exitPass
  split
  · exact kept_faultLane n _ s
  · exact kept_trans (kept_trans (kept_trans (kept_leavePlace a s) (kept_freeLane n _))
      (kept_retireAdm a (s.lot.screenOf a) _)) (kept_addPass n _)

theorem kept_voidAdm (n : Fin 4) (a : Fin 1024) (s : State) : Kept s (s.voidAdm n a) :=
  kept_trans (kept_trans (kept_trans (kept_trans (kept_leavePlace a s) (kept_freeLane n _))
    (kept_retireAdm a (s.lot.screenOf a) _)) (kept_modLane (by exact fun _ => { voids := fun _ => countUp_le _ }))) (kept_raiseBooth _ _)

theorem kept_ordersOf (a : Fin 1024) (x : Option Admission) (s : State) : Kept s (s.ordersOf a x).2 := by
  cases x with
  | some x => exact kept_refl s
  | none => exact kept_readOrders _ s

theorem kept_returnAdm (n : Fin 4) (a : Fin 1024) (s : State) : Kept s (s.returnAdm n a) := by
  have returned := kept_trans (kept_writeAdm a (fun x => { x with state := s.lot.parkedState a, exitLane := none }) s)
    (kept_modLane (n := n) (f := fun l => { l.dropRaise with
      state := .idle, bound := none, voidTimer := none, returnTimer := none, voids := countUp l.voids })
      fun _ => { barrier := fun _ => rfl, voids := fun _ => countUp_le _ })
  unfold State.returnAdm
  dsimp only
  split
  · exact kept_trans returned (kept_offerReturn a _)
  · exact returned

theorem kept_leaveWindow (n : Fin 4) (a : Fin 1024) (s : State) : Kept s (s.leaveWindow n a) := by
  unfold State.leaveWindow
  exact kept_trans (kept_trans (kept_trans (kept_readAdm a s) (kept_ordersOf a (s.readAdm a).1 _))
    (kept_clearCollect _ _)) (kept_returnAdm n a _)

/-! ## Loop events and timers (R41 to R55) -/

theorem kept_tailgate (n : Fin 4) (s : State) : Kept s (s.tailgate n) :=
  kept_trans (kept_modLane (by exact fun _ => { tailgates := fun _ => countUp_le _ })) (kept_raiseBooth _ _)

/-- A lane whose RAISE stands as its state says takes another state in which it stands so. -/
theorem laneKept_state {l m : Lane} (state : m.state.open = l.state.open) (raise : m.raise = l.raise := by exact rfl)
    (passes : m.passes = l.passes := by exact rfl) (tailgates : m.tailgates = l.tailgates := by exact rfl)
    (voids : m.voids = l.voids := by exact rfl) : LaneKept l m where
  barrier h := by rw [raise, state, h]
  passes h := by rwa [passes]
  tailgates h := by rwa [tailgates]
  voids h := by rwa [voids]

theorem kept_loopAOccupied (n : Fin 4) (s : State) : Kept s (s.loopAOccupied n) := by
  unfold State.loopAOccupied
  split
  next idle =>
    exact kept_trans (kept_modLane_of_state (by exact fun l h => laneKept_state (by rw [h, idle]; rfl))) (kept_raiseBooth _ _)
  · exact kept_modLane
  · exact kept_modLane
  all_goals exact kept_refl s

theorem kept_loopAClears (n : Fin 4) (s : State) : Kept s (s.loopAClears n) := by
  unfold State.loopAClears
  dsimp only
  split
  next present => exact kept_modLane_of_state fun l h => laneKept_state (by rw [h, present]; rfl)
  · exact kept_modLane
  · exact kept_modLane
  · split
    · exact kept_leaveWindow n _ s
    · exact kept_refl s
  all_goals exact kept_refl s

theorem kept_loopBOccupied (n : Fin 4) (s : State) : Kept s (s.loopBOccupied n) := by
  have stuck : Kept s (s.modLane n fun l => { l with stuckTimer := seconds s.gate.stuckTime }) := kept_modLane
  unfold State.loopBOccupied
  dsimp only
  split
  · exact kept_refl s
  have passing (h : s.gate.lanes[n].state.open = true) : Kept s
      ((s.modLane n fun l => { l with stuckTimer := seconds s.gate.stuckTime }).modLane n fun l =>
        { l with state := .passing, voidTimer := none, returnTimer := none }) := by
    refine kept_trans stuck (kept_modLane_of_state ?_)
    refine fun l hl => laneKept_state ?_
    rw [hl, modLane_lane]
    exact h.symm
  split
  · exact kept_trans stuck (kept_tailgate n _)
  · exact kept_trans stuck (kept_tailgate n _)
  · exact kept_trans stuck (kept_tailgate n _)
  next issued => exact passing (by rw [issued]; rfl)
  next leaving => exact passing (by rw [leaving]; rfl)
  · exact stuck
  · exact stuck

theorem kept_loopBClears (n : Fin 4) (s : State) : Kept s (s.loopBClears n) := by
  have stuck : Kept s (s.modLane n fun l => { l with stuckTimer := none }) := kept_modLane
  unfold State.loopBClears
  dsimp only
  split
  · split
    · exact kept_trans stuck (kept_entryPass n _ _)
    · exact kept_trans stuck (kept_exitPass n _ _)
  · exact stuck

theorem kept_loopEvent (n : Fin 4) (loop : Loop) (s : State) : Kept s (s.loopEvent n loop) := by
  unfold State.loopEvent
  dsimp only
  split
  · exact kept_refl s
  split
  · exact kept_loopAOccupied n s
  · exact kept_loopAClears n s
  · exact kept_loopBOccupied n s
  · exact kept_loopBClears n s

theorem laneKept_modLoop (loop : Loop) (f : Input → Input) (l : Lane) : LaneKept l (l.modLoop loop f) := by
  cases loop <;> exact {}

theorem kept_timerFault (n : Fin 4) (c : LaneFault) (s : State) : Kept s (s.timerFault n c) := by
  unfold State.timerFault
  split
  · exact kept_refl s
  · exact kept_faultLane n c s

theorem kept_presenceTimer (n : Fin 4) (loop : Loop) (s : State) :
    Kept s (if (s.gate.lanes[n].loop loop).timer.isSome then
      (s.modLane n (Lane.modLoop loop Input.qualify)).loopEvent n loop else s) := by
  split
  · exact kept_trans (kept_modLane (laneKept_modLoop loop _)) (kept_loopEvent n loop _)
  · exact kept_refl s

theorem kept_barrierTimer (n : Fin 4) (s : State) :
    Kept s (if s.gate.lanes[n].barrierTimer.isSome then
      (s.modLane n fun l => { l with barrierTimer := none }).timerFault n .barrier else s) := by
  split
  · exact kept_trans kept_modLane (kept_timerFault n _ _)
  · exact kept_refl s

theorem kept_stuckTimer (n : Fin 4) (s : State) :
    Kept s (if s.gate.lanes[n].stuckTimer.isSome then
      (s.modLane n fun l => { l with stuckTimer := none }).timerFault n .stuck else s) := by
  split
  · exact kept_trans kept_modLane (kept_timerFault n _ _)
  · exact kept_refl s

theorem kept_takeTabClear (n : Fin 4) (h : AdmHandle) (s : State) : Kept s (s.takeTabClear n h) := by
  unfold State.takeTabClear
  dsimp only
  split
  · exact kept_trans (kept_trans (kept_updateAdm _ _ s) (kept_modLane (by exact fun _ => laneKept_open rfl rfl)))
      (kept_raiseBooth _ _)
  · exact kept_refl s

/-! ## Commands (R47 to R63) -/

theorem kept_settlePlace (a : Fin 1024) (n : Fin 6) (x : Allocation) (s : State) : Kept s (s.settlePlace a n x) := by
  unfold State.settlePlace
  cases x with
  | stall i => exact kept_holdStall i a _ s
  | queued => exact kept_modLot s
  | refused _ => exact kept_modLot s

theorem kept_admitIn (a : Fin 1024) (l : Fin 4) (n : Fin 6) (c : VehicleClass) (x : Allocation) (s : State) :
    Kept s (s.admitIn a l n c x) :=
  kept_trans (kept_trans (kept_trans (kept_createAdm a _ s) (kept_settlePlace a n x _))
    (kept_modLane (by exact fun _ => laneKept_open rfl rfl))) (kept_addLive n _)

theorem kept_admitCommand (lane screen cls : Byte) (stall : Word16) (s : State) :
    Kept s (admitCommand lane screen cls stall s).state := by
  unfold admitCommand
  split
  next l n c _ _ _ =>
    dsimp only
    have allocated := kept_allocate screen n stall c s
    split
    · exact kept_refl s
    split
    · exact kept_refl s
    split
    · exact kept_refl s
    split
    · exact kept_refl s
    split
    · exact kept_refl s
    split
    · exact kept_refl s
    split
    · exact kept_refl s
    split
    · exact kept_refl s
    next a _ _ =>
      generalize s.allocate screen n stall c = r at *
      obtain ⟨x, u⟩ := r
      cases x with
      | refused status => exact allocated
      | queued => exact kept_trans allocated (kept_admitIn a l n c _ u)
      | stall i => exact kept_trans allocated (kept_admitIn a l n c _ u)
  next => exact kept_refl s

theorem kept_voidCommand (handle : Word16) (s : State) : Kept s (voidCommand handle s).state := by
  have read := kept_readAdm (AdmHandle.ofWord handle).slot s
  unfold voidCommand
  dsimp only
  split
  · exact kept_refl s
  generalize s.readAdm (AdmHandle.ofWord handle).slot = r at *
  obtain ⟨x, u⟩ := r
  cases x with
  | none => exact read
  | some x =>
    dsimp only
    split
    · exact kept_trans read (kept_voidAdm _ _ u)
    · exact read

theorem kept_bindExit (n : Fin 4) (a : Fin 1024) (clear : Bool) {s : State} (h : s.gate.lanes[n].state = .present) :
    Kept s (s.bindExit n a clear) := by
  cases clear with
  | true => exact kept_trans (kept_writeAdm a _ s) (kept_modLane (by exact fun _ => laneKept_open rfl rfl))
  | false =>
    refine kept_trans (kept_trans (kept_writeAdm a (fun x => { x with exitLane := some n, state := .paying }) s)
      (kept_modLane_of_state (n := n) (f := fun l => { l with state := .paying, bound := some a }) ?_))
      (kept_raiseCounter _ _)
    refine fun l hl => laneKept_state ?_
    rw [hl, readFrame_gate (writeAdm_readFrame s a _), h]
    rfl

theorem kept_exitCommand (lane : Byte) (handle : Word16) (s : State) :
    Kept s (exitCommand lane handle s).state := by
  have read := kept_readTab (AdmHandle.ofWord handle).slot s
  have gate := readFrame_gate (readTab_readFrame s (AdmHandle.ofWord handle).slot)
  unfold exitCommand
  dsimp only
  split
  · exact kept_refl s
  split
  · exact kept_refl s
  next n _ =>
    split
    · exact kept_refl s
    split
    · exact kept_refl s
    split
    · exact kept_refl s
    split
    · exact kept_refl s
    next present =>
      split
      · exact kept_refl s
      split
      · exact kept_refl s
      generalize s.readTab (AdmHandle.ofWord handle).slot = r at *
      obtain ⟨x, u⟩ := r
      cases x with
      | none => exact read
      | some x =>
        refine kept_trans read (kept_trans (kept_exitOrders _ x.2 u) (kept_bindExit n _ _ ?_))
        rw [orderFrame_gate (exitOrders_orderFrame _ x.2 u), gate]
        exact not_not.mp present

theorem laneKept_resume (g : Gate) {st : LaneState} (h : st = .issued ∨ st = .leaving) (l : Lane) :
    LaneKept l (l.resume g st) := by
  have opened : st.open = true := by rcases h with rfl | rfl <;> rfl
  unfold Lane.resume
  dsimp only
  split
  · exact laneKept_open rfl rfl
  split
  · exact laneKept_open rfl opened
  split
  · exact laneKept_open rfl opened
  · exact laneKept_open rfl opened

theorem kept_resumeLane {n : Fin 4} {s : State} (h : s.gate.lanes[n].state = .faulted) : Kept s (s.resumeLane n) := by
  have ended : Kept s (s.modLane n (Lane.endFault s.gate.stuckTime)) := kept_modLane (laneKept_endFault _)
  have resumed (st : LaneState) (open_ : st = .issued ∨ st = .leaving) :
      Kept s ((s.modLane n (Lane.endFault s.gate.stuckTime)).modLane n (Lane.resume s.gate st)) :=
    kept_trans ended (kept_modLane (laneKept_resume _ open_))
  have paying : Kept s ((s.modLane n (Lane.endFault s.gate.stuckTime)).modLane n fun l =>
      { l with state := .paying }) := by
    refine kept_trans ended (kept_modLane_of_state ?_)
    refine fun l hl => laneKept_state ?_
    rw [hl, modLane_lane, endFault_state, h]
    rfl
  unfold State.resumeLane
  dsimp only
  split
  · exact resumed .issued (.inl rfl)
  · exact resumed .leaving (.inr rfl)
  · split
    · exact resumed .issued (.inl rfl)
    · exact resumed .leaving (.inr rfl)
  · split
    · exact kept_trans paying (kept_examineTab _ _)
    · exact kept_trans paying (kept_leaveWindow n _ _)
  · exact kept_freeLane n s

theorem kept_clearLane (lane : Byte) (s : State) : Kept s (clearLane lane s).state := by
  unfold clearLane
  split
  · exact kept_refl s
  split
  · exact kept_refl s
  next faulted => exact kept_resumeLane (not_not.mp faulted)

theorem kept_readLane (lane : Byte) (s : State) : Kept s (readLane lane s).state := by
  unfold readLane
  split <;> exact kept_refl s

theorem kept_lookupAdmission (handle : Word16) (s : State) : Kept s (lookupAdmission handle s).state := by
  have read := kept_readAdm (AdmHandle.ofWord handle).slot s
  unfold lookupAdmission
  dsimp only
  split
  · exact kept_refl s
  generalize s.readAdm (AdmHandle.ofWord handle).slot = r at *
  obtain ⟨x, u⟩ := r
  cases x <;> exact read

theorem kept_moveTo (a i : Fin 1024) (n : Fin 6) (number : Nat) (orders : List (Fin 256 × Order)) (s : State) :
    Kept s (s.moveTo a i n number orders) := by
  have seated := kept_trans (kept_trans (kept_holdStall i a .occupation s)
    (kept_writeAdm a (fun x => { x with screen := n, stall := some number }) _))
    (kept_each (f := fun (o : Fin 256 × Order) s => s.writeOrder o.1 fun x => { x with screen := n, stall := number })
      (fun o => kept_writeOrder o.1 _) orders _)
  unfold State.moveTo
  dsimp only
  generalize State.each orders _ _ = u at *
  have counted (v : State) (h : Kept s v) (m : Fin 6) : Kept s (if m = n then v else (v.addLive n).dropLive m) := by
    split
    · exact h
    · exact kept_trans h (kept_trans (kept_addLive n v) (kept_dropLive m _))
  cases s.lot.stallHeldBy a with
  | none =>
    cases s.lot.screenOf a with
    | none => exact seated
    | some m => exact counted u seated m
  | some j =>
    have released := kept_trans seated (kept_releaseStall j u)
    cases s.lot.screenOf a with
    | none => exact released
    | some m => exact counted _ released m

theorem kept_moveCommand (handle : Word16) (screen : Byte) (stall : Word16) (s : State) :
    Kept s (moveCommand handle screen stall s).state := by
  have read := kept_readTab (AdmHandle.ofWord handle).slot s
  unfold moveCommand
  dsimp only
  split
  · exact kept_refl s
  generalize s.readTab (AdmHandle.ofWord handle).slot = r at *
  obtain ⟨x, u⟩ := r
  cases x with
  | none => exact read
  | some x =>
    dsimp only
    split
    · exact read
    split
    · exact read
    split
    · exact read
    split
    · exact read
    next i _ _ _ =>
      have named := kept_trans read (kept_readStall i u)
      split
      · rw [ok_state]
        exact kept_trans named (kept_moveTo _ _ _ _ _ _)
      · exact named

/-- The mark of a rewritten admission cleared. -/
theorem kept_repairSlot (a : Fin 1024) (x : Admission) (s : State) :
    Kept s ((s.modAdmSlot a (Slot.write x)).unmarkAdm a) :=
  kept_trans (kept_modAdmSlot a s rfl) (kept_unmarkAdm a _)

theorem kept_repair (handle : Word16) (cls lane : Byte) (entryTime : Word24) (s : State) :
    Kept s (repair handle cls lane entryTime s).state := by
  have read := kept_readOrders s.liveOrders s
  unfold repair
  dsimp only
  split
  · exact kept_refl s
  split
  · exact kept_refl s
  split
  · split
    · exact kept_refl s
    generalize s.readOrders s.liveOrders = r at *
    obtain ⟨xs, good, u⟩ := r
    cases good with
    | false => exact read
    | true => exact kept_trans read (kept_trans (kept_repairSlot _ _ u) (kept_examineTab _ _))
  · exact kept_refl s

theorem kept_unbind (a : Fin 1024) (s : State) : Kept s (s.unbind a) := by
  unfold State.unbind
  split
  · exact kept_modLane (laneKept_free _)
  · exact kept_refl s

/-- One more in the forced count, or none. -/
theorem kept_addForced (entered : Bool) (s : State) :
    Kept s (s.modNight fun n => { n with forced := if entered then n.forced + 1 else n.forced }) := kept_modNight s

theorem kept_forceAdm (a : Fin 1024) (s : State) : Kept s (s.forceAdm a) := by
  unfold State.forceAdm
  exact kept_trans (kept_trans (kept_trans (kept_leavePlace a s) (kept_unbind a _)) (kept_addForced _ _))
    (kept_retireAdm a _ _)

theorem kept_ordersToForce (h : AdmHandle) (s : State) : Kept s (s.ordersToForce h).2 := by
  have read := kept_readAdm h.slot s
  unfold State.ordersToForce
  generalize s.readAdm h.slot = r at *
  obtain ⟨x, u⟩ := r
  cases x with
  | some x => exact read
  | none =>
    have all := kept_trans read (kept_readOrders u.liveOrders u)
    dsimp only
    generalize u.readOrders u.liveOrders = q at *
    obtain ⟨xs, good, v⟩ := q
    cases good <;> exact all

theorem kept_forceRetireAdm (handle : Word16) (s : State) : Kept s (forceRetireAdm handle s).state := by
  have read := kept_ordersToForce (AdmHandle.ofWord handle) s
  unfold forceRetireAdm
  dsimp only
  split
  · exact kept_refl s
  generalize s.ordersToForce (AdmHandle.ofWord handle) = r at *
  obtain ⟨x, u⟩ := r
  cases x with
  | none => exact read
  | some orders =>
    dsimp only
    rw [ok_state]
    exact kept_trans read (kept_trans (kept_forceOrders orders u) (kept_trans (kept_writeOff _ _) (kept_forceAdm _ _)))

end Sys2Proof.Invariants
end

section
/-!
SUPPORT. The commands and events of the posts, the domains, the shows, the channels, the store and the night keep the
invariants (chapters 4 to 6 and 8 to 10).
-/

namespace Sys2Proof.Invariants

open Sys2Proof Sys2Proof.Machine Sys2Proof.NightUnit

/-! The defaults below are tactic blocks; the proofs are elaborated in order, or each would hold a thread that waits for
those before it. -/

set_option Elab.async false

variable {s t u : State}

/-! ## Rows (chapter 6) -/

theorem kept_takePresent (r : Fin 48) (s : State) : Kept s (s.takePresent r) := by
  unfold State.takePresent
  split
  · exact kept_modRow r _ s
  · exact kept_refl s

theorem kept_sendRequest (r : Fin 48) (q : Nat → Sequence) (body : RequestBody) (s : State) :
    Kept s (s.sendRequest r q body) := kept_modPosts _ s

theorem kept_deliverKey (r : Fin 48) (k : Key) (s : State) : Kept s (s.deliverKey r k) := by
  have quiet := kept_modRow r Row.toQuiet s
  unfold State.deliverKey
  dsimp only
  split
  · exact kept_trans quiet (kept_modRow r _ _)
  · exact kept_trans quiet (kept_modRow r _ _)
  · exact kept_trans quiet (kept_modRow r _ _)
  · exact kept_trans quiet (kept_sendRequest r _ _ _)
  · exact kept_trans quiet (kept_sendRequest r _ _ _)

theorem kept_deliverReleased (r : Fin 48) (s : State) : Kept s (s.deliverReleased r) := by
  unfold State.deliverReleased
  dsimp only
  split
  · split
    · exact kept_deliverKey r _ s
    · exact kept_refl s
  · exact kept_refl s

theorem kept_takeReport (r : Fin 48) (x : Finding) (s : State) : Kept s (s.takeReport r x) := by
  unfold State.takeReport
  split
  · exact kept_refl s
  · exact kept_trans (kept_modRow r _ s) (kept_whileRunning (kept_takePresent r) _)

theorem kept_takeAnswer (a : PostAnswer) (s : State) : Kept s (s.takeAnswer a) := by
  unfold State.takeAnswer
  split
  · exact kept_modRow _ _ s
  · exact kept_refl s

theorem kept_abortRow (line : Byte) (s : State) : Kept s (abortRow line s).state := by
  unfold abortRow
  split
  · exact kept_refl s
  split
  · exact kept_refl s
  · exact kept_trans (kept_modRow _ _ s) (kept_takePresent _ _)

theorem kept_readRow (line : Byte) (s : State) : Kept s (readRow line s).state := by
  unfold readRow
  split <;> exact kept_refl s

theorem kept_rowsLost (n : Fin 6) (s : State) : Kept s (s.rowsLost n) :=
  kept_each (fun r => by exact kept_modRow r _) _ s

theorem kept_rowsGained (n : Fin 6) (s : State) : Kept s (s.rowsGained n) := kept_each kept_takePresent _ s

/-! ## Domains (R168 to R179) -/

/-- A change of the domains that keeps the state and the line of each. -/
theorem kept_modDoms {f : DomainControl → DomainControl} (s : State)
    (h : ∀ d : Fin 8, (f s.doms).domains[d].state = s.doms.domains[d].state ∧
      (f s.doms).domains[d].stopReq = s.doms.domains[d].stopReq) : Kept s (s.modDoms f) where
  stop good d := by
    obtain ⟨state, line⟩ := h d
    rw [modDoms_doms, state, line]
    exact good d
  windows := fun ⟨windows, night⟩ => ⟨fun m => (windows m).trans
    (windowCondition_of_state (t := s.modDoms f) (s := s) rfl
      (congrArg (fun x => decide (x = DomainState.active)) (h kitchen).1) rfl rfl).symm, night⟩

/-- A change of a domain that keeps its state and line. -/
theorem kept_modDomain (d : Fin 8) {f : Domain → Domain} (s : State)
    (h : ∀ x : Domain, (f x).state = x.state ∧ (f x).stopReq = x.stopReq := by exact fun _ => ⟨rfl, rfl⟩) :
    Kept s (s.modDomain d f) :=
  kept_modDoms s fun e => by
    simp only [upd_get]
    split
    next same => subst same; exact h _
    next => exact ⟨rfl, rfl⟩

/-- A domain in a new state, its line with it. -/
theorem keptApart_enterDomain (d : Fin 8) (st : DomainState) (t : Timer) (s : State) :
    KeptApart s (s.modDomain d (Domain.enter st t)) where
  stop good e := by
    simp only [modDomain_doms, upd_get]
    split
    · rfl
    · exact good e

/-- The windows look at KITCHEN alone, and at it only for being ACTIVE. -/
theorem kept_enterDomain (d : Fin 8) (st : DomainState) (t : Timer) (s : State)
    (h : d ≠ kitchen ∨ (st ≠ .active ∧ s.doms.domains[d].state ≠ .active)) :
    Kept s (s.modDomain d (Domain.enter st t)) where
  toKeptApart := keptApart_enterDomain d st t s
  windows := fun ⟨windows, night⟩ => by
    refine ⟨fun m => (windows m).trans
      (windowCondition_of_state (t := s.modDomain d (Domain.enter st t)) (s := s) rfl ?_ rfl rfl).symm, night⟩
    simp only [State.active, modDomain_doms, upd_get]
    split
    next same =>
      obtain ⟨after, before⟩ := h.resolve_left (not_not.mpr same)
      rw [← same]
      simp only [Domain.enter, after, before]
    next => rfl

theorem reportLost_kitchen (s : State) : s.reportLost kitchen = s.recomputeWindows := rfl

theorem reportGained_kitchen (s : State) : s.reportGained kitchen = s.recomputeWindows := rfl

theorem kept_reportLost {d : Fin 8} (h : d ≠ kitchen) (s : State) : Kept s (s.reportLost d) := by
  unfold State.reportLost
  split
  · exact kept_trans (kept_trans (kept_domainLost _ s) (kept_updateWanting _ _)) (kept_rowsLost _ _)
  · rw [if_neg h]
    exact kept_refl s

theorem kept_reportGained {d : Fin 8} (h : d ≠ kitchen) (s : State) : Kept s (s.reportGained d) := by
  unfold State.reportGained
  split
  · exact kept_trans (kept_trans (kept_trans (kept_examineStart _ s) (kept_updateWanting _ _)) (kept_rowsGained _ _))
      (kept_queueRows _ _)
  · rw [if_neg h]
    exact kept_refl s

theorem kept_domainActive (d : Fin 8) (s : State) : Kept s (s.domainActive d) := by
  unfold State.domainActive
  by_cases h : d = kitchen
  · subst h
    rw [reportGained_kitchen]
    exact kept_recomputeWindows (keptApart_enterDomain kitchen .active none s) fun good => good.2
  · exact kept_trans (kept_enterDomain d _ _ s (.inl h)) (kept_reportGained h _)

theorem kept_examineDomain (d : Fin 8) (s : State) : Kept s (s.examineDomain d) := by
  unfold State.examineDomain
  split
  · exact kept_trans (kept_domainActive d s) (kept_raiseBooth _ _)
  · exact kept_refl s

theorem kept_domainWaking {d : Fin 8} {s : State} (h : s.doms.domains[d].state ≠ .active) :
    Kept s (s.domainWaking d) :=
  kept_trans (kept_enterDomain d .waking _ s (.inr ⟨by decide, h⟩)) (kept_examineDomain d _)

theorem kept_domainReturn {d : Fin 8} {s : State} (h : s.doms.domains[d].state ≠ .active) :
    Kept s (s.domainReturn d) := by
  unfold State.domainReturn
  split
  · exact kept_domainActive d s
  · exact kept_domainWaking h

theorem not_active_of_state {d : Fin 8} {s : State} {x : DomainState} (h : s.doms.domains[d].state = x)
    (hx : x ≠ .active := by decide) : s.doms.domains[d].state ≠ .active := by rwa [h]

theorem active_eq_false {d : Fin 8} {s : State} (h : ¬ s.active d = true) : s.doms.domains[d].state ≠ .active :=
  fun active => h (decide_eq_true active)

theorem kept_domainStopping (d : Fin 8) (s : State) : Kept s (s.domainStopping d) := by
  unfold State.domainStopping
  dsimp only
  split
  · by_cases h : d = kitchen
    · subst h
      rw [reportLost_kitchen]
      exact kept_recomputeWindows (keptApart_enterDomain kitchen _ _ s) fun good => good.2
    · exact kept_trans (kept_enterDomain d _ _ s (.inl h)) (kept_reportLost h _)
  next inactive => exact kept_enterDomain d _ _ s (.inr ⟨by decide, active_eq_false inactive⟩)

theorem kept_domainFaulted (d : Fin 8) (s : State) : Kept s (s.domainFaulted d) := by
  unfold State.domainFaulted
  dsimp only
  split
  · by_cases h : d = kitchen
    · subst h
      rw [reportLost_kitchen]
      exact kept_recomputeWindows (u := (s.modDomain kitchen (Domain.enter .faulted none)).raiseBooth .domainTimeout)
        { attention := (kept_raiseBooth _ s).attention, stop := (keptApart_enterDomain kitchen _ _ s).stop }
        fun good => good.2
    · exact kept_trans (kept_trans (kept_enterDomain d _ _ s (.inl h)) (kept_raiseBooth _ _)) (kept_reportLost h _)
  next inactive =>
    exact kept_trans (kept_enterDomain d _ _ s (.inr ⟨by decide, active_eq_false inactive⟩)) (kept_raiseBooth _ _)

theorem kept_endRest (d : Fin 8) (s : State) : Kept s (s.endRest d) := by
  unfold State.endRest
  split
  next stopping => exact kept_domainReturn (not_active_of_state stopping)
  next resting => exact kept_domainWaking (not_active_of_state resting)
  all_goals exact kept_refl s

theorem kept_examineStatus (s : State) : Kept s s.examineStatus := by
  unfold State.examineStatus
  split
  · exact kept_raiseBooth _ s
  · exact kept_refl s

theorem kept_domainResting {d : Fin 8} {s : State} (h : s.doms.domains[d].state ≠ .active) :
    Kept s (s.domainResting d) :=
  kept_trans (kept_enterDomain d .resting _ s (.inr ⟨by decide, h⟩)) (kept_examineStatus _)

theorem kept_clearStatus (d : Fin 8) (s : State) : Kept s (s.modDomain d fun x => { x with status := false }) :=
  kept_modDomain d s

theorem kept_withdrawRest (n : Fin 6) (s : State) : Kept s (s.withdrawRest n) := by
  have ended := kept_trans (kept_clearStatus (screenDomain n) s) (kept_endRest (screenDomain n) _)
  unfold State.withdrawRest
  dsimp only
  split
  · exact ended
  · exact ended
  all_goals exact kept_refl s

theorem kept_leaveDark (n : Fin 6) (s : State) : Kept s (s.leaveDark n) :=
  kept_trans (kept_trans (kept_setShow n _ s) (kept_withdrawRest n _)) (kept_updateWanting n _)

theorem kept_restCondition (d : Fin 8) (s : State) : Kept s (s.restCondition d).2 := by
  unfold State.restCondition
  split
  · exact kept_refl s
  · split
    · exact kept_readOrders _ s
    · exact kept_refl s

theorem kept_planFault (l : List (Fin 8)) (s : State) : Kept s (s.planFault l).2 := by
  induction l generalizing s with
  | nil => exact kept_refl s
  | cons d rest ih =>
    have condition := kept_restCondition d s
    unfold State.planFault
    split
    · generalize s.restCondition d = r at *
      obtain ⟨holds, u⟩ := r
      cases holds with
      | true => exact kept_trans condition (ih u)
      | false => exact condition
    · exact ih s

theorem kept_applyPlan (d : Fin 8) (s : State) : Kept s (s.applyPlan d) := by
  unfold State.applyPlan
  dsimp only
  split
  · exact kept_domainStopping d s
  · exact kept_domainStopping d s
  · exact kept_domainStopping d s
  · exact kept_refl s
  · exact kept_refl s
  · exact kept_endRest d s
  · exact kept_endRest d s
  all_goals exact kept_refl s

theorem kept_restCommand (s : State) : Kept s (restCommand s).state := by
  have plan := kept_planFault (List.finRange 8) s
  unfold restCommand
  generalize s.planFault (List.finRange 8) = r at *
  obtain ⟨fault, u⟩ := r
  cases fault with
  | some d => exact plan
  | none =>
    dsimp only
    rw [ok_state]
    refine kept_trans plan (kept_trans (kept_trans (kept_modDoms u fun d => ?_) (kept_each kept_applyPlan _ _))
      (kept_examineStatus _))
    have record := EquipmentDomains.copyPlan_record d u
    exact ⟨(congrArg Domain.state record :), (congrArg Domain.stopReq record :)⟩

theorem kept_setRestPlan (plan : Byte) (s : State) : Kept s (setRestPlan plan s).state := by
  rw [EquipmentDomains.setRestPlan_eq, ok_state]
  refine kept_modDoms s fun d => ?_
  have record := EquipmentDomains.planned_record plan d s
  exact ⟨(congrArg Domain.state record :), (congrArg Domain.stopReq record :)⟩

theorem kept_wakeCommand (domain : Byte) (s : State) : Kept s (wakeCommand domain s).state := by
  unfold wakeCommand
  split
  · exact kept_refl s
  · exact kept_trans (kept_clearStatus _ s) (kept_endRest _ _)

theorem kept_modInput (d : Fin 8) (i : DomainInput) (f : Input → Input) (s : State) :
    Kept s (s.modDomain d (Domain.modInput i f)) :=
  kept_modDomain d s fun x => by cases i <;> exact ⟨rfl, rfl⟩

theorem kept_domainLevel (d : Fin 8) (i : DomainInput) (s : State) : Kept s (s.domainLevel d i) := by
  unfold State.domainLevel
  dsimp only
  split
  next stopping =>
    split
    · exact kept_domainResting (not_active_of_state stopping)
    · exact kept_refl s
  · exact kept_refl s
  · exact kept_examineDomain d s
  · exact kept_examineDomain d s
  · split
    · exact kept_domainFaulted d s
    · exact kept_refl s

theorem kept_domainLevelChange (d : Fin 8) (i : DomainInput) (s : State) :
    Kept s (if (s.doms.domains[d].input i).timer.isSome then
      (s.modDomain d (Domain.modInput i Input.qualify)).domainLevel d i else s) := by
  split
  · exact kept_trans (kept_modInput d i _ s) (kept_domainLevel d i _)
  · exact kept_refl s

theorem kept_acknowledgeTimer (d : Fin 8) (s : State) :
    Kept s (if s.doms.domains[d].state = .stopping ∧ s.doms.domains[d].timer.isSome then
      ((s.modDomain d fun x => { x with status := false }).raiseBooth .domainTimeout).domainReturn d else s) := by
  split
  next stopping =>
    refine kept_trans (kept_trans (kept_clearStatus d s) (kept_raiseBooth _ _)) (kept_domainReturn ?_)
    have record : ((s.modDomain d fun x => { x with status := false }).raiseBooth .domainTimeout).doms.domains[d] =
      { s.doms.domains[d] with status := false } := upd_get_same _ _ _
    rw [record]
    exact not_active_of_state stopping.1
  · exact kept_refl s

/-! ## Show commands and events (chapter 4) -/

theorem kept_loadShow (screen count : Byte) (segments : List (BitVec 32)) (start : Word24) (s : State) :
    Kept s (loadShow screen count segments start s).state := by
  unfold loadShow
  dsimp only
  split
  next n t _ _ =>
    split
    · exact kept_refl s
    split
    · exact kept_refl s
    split
    · exact kept_refl s
    split
    · exact kept_refl s
    have stored : Kept s (s.storeShow n (segments.map Segment.ofWord) t) := kept_modScreen n s
    rw [ok_state]
    refine kept_trans (kept_trans stored ?_) (kept_examineStart n _)
    split
    · exact kept_leaveDark n _
    · exact kept_refl _
  · exact kept_refl s

theorem kept_setStartTime (screen : Byte) (t : Option (Option Nat)) (s : State) :
    Kept s (setStartTime screen t s).state := by
  unfold setStartTime
  split
  · split
    · exact kept_refl s
    · exact kept_trans (kept_modScreen _ s) (kept_examineStart _ _)
  · exact kept_refl s

theorem kept_holdShow (screen : Byte) (s : State) : Kept s (holdShow screen s).state := by
  unfold holdShow
  split
  · exact kept_refl s
  split
  · exact kept_addHold _ _ s
  · exact kept_refl s

theorem kept_resumeShow (screen : Byte) (s : State) : Kept s (resumeShow screen s).state := by
  unfold resumeShow
  split
  · exact kept_refl s
  split
  · exact kept_removeHold _ _ s
  · exact kept_refl s

theorem kept_endShowCommand (screen : Byte) (s : State) : Kept s (endShowCommand screen s).state := by
  unfold endShowCommand
  split
  · exact kept_refl s
  split
  · exact kept_refl s
  · exact kept_refl s
  all_goals exact kept_endShow _ s

theorem kept_readScreen (screen : Byte) (s : State) : Kept s (readScreen screen s).state := by
  unfold readScreen
  split <;> exact kept_refl s

theorem kept_projectorLevel (n : Fin 6) (w : ProjectorLevel) (s : State) : Kept s (s.projectorLevel n w) := by
  have levels : Kept s (if (w = .fault ∧ s.shows.screens[n].fault.level) ∨
        (w = .running ∧ s.shows.screens[n].running.level = false) then s.addHold n .projector
      else if s.shows.screens[n].fault.level = false ∧ s.shows.screens[n].running.level then s.removeHold n .projector
      else s) := by
    split
    · exact kept_addHold n _ s
    split
    · exact kept_removeHold n _ s
    · exact kept_refl s
  unfold State.projectorLevel
  dsimp only
  split
  · split
    · exact kept_beginShow n s
    · exact kept_refl s
  · exact levels
  · exact levels
  · exact levels
  all_goals exact kept_refl s

theorem kept_modLevel (n : Fin 6) (w : ProjectorLevel) (f : Input → Input) (s : State) :
    Kept s (s.modScreen n (Screen.modLevel w f)) :=
  kept_modScreen n s fun c => by cases w <;> exact ⟨rfl, rfl, rfl⟩

theorem kept_inputChange (n : Fin 6) (running : Bool) (i : ProjectorInput) (high : Bool) (s : State) :
    Kept s (s.modScreen n (Screen.inputChange running i high)) :=
  kept_modScreen n s fun c => by cases i <;> exact ⟨rfl, rfl, rfl⟩

theorem kept_mark (n : Fin 6) (s : State) : Kept s (s.mark n) := by
  unfold State.mark
  dsimp only
  split
  · split
    · split
      · exact kept_enterSegment n _ s
      · exact kept_endShow n s
    · exact kept_refl s
  · exact kept_refl s

theorem kept_projectorLevelChange (n : Fin 6) (w : ProjectorLevel) (s : State) :
    Kept s (if (s.shows.screens[n].level w).timer.isSome then
      (s.modScreen n (Screen.modLevel w Input.qualify)).projectorLevel n w else s) := by
  split
  · exact kept_trans (kept_modLevel n w _ s) (kept_projectorLevel n w _)
  · exact kept_refl s

theorem kept_startTimer (n : Fin 6) (s : State) :
    Kept s (if s.shows.screens[n].state = .starting ∧ s.shows.screens[n].startTimer.isSome then
      ((s.modScreen n fun c => { c with start := none }).abandonStart n).raiseBooth .projectorFault else s) := by
  split
  · exact kept_trans (kept_trans (kept_modScreen n s) (kept_abandonStart n _)) (kept_raiseBooth _ _)
  · exact kept_refl s

/-- A change of the shows that keeps the state and the lines of every screen. -/
theorem kept_modShows {f : ShowControl → ShowControl} (s : State)
    (h : ∀ n : Fin 6, (f s.shows).screens[n].state = s.shows.screens[n].state ∧
      (f s.shows).screens[n].runReq = s.shows.screens[n].runReq ∧
      (f s.shows).screens[n].pauseReq = s.shows.screens[n].pauseReq) : Kept s (s.modShows f) where
  projector good n := by
    obtain ⟨state, run, pause⟩ := h n
    rw [modShows_shows, state, run, pause]
    exact good n
  windows := fun ⟨windows, night⟩ => ⟨fun m => (windows m).trans
    (windowCondition_of_state (t := s.modShows f) (s := s) rfl rfl rfl (h m).1).symm, night⟩

/-- A change of every screen alike that keeps its state and lines. -/
theorem kept_mapScreens {f : Screen → Screen} (s : State)
    (h : ∀ c : Screen, (f c).state = c.state ∧ (f c).runReq = c.runReq ∧ (f c).pauseReq = c.pauseReq :=
      by exact fun _ => ⟨rfl, rfl, rfl⟩) :
    Kept s (s.modShows fun c => { c with screens := c.screens.map f }) :=
  kept_modShows s fun n => by
    simp only [Fin.getElem_fin, Vector.getElem_map]
    exact h _

theorem tickSecond_clock {n : Night} (h : n.clock ≤ Config.lastSecond) : n.tickSecond.clock ≤ Config.lastSecond := by
  show (if n.clock < Config.lastSecond then n.clock + 1 else n.clock) ≤ _
  split <;> omega

theorem kept_nightSecond (s : State) : Kept s (if s.night.state = .closed then s else
    ((s.modNight Night.tickSecond).modShows fun c =>
      { c with screens := c.screens.map Screen.tickSecond }).each (List.finRange 6) State.examineStart) := by
  split
  · exact kept_refl s
  · refine kept_trans (kept_trans (kept_modNight s (clock := tickSecond_clock)) (kept_mapScreens _ fun c => ?_))
      (kept_each kept_examineStart _ _)
    unfold Screen.tickSecond
    split <;> exact ⟨rfl, rfl, rfl⟩

/-! ## Channel commands and events (chapter 5) -/

theorem kept_retune (screen : Byte) (s : State) : Kept s (retune screen s).state := by
  unfold retune
  split
  · exact kept_refl s
  split
  · split
    · exact kept_announceChannel _ _ _ _ s
    · exact kept_refl s
  all_goals exact kept_refl s

theorem kept_quarantineCommand (channel : Byte) (s : State) : Kept s (quarantineCommand channel s).state := by
  unfold quarantineCommand
  split
  · exact kept_refl s
  dsimp only [ok_state]
  split
  · exact kept_quarantine _ s
  · exact kept_quarantine _ s
  · exact kept_carrierFaultAt _ s
  · split
    · exact kept_announcedQuarantined _ _ _ _ s
    · exact kept_refl s

/-- A change of the channel manager that keeps the sounds. -/
theorem kept_modChans {f : ChannelManager → ChannelManager} (s : State)
    (h : ∀ n : Fin 6, (f s.chans).sounds[n].chsel = s.chans.sounds[n].chsel ∧
      (f s.chans).sounds[n].sound = s.chans.sounds[n].sound := by exact fun _ => ⟨rfl, rfl⟩) :
    Kept s (s.modChans f) where
  codes good n := by
    obtain ⟨code, sound⟩ := h n
    rw [modChans_chans, code, sound]
    exact good n

theorem kept_carrierOk (n : Fin 6) (high : Bool) (s : State) :
    Kept s (if s.chans.sounds[n].carrierOk = high then s
      else (s.modSound n fun r => { r with carrierOk := high }).whileRunning fun s =>
        s.modSound n (SoundRecord.takeLine s.chans.faultTime)) := by
  split
  · exact kept_refl s
  · refine kept_trans (kept_modSound n s) (kept_whileRunning (fun u => ?_) _)
    refine kept_modSound n u fun r h => ?_
    obtain ⟨code, sound⟩ := takeLine_code u.chans.faultTime r
    rw [code, sound, h]

theorem kept_carrierFault (n : Fin 6) (s : State) :
    Kept s (if s.chans.sounds[n].faultTimer.isSome then
      (s.modSound n fun r => { r with faultTimer := none, spent := true, carrierLevel := false }).carrierFaultAt n
      else s) := by
  split
  · exact kept_trans (kept_modSound n s) (kept_carrierFaultAt n _)
  · exact kept_refl s

/-! ## Store commands (chapter 10) -/

theorem kept_storeRead (area unit : Byte) (s : State) : Kept s (storeRead area unit s).state := by
  unfold storeRead
  split
  · split
    · exact kept_refl s
    · exact kept_readUnit _ _ s
  · exact kept_refl s

theorem kept_storeProgram (area unit : Byte) (content : List Byte) (s : State) :
    Kept s (storeProgram area unit content s).state := by
  unfold storeProgram
  split
  · split
    · exact kept_refl s
    split
    · exact kept_refl s
    dsimp only
    split
    · exact kept_readUnit _ _ s
    · dsimp only
      exact kept_trans (kept_readUnit _ _ s) (kept_modStore _ _)
  · exact kept_refl s

theorem kept_storeErase (area : Byte) (s : State) : Kept s (storeErase area s).state := by
  unfold storeErase
  split
  · exact kept_refl s
  split
  · exact kept_refl s
  split
  · exact kept_refl s
  · dsimp only
    exact kept_modStore _ s

end Sys2Proof.Invariants
end

section
/-!
SUPPORT. The night commands, the port commands, the patrol, the resets and the frames keep the invariants, and so does
every millisecond (chapters 8 and 11).
-/

namespace Sys2Proof.Invariants

open Sys2Proof Sys2Proof.Machine Sys2Proof.NightUnit

/-! Many steps below fill in defaults that are tactic blocks, so the proofs are elaborated in order, as in the files
before. -/

set_option Elab.async false

variable {s t u : State}

/-! ## CLOSE_NIGHT and FORCE_CLOSE (R161, R163) -/

theorem kept_enterClosing {s : State} (h : s.night.state = .opened) : Kept s (enterClosing s) :=
  kept_recomputeWindows {} fun good phase => by
    have closed := good.2 phase
    rw [h] at closed
    cases closed

theorem kept_closeNightCommand (s : State) : Kept s (closeNightCommand s).state := by
  cases h : s.night.state with
  | closed => rw [closeNightCommand_closed h]; exact kept_refl s
  | closing => rw [closeNightCommand_closing h]; exact kept_refl s
  | opened =>
    rw [closeNightCommand_opened h, ok_state]
    exact kept_trans (kept_enterClosing h) (kept_examineClose _)

theorem kept_tearOrders (l : List (Fin 256)) (s : State) : Kept s (s.tearOrders l).2 := by
  induction l generalizing s with
  | nil => exact kept_refl s
  | cons k rest ih => exact kept_trans (kept_trans (kept_readOrder k s) (kept_retireOrderSlot k _)) (ih _)

theorem kept_tearStall (i : Fin 1024) (s : State) : Kept s (s.tearStall i) := by
  have read := kept_trans (kept_emptied i s) (kept_readStall i _)
  unfold State.tearStall
  dsimp only
  split
  · exact kept_refl s
  split
  · exact kept_trans read (kept_writeStall i _ _)
  split
  · exact read
  · exact kept_trans read (kept_writeStall i _ _)

theorem kept_emptyQueues (s : State) :
    Kept s (s.modLot fun l => { l with queues := Vector.replicate 6 [] }) := kept_modLot s

theorem kept_tearLot (s : State) : Kept s s.tearLot :=
  kept_trans (kept_emptyQueues s) (kept_each kept_tearStall _ _)

theorem laneKept_tearDown (l : Lane) : LaneKept l l.tearDown := by
  refine laneKept_shut rfl ?_
  show (if l.role = .unused then LaneState.idle else l.restState).open = false
  split
  · rfl
  · exact restState_open l

theorem kept_tearLane (n : Fin 4) (s : State) : Kept s (s.tearLane n) := by
  unfold State.tearLane
  dsimp only
  split
  · exact kept_modLane laneKept_tearDown
  · exact kept_trans (kept_modLane laneKept_tearDown) (kept_announcePresent n _)

theorem kept_tearScreen (n : Fin 6) (s : State) : Kept s (s.tearScreen n) :=
  kept_trans (kept_modScreen n s) (kept_setShow n _ _)

theorem kept_tearSound (n : Fin 6) (s : State) : Kept s (s.tearSound n) :=
  kept_trans (kept_modSound n s) (kept_setSound n _ _)

theorem kept_standDown (s : State) :
    Kept s (s.modOrds fun o => { o with kitchen := [], runners := o.runners.map Runner.makeReady }) := kept_modOrds s

theorem kept_zeroLive (s : State) : Kept s (s.modGate fun g => { g with live := Vector.replicate 6 0 }) :=
  kept_modGate s

theorem kept_forced (k : Nat) (s : State) : Kept s (s.modNight fun x => { x with forced := x.forced + k }) :=
  kept_modNight s

theorem kept_letGo (s : State) : Kept s (s.modChans fun m => { m with channels := m.channels.map Channel.letGo }) :=
  kept_modChans s

theorem kept_tearRecords (s : State) : Kept s s.tearRecords.2.2 := by
  unfold State.tearRecords
  exact kept_trans (kept_trans (kept_trans (kept_trans (kept_trans (kept_trans (kept_tearOrders _ s)
    (kept_standDown _)) (kept_writeOff _ _)) (kept_tearLot _)) (kept_each kept_retireAdmSlot _ _)) (kept_zeroLive _))
    (kept_forced _ _)

theorem kept_tearSite (s : State) : Kept s s.tearSite :=
  kept_trans (kept_trans (kept_trans (kept_each kept_tearLane _ s) (kept_each kept_tearScreen _ _)) (kept_letGo _))
    (kept_each kept_tearSound _ _)

theorem kept_forceClose (s : State) : Kept s (forceClose s).state := by
  unfold forceClose
  split
  · exact kept_refl s
  · dsimp only
    rw [ok_state]
    exact kept_trans (kept_trans (kept_tearRecords s) (kept_tearSite _)) (kept_closeNight _)

/-! ## OPEN_NIGHT (R159, R160) -/

theorem kept_opening (s : State) : Kept s (s.modNight Night.opening) :=
  kept_modNight s (clock := fun _ => Nat.zero_le _) (takings := fun _ => Nat.zero_le _)
    (writeOffs := fun _ => Nat.zero_le _) (delivered := fun _ => Nat.zero_le _)

/-- No window looks at the lot while the night is not OPEN. -/
theorem kept_modLot_closed (f : LotMap → LotMap) {s : State} (h : s.night.state ≠ .opened) : Kept s (s.modLot f) where
  windows := fun ⟨windows, night⟩ => by
    refine ⟨fun m => (windows m).trans ?_, night⟩
    rw [windowCondition_notOpened m h, windowCondition_notOpened m (by exact h)]

theorem kept_buildLot {s : State} (h : s.night.state ≠ .opened) : Kept s s.buildLot := by
  unfold State.buildLot
  dsimp only
  refine kept_trans (kept_readUnits s.store.layoutUnits s) (kept_trans (kept_modLot_closed _ ?_) (kept_modMem _))
  rw [State.readUnits_frame]
  exact h

theorem kept_loadSettings (s : State) : Kept s s.loadSettings := by
  unfold State.loadSettings
  dsimp only
  refine kept_trans (kept_readUnits settingUnits s) ?_
  generalize s.readUnits settingUnits = u
  refine kept_trans (kept_trans (kept_trans (kept_trans (kept_trans (kept_trans (kept_modGate u) (kept_modShows _ ?_))
    (kept_modChans _)) (kept_modPosts _ _)) (kept_modOrds _)) (kept_modMem _)) (kept_modDoms _ ?_)
  · exact fun _ => ⟨rfl, rfl, rfl⟩
  · exact fun _ => ⟨rfl, rfl⟩

theorem kept_openRows (s : State) : Kept s s.openRows :=
  kept_each (fun r s => by exact kept_trans (kept_modRow r _ s) (kept_takePresent r _)) _ s

theorem kept_readShow (n : Fin 6) (s : State) : Kept s (s.readShow n) := by
  have header := kept_readUnits [unitIndex 5 (headerUnit n)] s
  unfold State.readShow
  dsimp only
  split
  · exact kept_trans header (kept_readUnits _ _)
  · exact header

theorem kept_storeShow (n : Fin 6) (l : List Segment) (start : Option Nat) (s : State) :
    Kept s (s.storeShow n l start) := kept_modScreen n s

theorem kept_openScreen (n : Fin 6) (s : State) : Kept s (s.openScreen n) := by
  unfold State.openScreen
  split
  · exact kept_refl s
  dsimp only
  split
  · exact kept_trans (kept_readShow n s) (kept_trans (kept_trans (kept_storeShow n _ _ _) (kept_leaveDark n _))
      (kept_examineStart n _))
  · exact kept_readShow n s

theorem laneKept_openLane (role : LaneRole) (l : Lane) :
    LaneKept l ({ l with role := role, passes := 0, tailgates := 0, voids := 0 }.tearDown) where
  barrier _ := by
    have rest := restState_open l
    show false = (if role = .unused then LaneState.idle else l.restState).open
    split
    · rfl
    · exact rest.symm
  passes _ := Nat.zero_le _
  tailgates _ := Nat.zero_le _
  voids _ := Nat.zero_le _

theorem kept_openLane (n : Fin 4) (s : State) : Kept s (s.openLane n) :=
  kept_trans (kept_modLane (laneKept_openLane _)) (kept_announcePresent n _)

theorem kept_zeroCounts (s : State) : Kept s (s.modGate fun g =>
    { g with live := Vector.replicate 6 0, admitted := Vector.replicate 6 0 }) :=
  kept_modGate s (counts := fun _ n => by
    show (Vector.replicate 6 0)[n] ≤ _
    simp)

theorem kept_openLanes (s : State) : Kept s s.openLanes := by
  unfold State.openLanes
  exact kept_trans (kept_trans (kept_readUnits _ s) (kept_each kept_openLane _ _)) (kept_zeroCounts _)

theorem kept_nightOpens {s : State} (h : s.sys.phase = .running) : Kept s s.nightOpens := by
  unfold State.nightOpens
  refine kept_trans (kept_recomputeWindows ?apart ?running) (kept_showAllWords _)
  case apart => exact {}
  case running => exact fun _ phase => absurd h phase

/-! ### OPEN_NIGHT as a whole -/

/-- The state of OPEN_NIGHT before the default shows: the totals, the lot, the settings, the rows, the runners and the
screens. -/
def loaded (s : State) : State :=
  ((((s.modNight Night.opening).buildLot.loadSettings.openRows).modOrds fun o =>
    { o with runners := o.runners.map Runner.makeReady }).modShows fun c =>
      { c with screens := c.screens.map Screen.opening })

/-- The state of OPEN_NIGHT before the lanes. -/
def shown (s : State) : State := (loaded s).each (List.finRange 6) State.openScreen

theorem openSteps_eq (s : State) : s.openSteps = (shown s).openLanes.nightOpens := rfl

theorem kept_makeReady (s : State) :
    Kept s (s.modOrds fun o => { o with runners := o.runners.map Runner.makeReady }) := kept_modOrds s

theorem kept_loaded {s : State} (h : s.night.state ≠ .opened) : Kept s (loaded s) :=
  kept_trans (kept_trans (kept_trans (kept_trans (kept_trans (kept_opening s) (kept_buildLot (by exact h)))
    (kept_loadSettings _)) (kept_openRows _)) (kept_makeReady _)) (kept_mapScreens _)

theorem kept_shown {s : State} (h : s.night.state ≠ .opened) : Kept s (shown s) :=
  kept_trans (kept_loaded h) (kept_each kept_openScreen _ _)

theorem buildLot_sys (s : State) : s.buildLot.sys = s.sys := by
  simp only [State.buildLot, modMem_sys, modLot_sys]
  exact readFrame_sys (readUnits_readFrame _ s)

theorem loadSettings_sys (s : State) : s.loadSettings.sys = s.sys := by
  simp only [State.loadSettings, modDoms_sys, modMem_sys, modOrds_sys, modPosts_sys, modChans_sys, modShows_sys,
    modGate_sys]
  exact readFrame_sys (readUnits_readFrame _ s)

theorem takePresent_sys (r : Fin 48) (s : State) : (s.takePresent r).sys = s.sys :=
  domainFrame_sys (takePresent_domainFrame r s)

theorem openRows_sys (s : State) : s.openRows.sys = s.sys :=
  each_keeps (fun t => t.sys = s.sys) rfl (fun r t ht => by exact (takePresent_sys r _).trans ht) _

theorem loaded_sys (s : State) : (loaded s).sys = s.sys := by
  rw [loaded, modShows_sys, modOrds_sys, openRows_sys, loadSettings_sys, buildLot_sys, modNight_sys]

theorem readShow_readFrame (n : Fin 6) (s : State) : s.readFrame (s.readShow n) := by
  have header := readUnits_readFrame [unitIndex 5 (headerUnit n)] s
  unfold State.readShow
  dsimp only
  split
  · exact readFrame_trans header (readUnits_readFrame _ _)
  · exact header

theorem openScreen_sys (n : Fin 6) (s : State) : (s.openScreen n).sys = s.sys := by
  have read := readFrame_sys (readShow_readFrame n s)
  unfold State.openScreen
  split
  · rfl
  dsimp only
  split
  · exact (showFrame_sys (examineStart_showFrame n _)).trans ((domainFrame_sys (leaveDark_domainFrame n _)).trans read)
  · exact read

theorem shown_sys (s : State) : (shown s).sys = s.sys :=
  each_keeps (fun t => t.sys = s.sys) (loaded_sys s) (fun n t ht => (openScreen_sys n t).trans ht) _

theorem announcePresent_sys (n : Fin 4) (s : State) : (s.announcePresent n).sys = s.sys := by
  unfold State.announcePresent
  split <;> rfl

theorem openLane_sys (n : Fin 4) (s : State) : (s.openLane n).sys = s.sys := announcePresent_sys n _

theorem openLanes_sys (s : State) : s.openLanes.sys = s.sys := by
  unfold State.openLanes
  rw [modGate_sys]
  exact each_keeps (fun t => t.sys = s.sys) (readFrame_sys (readUnits_readFrame _ s))
    (fun n t ht => (openLane_sys n t).trans ht) _

theorem kept_openSteps {s : State} (h : s.night.state ≠ .opened) (running : s.sys.phase = .running) :
    Kept s s.openSteps := by
  rw [openSteps_eq]
  refine kept_trans (kept_trans (kept_shown h) (kept_openLanes _)) (kept_nightOpens ?_)
  rw [openLanes_sys, shown_sys, running]

theorem kept_openNight {s : State} (running : s.sys.phase = .running) : Kept s (openNight s).state := by
  unfold openNight
  split
  · exact kept_refl s
  next notClosed =>
    split
    · exact kept_refl s
    have read := kept_readUnits (((List.finRange 384).drop 64).take 256) s
    have frame := readUnits_readFrame (((List.finRange 384).drop 64).take 256) s
    dsimp only
    generalize s.readUnits (((List.finRange 384).drop 64).take 256) = u at *
    split
    · exact read
    · rw [ok_state]
      refine kept_trans read (kept_openSteps ?_ ?_)
      · rw [readFrame_night frame, not_not.mp notClosed]
        decide
      · rw [readFrame_sys frame, running]

end Sys2Proof.Invariants
end

section
/-!
SUPPORT. The port commands, the patrol, the resets, the frames and every millisecond keep the invariants, and with them
every step (chapter 11), and the statements about the invariants that every step keeps.
-/

namespace Sys2Proof.Invariants

open Sys2Proof Sys2Proof.Machine Sys2Proof.NightUnit

/-! Many steps below fill in defaults that are tactic blocks, so the proofs are elaborated in order, as in the files
before. -/

set_option Elab.async false

variable {s t u : State}

/-! ## Port commands (R200, R204, R208) and the monitor (R19) -/

theorem kept_readPort (p : PortId) (s : State) : Kept s (readPort p s).state :=
  kept_modPort p (f := Port.clearFlags) (fun _ h => h) s

theorem attentionGood_takeAttention {p : PortId} {r : Port} (h : r.attentionGood p) :
    r.takeAttention.attentionGood p :=
  ⟨rfl, by simp [Port.takeAttention, Port.withLine], h.2.2⟩

theorem kept_readAttention (p : PortId) (s : State) : Kept s (readAttention p s).state :=
  kept_modPort p (fun _ => attentionGood_takeAttention) s

theorem kept_setAttentionMask (p : PortId) (mask : Word24) (s : State) :
    Kept s (setAttentionMask p mask s).state := by
  unfold setAttentionMask
  split
  · exact kept_refl s
  next fits =>
    obtain fits := not_not.mp fits
    exact kept_modPort p (f := Port.setMask mask) (fun r h => ⟨rfl, h.2.1, fits⟩) s

theorem kept_clearIntegrity (s : State) : Kept s (clearIntegrity s).state where
  limits := fun ⟨_, rest⟩ => ⟨Nat.zero_le _, rest⟩

/-! ## The patrol (R11, R16) -/

theorem kept_patrolFree (place : EventPlace) (h : Health) {rewrite : State → State} (s : State)
    (kept : Kept s (rewrite s)) : Kept s (s.patrolFree place h rewrite) := by
  cases h with
  | clean => exact kept_refl s
  | single => exact kept_trans kept (kept_event _ _ _)
  | double => exact kept_trans kept (kept_event _ _ _)

theorem kept_patrolAdm (a : Fin 1024) (s : State) : Kept s (s.patrolAdm a) := by
  unfold State.patrolAdm
  split
  · exact kept_readAdm a s
  · exact kept_patrolFree _ _ s (kept_modAdmSlot a s rfl)

theorem kept_patrolOrder (o : Fin 256) (s : State) : Kept s (s.patrolOrder o) := by
  unfold State.patrolOrder
  split
  · exact kept_readOrder o s
  · exact kept_patrolFree _ _ s (kept_modOrderSlot o s rfl)

theorem kept_patrolStall (i : Fin 1024) (s : State) : Kept s (s.patrolStall i) := by
  unfold State.patrolStall
  split
  · exact kept_readStall i s
  · exact kept_patrolFree _ _ s (kept_modStallSlot i _ s)

theorem kept_patrolAt (k : Fin 2304) (s : State) : Kept s (s.patrolAt k) := by
  unfold State.patrolAt
  split
  · exact kept_patrolAdm _ s
  split
  · exact kept_patrolStall _ s
  · exact kept_patrolOrder _ s

theorem kept_patrolNext (s : State) : Kept s (s.modMem RecordMemory.patrolNext) := kept_modMem s

/-! ## Resets (R205, R206) -/

theorem attentionGood_reset {p : PortId} {kinds : Word24} (h : kinds &&& ~~~PortId.kinds p = 0) (link : Link) :
    (Port.reset kinds link).attentionGood p := by
  refine ⟨?_, BitVec.zero_and, h⟩
  simp [Port.reset]

theorem limitsGood_afterReset (s : State) : s.afterReset.limitsGood := by
  refine ⟨Nat.zero_le _, Nat.zero_le _, Nat.zero_le _, Nat.zero_le _, Nat.zero_le _, fun n => ?_, fun n => ?_⟩
  · simp [State.afterReset, Gate.reset, Lane.reset]
  · simp [State.afterReset, Gate.reset]

theorem marksGood_afterReset (s : State) : s.afterReset.marksGood :=
  ⟨(StartUp.countP_marked_fresh _ _).symm, (StartUp.countP_marked_fresh _ _).symm⟩

theorem windowsGood_afterReset (s : State) : s.afterReset.windowsGood := by
  refine ⟨fun n => ?_, fun _ => rfl⟩
  rw [windowCondition_notOpened n (show NightState.closed ≠ .opened by decide)]
  simp [State.afterReset, OrderTable.reset]

/-- A reset makes every invariant good, whatever stood before (R206). -/
theorem kept_afterReset (s u : State) : Kept s u.afterReset where
  attention _ := ⟨attentionGood_reset (by decide) _, attentionGood_reset (by decide) _⟩
  projector _ n := by simp [State.afterReset, ShowControl.reset, Screen.reset, ShowState.runReq, ShowState.pauseReq]
  stop _ d := by simp [State.afterReset, DomainControl.reset, Domain.reset, DomainState.stopReq]
  codes _ n := by simp [State.afterReset, ChannelManager.reset, SoundRecord.reset, Sound.code]
  barriers _ n := by simp [State.afterReset, Gate.reset, Lane.reset, LaneState.open]
  limits _ := limitsGood_afterReset u
  marks _ := marksGood_afterReset u
  windows _ := windowsGood_afterReset u

theorem kept_powerOnReset (s : State) : Kept s s.powerOnReset := kept_afterReset s _

/-! ## The start-up check (R207) -/

/-- A check of every slot keeps the marks. -/
theorem countP_marked_check {α : Type} {n : Nat} (x : α) (v : Vector (Slot α) n) :
    (v.map (Slot.check x)).toList.countP Slot.marked = v.toList.countP Slot.marked := by
  rw [Vector.toList_map, List.countP_map]
  refine List.countP_congr fun slot _ => ?_
  simp only [Function.comp, StartUp.slot_check_eq]

theorem kept_memoryCheck (s : State) : Kept s (s.modMem RecordMemory.check) where
  marks := fun ⟨adm, order⟩ =>
    ⟨adm.trans (countP_marked_check _ _).symm, order.trans (countP_marked_check _ _).symm⟩

theorem kept_scan (r : ScanResult) (s : State) : Kept s (s.modSys fun y => { y with scan := r }) := {}

/-- The check begins while the part does not run. -/
theorem kept_startCheck {s : State} (h : s.sys.phase ≠ .running) : Kept s s.startCheck := by
  have phase : Kept s (s.modSys fun y =>
      { y with phase := .checking, checkTimer := some Config.startUpTime, failing := s.mem.failing }) :=
    { windows := fun ⟨windows, night⟩ => ⟨windows, fun _ => night h⟩ }
  rw [StartUp.startCheck_scan]
  exact kept_trans (kept_trans (kept_trans phase (kept_memoryCheck _)) (kept_readUnits _ _)) (kept_scan _ _)

theorem kept_partReset (s u : State) : Kept s u.partReset :=
  kept_trans (kept_afterReset s u) (kept_startCheck (by exact Phase.noConfusion))

theorem first_stopReq (wakeTime : Nat) (d : Domain) : (d.first wakeTime).stopReq = (d.first wakeTime).state.stopReq := by
  unfold Domain.first
  dsimp only
  split <;> rfl

/-- The state at the end of the check before the inputs begin to be qualified. -/
def checked (s : State) : State :=
  (s.modSys fun y =>
    { y with phase := .running, checkTimer := none, report := { failing := y.failing, scan := y.scan } }).modMem
      fun m => { m with patrolTimer := some m.patrolPeriod }

theorem keptApart_startInputs (s : State) : KeptApart s s.startInputs where
  barriers good n := by simpa [State.startInputs, Lane.startInputs] using good n
  limits := fun ⟨mon, clock, takings, writeOffs, delivered, lanes, admitted⟩ =>
    ⟨mon, clock, takings, writeOffs, delivered, fun n => by simpa [State.startInputs, Lane.startInputs] using lanes n,
      admitted⟩
  projector good n := by simpa [State.startInputs, Screen.startInputs] using good n
  codes good n := by simpa [State.startInputs] using good n
  stop _ d := by simp [State.startInputs, first_stopReq]

/-- While the check runs the night is CLOSED, so that no window looks at the first states of the domains. -/
theorem kept_endCheck {s : State} (h : s.sys.phase = .checking) : Kept s s.endCheck where
  toKeptApart := keptApart_trans {} (keptApart_startInputs (checked s))
  windows := fun ⟨windows, night⟩ => by
    have closed : s.night.state = .closed := night (by rw [h]; decide)
    have notOpened : s.night.state ≠ .opened := by rw [closed]; decide
    refine ⟨fun n => (windows n).trans ?_, fun phase => absurd rfl phase⟩
    rw [windowCondition_notOpened n notOpened, windowCondition_notOpened n (by exact notOpened)]

theorem kept_makeWaitingReset (s : State) : Kept s s.makeWaitingReset := by
  unfold State.makeWaitingReset
  split
  · exact kept_partReset s s
  · exact kept_refl s

theorem kept_waitForStore (s : State) : Kept s (s.modSys fun y => { y with resetWaiting := true }) := {}

theorem kept_completeProgram (area : Fin 6) (unit : Fin 64) (content : Vector Byte 16) (s : State) :
    Kept s (s.completeProgram area unit content) :=
  kept_trans (kept_trans (kept_trans (kept_modStore _ s) (kept_readUnit area unit _)) (kept_modStore _ _))
    (kept_raiseBooth _ _)

theorem kept_completeErase (area : Fin 6) (s : State) : Kept s (s.completeErase area) := by
  unfold State.completeErase
  exact kept_trans (kept_trans (kept_trans (kept_modStore _ s) (kept_readUnits _ _)) (kept_modStore _ _))
    (kept_raiseBooth _ _)

/-! ## A millisecond -/

theorem attentionGood_tick {p : PortId} {r : Port} (h : r.attentionGood p) : r.tick.attentionGood p := by
  unfold Port.tick
  split <;> exact h

theorem kept_tick (s : State) : Kept s s.tick := by
  unfold State.tick
  split
  · exact kept_refl s
  · exact
      { attention := fun ⟨booth, counter⟩ => ⟨attentionGood_tick booth, attentionGood_tick counter⟩
        projector := fun good n => by simpa [Screen.tick] using good n
        stop := fun good d => by simpa [Domain.tick] using good d
        codes := fun good n => by simpa [SoundRecord.tick] using good n
        barriers := fun good n => by simpa [Lane.tick] using good n
        limits := fun ⟨mon, clock, takings, writeOffs, delivered, lanes, admitted⟩ =>
          ⟨mon, clock, takings, writeOffs, delivered, fun n => by simpa [Lane.tick] using lanes n, admitted⟩
        windows := fun ⟨windows, night⟩ => ⟨fun n => by
          simpa [State.windowCondition, State.active, Screen.tick, Domain.tick] using windows n, night⟩ }

end Sys2Proof.Invariants
end

section
/-!
SUPPORT. Every command and event keeps the invariants, and the statements about what every step keeps (O56 to O59).
-/

namespace Sys2Proof.Invariants

open Sys2Proof Sys2Proof.Machine Sys2Proof.NightUnit

/-! Many steps below fill in defaults that are tactic blocks, so the proofs are elaborated in order, as in the files
before. -/

set_option Elab.async false

variable {s t u : State}

/-- Whatever an outcome leaves keeps the invariants of `s`. -/
def KeptOutcome (s : State) (o : Host.Outcome State Fault Refusal) : Prop := ∀ t, o = .next t → Kept s t

theorem keptOutcome_next (h : Kept s t) : KeptOutcome s (.next t) := fun _ next =>
  Host.Outcome.next.inj next ▸ h

/-! ## Resets -/

theorem kept_execResetRelease (s : State) : KeptOutcome s (execResetRelease s) := by
  refine keptOutcome_next ?_
  split
  next held => exact kept_startCheck (by rw [held]; decide)
  next => exact kept_refl s

theorem kept_execStartUpCheckEnd (s : State) : KeptOutcome s (execStartUpCheckEnd s) := by
  refine keptOutcome_next ?_
  split
  next checking => exact kept_endCheck checking
  next => exact kept_refl s

theorem kept_execPartReset (p : PortId) (s : State) : KeptOutcome s (execPartReset p s) := by
  refine keptOutcome_next ?_
  split
  · exact kept_partReset s s
  · exact kept_command p _ _ (fun s => by exact kept_waitForStore s) s

theorem kept_execStoreProgramComplete (s : State) : KeptOutcome s (execStoreProgramComplete s) := by
  refine keptOutcome_next ?_
  split
  · exact kept_trans (kept_completeProgram _ _ _ s) (kept_makeWaitingReset _)
  · exact kept_refl s

theorem kept_execStoreEraseComplete (s : State) : KeptOutcome s (execStoreEraseComplete s) := by
  refine keptOutcome_next ?_
  split
  · exact kept_trans (kept_completeErase _ s) (kept_makeWaitingReset _)
  · exact kept_refl s

/-! ## Frames (R197, R198): the attention line is no part of the link -/

theorem kept_select (p : PortId) (held : Bool) (s : State) : Kept s (s.modPort p (Port.select held)) :=
  kept_modPort p (fun r h => by
    unfold Port.select
    split <;> exact h) s

theorem kept_clock (p : PortId) (din : Bool) (s : State) : Kept s (s.modPort p (Port.clock din)) :=
  kept_modPort p (fun r h => by
    unfold Port.clock
    split <;> exact h) s

theorem kept_timeOut (p : PortId) (s : State) : Kept s (s.modPort p Port.timeOut) :=
  kept_modPort p (fun r h => by
    unfold Port.timeOut
    split <;> exact h) s

/-! ## Events that go by a timer or a message -/

theorem kept_voidTimer (n : Fin 4) (s : State) :
    Kept s (if s.gate.lanes[n].voidTimer.isSome ∧ s.gate.lanes[n].state = .issued then
      match s.gate.lanes[n].bound with
      | some a => if s.admMarked a then s.faultLane n .record else s.voidAdm n a
      | none => s
    else s) := by
  split
  · split
    · split
      · exact kept_faultLane n _ s
      · exact kept_voidAdm n _ s
    · exact kept_refl s
  · exact kept_refl s

theorem kept_returnTimer (n : Fin 4) (s : State) :
    Kept s (if s.gate.lanes[n].returnTimer.isSome ∧ s.gate.lanes[n].state = .leaving then
      match s.gate.lanes[n].bound with
      | some a => (s.readAdm a).2.returnAdm n a
      | none => s
    else s) := by
  split
  · split
    · exact kept_trans (kept_readAdm _ s) (kept_returnAdm n _ _)
    · exact kept_refl s
  · exact kept_refl s

theorem kept_tabClear (n : Fin 4) (s : State) :
    Kept s (match s.ords.tabClears.find? fun c => c.1 = n with
      | none => s
      | some c => (s.modOrds fun o => { o with tabClears := o.tabClears.erase c }).takeTabClear n c.2) := by
  split
  · exact kept_refl s
  · exact kept_trans (kept_modOrds s) (kept_takeTabClear n _ _)

theorem kept_rowTimer (r : Fin 48) (c : Prop) [Decidable c] (f : Row → Row) (s : State) :
    Kept s (if c then s.modRow r f else s) := by
  split
  · exact kept_modRow r f s
  · exact kept_refl s

theorem kept_maxHoldTimer (r : Fin 48) (s : State) : Kept s (if s.posts.rows[r].maxHoldTimer.isSome then
    (s.modRow r Row.toStuck).raiseBooth .rowStuck else s) := by
  split
  · exact kept_trans (kept_modRow r _ s) (kept_raiseBooth _ _)
  · exact kept_refl s

theorem kept_releasedTimer (r : Fin 48) (c : Prop) [Decidable c] (f : Row → Row) (s : State) :
    Kept s (if c then (s.modRow r f).deliverReleased r else s) := by
  split
  · exact kept_trans (kept_modRow r f s) (kept_deliverReleased r _)
  · exact kept_refl s

theorem kept_toneEnd (r : Fin 48) (c : Prop) [Decidable c] (f : Row → Row) (s : State) :
    Kept s (if c then (s.modRow r f).takePresent r else s) := by
  split
  · exact kept_trans (kept_modRow r f s) (kept_takePresent r _)
  · exact kept_refl s

theorem kept_requestAnswer (r : Fin 48) (s : State) :
    Kept s (match s.posts.answers.find? fun a => a.row = r with
      | none => s
      | some a => (s.modPosts fun p => { p with answers := p.answers.erase a }).takeAnswer a) := by
  split
  · exact kept_refl s
  · exact kept_trans (kept_modPosts _ s) (kept_takeAnswer _ _)

theorem kept_cancelNewest (x : Fin 6 × Nat) (s : State) :
    Kept s (match s.lot.slotOf x.1 x.2 with
      | none => (Status.noCar, s)
      | some i => s.cancelNewestRequest i).2 := by
  split
  · exact kept_refl s
  · exact kept_cancelNewestRequest _ s

theorem kept_tripTimer (r : Fin 12) (s : State) : Kept s (if s.ords.runners[r].tripTimer.isSome then
    (s.modRunner r fun x => { x with late := true, tripTimer := none }).raiseCounter .runnerLate else s) := by
  split
  · exact kept_trans (kept_modRunner r _ s) (kept_raiseCounter _ _)
  · exact kept_refl s

theorem kept_overrun (n : Fin 6) (s : State) : Kept s (if s.shows.screens[n].canOverrun then
    (s.modScreen n fun c => { c with remaining := some 0, overrun := true }).raiseBooth .segmentOverrun else s) := by
  split
  · exact kept_trans (kept_modScreen n s) (kept_raiseBooth _ _)
  · exact kept_refl s

theorem kept_announceExpiry (n : Fin 6) (s : State) : Kept s (if s.chans.sounds[n].announceTimer.isSome then
      match s.chans.sounds[n].sound with
      | .announce c next cause => s.switchChannel n c next cause
      | _ => s
    else s) := by
  split
  · split
    · exact kept_switchChannel n _ _ _ s
    · exact kept_refl s
  · exact kept_refl s

theorem kept_quarantineEnd (c : Fin 12) (s : State) : Kept s (match s.chans.channels[c].state with
    | .quarantined _ => (s.setChannel c .free).offer c
    | _ => s) := by
  split
  · exact kept_trans (kept_setChannel c _ s) (kept_offer c _)
  · exact kept_refl s

theorem kept_patrolRead (s : State) : Kept s (if s.mem.patrolTimer.isSome then
    (s.patrolAt s.mem.patrolPosition).modMem RecordMemory.patrolNext else s) := by
  split
  · exact kept_trans (kept_patrolAt _ s) (kept_patrolNext _)
  · exact kept_refl s

theorem kept_wakeTimer (d : Fin 8) (s : State) :
    Kept s (if s.doms.domains[d].state = .waking ∧ s.doms.domains[d].timer.isSome then s.domainFaulted d else s) := by
  split
  · exact kept_domainFaulted d s
  · exact kept_refl s

/-! ## Every command and event -/

theorem keptOutcome_command {block : State → Reply} {p : PortId} {code : Byte} {ok : Bool}
    (h : ∀ s, Kept s (block s).state) (s : State) : KeptOutcome s (.next (s.command p code ok block)) :=
  keptOutcome_next (kept_command p code ok h s)

theorem keptOutcome_whileRunning {f : State → State} (h : ∀ s, Kept s (f s)) (s : State) :
    KeptOutcome s (.next (s.whileRunning f)) :=
  keptOutcome_next (kept_whileRunning h s)

/-- Every command and event but the end of a frame. -/
theorem kept_exec_of_ne_frameEnd {i : Instr} (h : ∀ p, i ≠ .frameEnd p) (s : State) : KeptOutcome s (exec i s) := by
  cases i with
  | powerOnReset => exact keptOutcome_next (kept_powerOnReset s)
  | resetRelease => exact kept_execResetRelease s
  | startUpCheckEnd => exact kept_execStartUpCheckEnd s
  | frameBegin p => exact keptOutcome_next (kept_select p _ s)
  | frameEnd p => exact absurd rfl (h p)
  | frameTimerExpiry p => exact keptOutcome_next (kept_timeOut p s)
  | portClockRisingEdge p din => exact keptOutcome_next (kept_clock p din s)
  | nop p => exact keptOutcome_command kept_refl s
  | readPort p => exact keptOutcome_command (kept_readPort p) s
  | readAttention p => exact keptOutcome_command (kept_readAttention p) s
  | setAttentionMask p mask => exact keptOutcome_command (kept_setAttentionMask p mask) s
  | readReport p => exact keptOutcome_command kept_refl s
  | partReset p => exact kept_execPartReset p s
  | readIntegrity p => exact keptOutcome_command kept_refl s
  | clearIntegrity p => exact keptOutcome_command kept_clearIntegrity s
  | patrolRead => exact keptOutcome_whileRunning kept_patrolRead s
  | loopInputChange lane loop occupied => exact keptOutcome_next (kept_modLane (laneKept_modLoop loop _))
  | presenceTimerExpiry lane loop => exact keptOutcome_whileRunning (kept_presenceTimer lane loop) s
  | upChange lane high => exact keptOutcome_next kept_modLane
  | barrierTimerExpiry lane => exact keptOutcome_whileRunning (kept_barrierTimer lane) s
  | stuckTimerExpiry lane => exact keptOutcome_whileRunning (kept_stuckTimer lane) s
  | voidTimerExpiry lane => exact keptOutcome_whileRunning (kept_voidTimer lane) s
  | returnTimerExpiry lane => exact keptOutcome_whileRunning (kept_returnTimer lane) s
  | tabClear lane => exact keptOutcome_whileRunning (kept_tabClear lane) s
  | admitCar p lane screen cls stall => exact keptOutcome_command (kept_admitCommand lane screen cls stall) s
  | void p handle => exact keptOutcome_command (kept_voidCommand handle) s
  | exit p lane handle => exact keptOutcome_command (kept_exitCommand lane handle) s
  | clearLane p lane => exact keptOutcome_command (kept_clearLane lane) s
  | readLane p lane => exact keptOutcome_command (kept_readLane lane) s
  | move p handle screen stall => exact keptOutcome_command (kept_moveCommand handle screen stall) s
  | lookupAdmission p handle => exact keptOutcome_command (kept_lookupAdmission handle) s
  | repair p handle cls lane entryTime => exact keptOutcome_command (kept_repair handle cls lane entryTime) s
  | forceRetireAdmission p handle => exact keptOutcome_command (kept_forceRetireAdm handle) s
  | closeStall p screen stall => exact keptOutcome_command (kept_closeStall screen stall) s
  | openStall p screen stall => exact keptOutcome_command (kept_openStall screen stall) s
  | lookupStall p screen stall => exact keptOutcome_command (kept_lookupStall screen stall) s
  | readField p screen => exact keptOutcome_command (kept_readField screen) s
  | loadShow p screen count segments start => exact keptOutcome_command (kept_loadShow screen count segments start) s
  | setStart p screen start => exact keptOutcome_command (kept_setStartTime screen (startTime start)) s
  | startNow p screen => exact keptOutcome_command (fun s => kept_setStartTime screen (some (some s.night.clock)) s) s
  | holdShow p screen => exact keptOutcome_command (kept_holdShow screen) s
  | resumeShow p screen => exact keptOutcome_command (kept_resumeShow screen) s
  | endShow p screen => exact keptOutcome_command (kept_endShowCommand screen) s
  | readScreen p screen => exact keptOutcome_command (kept_readScreen screen) s
  | projectorInputChange screen input high => exact keptOutcome_next (kept_inputChange screen _ input high s)
  | projectorLevelChange screen which => exact keptOutcome_whileRunning (kept_projectorLevelChange screen which) s
  | markTaken screen =>
    exact keptOutcome_whileRunning (fun s => kept_trans (kept_modScreen screen s) (kept_mark screen _)) s
  | startTimerExpiry screen => exact keptOutcome_whileRunning (kept_startTimer screen) s
  | segmentOverrun screen => exact keptOutcome_whileRunning (kept_overrun screen) s
  | nightClockSecond => exact keptOutcome_whileRunning kept_nightSecond s
  | retune p screen => exact keptOutcome_command (kept_retune screen) s
  | quarantineChannel p channel => exact keptOutcome_command (kept_quarantineCommand channel) s
  | readChannels p => exact keptOutcome_command kept_refl s
  | carrierOkChange screen high => exact keptOutcome_next (kept_carrierOk screen high s)
  | carrierFault screen => exact keptOutcome_whileRunning (kept_carrierFault screen) s
  | announceTimerExpiry screen => exact keptOutcome_whileRunning (kept_announceExpiry screen) s
  | channelSecond => exact keptOutcome_whileRunning (fun s => kept_modChans s) s
  | quarantineExpiry channel => exact keptOutcome_whileRunning (kept_quarantineEnd channel) s
  | displayWordStart => exact keptOutcome_whileRunning (kept_modDisp _) s
  | displayWordSent => exact keptOutcome_whileRunning (kept_modDisp _) s
  | toneFindingChange row tones => exact keptOutcome_next (kept_takeReport row _ s)
  | onTimerExpiry row => exact keptOutcome_whileRunning (fun s => kept_rowTimer row _ _ s) s
  | dropoutTimerExpiry row => exact keptOutcome_whileRunning (fun s => kept_rowTimer row _ _ s) s
  | maxHoldTimerExpiry row => exact keptOutcome_whileRunning (kept_maxHoldTimer row) s
  | offTimerExpiry row => exact keptOutcome_whileRunning (fun s => kept_releasedTimer row _ _ s) s
  | cycleTimerExpiry row => exact keptOutcome_whileRunning (fun s => kept_releasedTimer row _ _ s) s
  | interKeyTimeout row => exact keptOutcome_whileRunning (fun s => kept_rowTimer row _ _ s) s
  | answerToneEnd row => exact keptOutcome_whileRunning (fun s => kept_toneEnd row _ _ s) s
  | requestAnswer row => exact keptOutcome_whileRunning (kept_requestAnswer row) s
  | abortRow p line => exact keptOutcome_command (kept_abortRow line) s
  | readRow p line => exact keptOutcome_command (kept_readRow line) s
  | place p screen stall count lines => exact keptOutcome_command (kept_place screen stall count lines) s
  | placeRequest row => exact keptOutcome_whileRunning (kept_takeRequest row _ kept_placeRequest) s
  | cancelNewest row => exact keptOutcome_whileRunning (kept_takeRequest row _ kept_cancelNewest) s
  | confirm row =>
    exact keptOutcome_whileRunning (kept_takeRequest row _ fun (x : Fin 12 × Fin 6 × Nat) => kept_confirmRequest x.1 x.2.1 x.2.2) s
  | take p handle => exact keptOutcome_command (kept_take handle) s
  | ready p handle => exact keptOutcome_command (kept_readyCommand handle) s
  | dispatch p runner count handles => exact keptOutcome_command (kept_dispatch runner count handles) s
  | tripTimerExpiry runner => exact keptOutcome_whileRunning (kept_tripTimer runner) s
  | delivered p handle => exact keptOutcome_command (kept_deliveredCommand handle) s
  | runnerBack p runner => exact keptOutcome_command (kept_runnerBack runner) s
  | cancel p handle => exact keptOutcome_command (kept_cancelCommand handle) s
  | handover p handle => exact keptOutcome_command (kept_handover handle) s
  | runnerOn p runner => exact keptOutcome_command (kept_runnerOn runner) s
  | runnerOff p runner => exact keptOutcome_command (kept_runnerOff runner) s
  | readRunner p runner => exact keptOutcome_command (kept_readRunner runner) s
  | queuePeek p => exact keptOutcome_command kept_refl s
  | lookupOrder p handle => exact keptOutcome_command (kept_lookupOrder handle) s
  | forceRetireOrder p handle => exact keptOutcome_command (kept_forceRetireOrder handle) s
  | settle p handle amount => exact keptOutcome_command (kept_settle handle amount) s
  | openNight p => exact keptOutcome_next (kept_command_running p _ _ s kept_openNight)
  | closeNight p => exact keptOutcome_command kept_closeNightCommand s
  | forceClose p => exact keptOutcome_command kept_forceClose s
  | readTotals p => exact keptOutcome_command kept_refl s
  | setRestPlan p plan => exact keptOutcome_command (kept_setRestPlan plan) s
  | rest p => exact keptOutcome_command kept_restCommand s
  | wake p domain => exact keptOutcome_command (kept_wakeCommand domain) s
  | readDomains p => exact keptOutcome_command kept_refl s
  | domainInputChange domain input high => exact keptOutcome_next (kept_modInput domain input _ s)
  | domainLevelChange domain input => exact keptOutcome_whileRunning (kept_domainLevelChange domain input) s
  | acknowledgeTimerExpiry domain => exact keptOutcome_whileRunning (kept_acknowledgeTimer domain) s
  | wakeTimerExpiry domain => exact keptOutcome_whileRunning (kept_wakeTimer domain) s
  | storeRead p area unit => exact keptOutcome_command (kept_storeRead area unit) s
  | storeProgram p area unit content => exact keptOutcome_command (kept_storeProgram area unit content) s
  | storeProgramComplete => exact kept_execStoreProgramComplete s
  | storeErase p area => exact keptOutcome_command (kept_storeErase area) s
  | storeEraseComplete => exact kept_execStoreEraseComplete s
  | storeStatus p => exact keptOutcome_command kept_refl s

/-! ## The end of a frame (R198, R199) -/

theorem keptOutcome_trans {o : Host.Outcome State Fault Refusal} (h : Kept s t) (k : KeptOutcome t o) :
    KeptOutcome s o := fun u next => kept_trans h (k u next)

theorem handOn_event {i : Instr} (h : encodeCommand i = none) (s : State) : handOn i s = .next s := by
  cases i
  case take p handle => cases handle <;> cases h
  all_goals first
    | rfl
    | cases h

theorem kept_handOn (i : Instr) (s : State) : KeptOutcome s (handOn i s) := by
  by_cases h : encodeCommand i = none
  · rw [handOn_event h]
    exact keptOutcome_next (kept_refl s)
  · rw [Frames.handOn_eq_exec h]
    refine kept_exec_of_ne_frameEnd (fun p frameEnd => h ?_) s
    rw [frameEnd]
    rfl

theorem kept_admitFrame (p : PortId) (f : Frame) (s : State) : KeptOutcome s (s.admitFrame p f) := by
  have short := kept_modPort p (f := fun r => { r with shortRead := r.shortRead || f.short }) (fun _ h => h) s
  unfold State.admitFrame
  dsimp only
  split
  · exact keptOutcome_next (kept_trans short (kept_answer _ _ _ _ _))
  · exact keptOutcome_trans short (kept_handOn _ _)

theorem kept_execFrameEnd (p : PortId) (s : State) : KeptOutcome s (execFrameEnd p s) := by
  have idle := kept_modPort p (f := fun r => { r with link := .idle }) (fun _ h => h) s
  unfold execFrameEnd
  split
  · exact keptOutcome_next (kept_refl s)
  · exact keptOutcome_next idle
  dsimp only
  split
  · exact keptOutcome_next (kept_trans idle
      (kept_modPort p (f := fun r => { r with frameFault := true }) (fun _ h => h) _))
  split
  · exact keptOutcome_next idle
  · exact keptOutcome_trans idle (kept_admitFrame p _ _)

theorem kept_exec (i : Instr) (s : State) : KeptOutcome s (exec i s) := by
  by_cases h : ∃ p, i = .frameEnd p
  · obtain ⟨p, rfl⟩ := h
    exact kept_execFrameEnd p s
  · exact kept_exec_of_ne_frameEnd (not_exists.mp h) s

/-! ## Every step -/

theorem kept_pending (rest : List Instr) (s : State) : Kept s { s with pending := rest } := {}

theorem kept_step (s : State) : KeptOutcome s (step s) := by
  unfold step
  split
  · exact keptOutcome_trans (kept_pending _ s) (kept_exec _ _)
  split
  · exact kept_exec _ s
  · exact keptOutcome_next (kept_tick s)

/-- Settles O56. -/
theorem stepKeepsAttentionLines : Obligations.StepKeepsAttentionLines :=
  fun s t good next => (kept_step s t next).attention good

/-- Settles O57. -/
theorem stepKeepsOutputLines : Obligations.StepKeepsOutputLines :=
  ⟨fun s t projector stop codes next =>
    ⟨(kept_step s t next).projector projector, (kept_step s t next).stop stop, (kept_step s t next).codes codes⟩,
    fun s t good next => (kept_step s t next).barriers good⟩

/-- Settles O58. -/
theorem stepKeepsWindows : Obligations.StepKeepsWindows :=
  fun s t good next => (kept_step s t next).windows good

/-- Settles O59. -/
theorem stepKeepsLimits : Obligations.StepKeepsLimits :=
  ⟨fun s t good next => (kept_step s t next).limits good, fun s t good next => (kept_step s t next).marks good⟩

end Sys2Proof.Invariants
end

section
/-!
SUPPORT. The changes of a show (R67, R71 to R80): what each leaves of the screens, and the statement about them.
-/

namespace Sys2Proof.Shows

open Sys2Proof Sys2Proof.Machine Sys2Proof.Orders Sys2Proof.Records

variable {s t u : State} {n : Fin 6}

/-! ## A change of the show state (R67) -/

/-- The show state entered, whatever it was. -/
def enterShow (n : Fin 6) (st : ShowState) (s : State) : State :=
  ((s.modScreen n (Screen.enter st)).raiseBooth .showState).recomputeWindow n

theorem setShow_eq (n : Fin 6) (st : ShowState) (s : State) :
    s.setShow n st = if s.shows.screens[n].state = st then s else enterShow n st s := rfl

theorem setShow_enters {st : ShowState} (h : s.shows.screens[n].state ≠ st) : s.setShow n st = enterShow n st s :=
  if_neg h

/-- The screen of a change, in a state that has been changed by `modScreen`. -/
theorem modScreen_screen (n : Fin 6) (f : Screen → Screen) (s : State) :
    (s.modScreen n f).shows.screens[n] = f s.shows.screens[n] := upd_get_same _ _ _

theorem modScreen_other (f : Screen → Screen) (s : State) {m : Fin 6} (h : n ≠ m) :
    (s.modScreen n f).shows.screens[m] = s.shows.screens[m] := upd_get_other _ _ _ _ h

/-- Two changes of a screen that agree on its present record are one change. -/
theorem modScreen_congr {f g : Screen → Screen} (h : f s.shows.screens[n] = g s.shows.screens[n]) :
    s.modScreen n f = s.modScreen n g :=
  congrArg (fun screens => s.modShows fun c => { c with screens }) (upd_congr h)

theorem enterShow_shows (n : Fin 6) (st : ShowState) (s : State) :
    (enterShow n st s).shows = (s.modScreen n (Screen.enter st)).shows :=
  (NightUnit.windowFrame_shows (NightUnit.recomputeWindow_windowFrame n
    ((s.modScreen n (Screen.enter st)).raiseBooth .showState)) : _)

/-- The record of a screen in a show state: its lines set with the state when that changes. -/
def shownAs (st : ShowState) (c : Screen) : Screen := if c.state = st then c else c.enter st

theorem setShow_screen (n : Fin 6) (st : ShowState) (s : State) :
    (s.setShow n st).shows.screens[n] = shownAs st s.shows.screens[n] := by
  by_cases same : s.shows.screens[n].state = st
  · rw [setShow_eq, if_pos same, shownAs, if_pos same]
  · rw [setShow_enters same, shownAs, if_neg same, enterShow_shows, modScreen_screen]

theorem setShow_other (st : ShowState) (s : State) {m : Fin 6} (h : n ≠ m) :
    (s.setShow n st).shows.screens[m] = s.shows.screens[m] := by
  by_cases same : s.shows.screens[n].state = st
  · rw [setShow_eq, if_pos same]
  · rw [setShow_enters same, enterShow_shows, modScreen_other _ s h]

theorem shownAs_state (st : ShowState) (c : Screen) : (shownAs st c).state = st := by
  unfold shownAs
  split
  next same => exact same
  next => rfl

/-- A show state leaves everything but itself and the two lines. -/
theorem shownAs_eq (st : ShowState) (c : Screen) : shownAs st c =
    { c with state := st, runReq := (shownAs st c).runReq, pauseReq := (shownAs st c).pauseReq } := by
  unfold shownAs
  split
  next same => rw [← same]
  next => rfl

theorem shownAs_fault (st : ShowState) (c : Screen) : (shownAs st c).fault = c.fault := by rw [shownAs_eq]
theorem shownAs_start (st : ShowState) (c : Screen) : (shownAs st c).start = c.start := by rw [shownAs_eq]
theorem shownAs_reasons (st : ShowState) (c : Screen) : (shownAs st c).reasons = c.reasons := by rw [shownAs_eq]

/-! ## Hold reasons (R76, R77) -/

theorem underWay_iff (st : ShowState) : st.underWay = true ↔ st = .running ∨ st = .intermission ∨ st = .held := by
  cases st <;> decide

theorem isEmpty_iff (h : HoldReasons) :
    h.isEmpty = true ↔ h = { sound := false, projector := false, operator := false } := by
  obtain ⟨sound, projector, operator⟩ := h
  simp [HoldReasons.isEmpty, and_assoc]

theorem addHold_idle {r : HoldReason} (h : s.shows.screens[n].state.underWay ≠ true) : s.addHold n r = s := if_neg h

theorem addHold_underWay {r : HoldReason} (h : s.shows.screens[n].state.underWay = true) : s.addHold n r =
    (s.modScreen n fun c => { c with reasons := c.reasons.set r true }).setShow n .held := if_pos h

theorem addHold_holds {r : HoldReason} (h : s.shows.screens[n].state.underWay = true) : s.addHold n r =
    let u := s.modScreen n fun c => { c with reasons := c.reasons.set r true }
    if s.shows.screens[n].state = .held then u else enterShow n .held u := by
  rw [addHold_underWay h, setShow_eq, modScreen_screen]

theorem removeHold_absent {r : HoldReason} (h : s.shows.screens[n].reasons.has r = false) : s.removeHold n r = s :=
  if_neg (ne_true_of_eq_false h)

theorem runningState_ne_held (c : Screen) : c.runningState ≠ .held := by
  unfold Screen.runningState
  split
  · split <;> decide
  · decide

theorem runningState_eq (c : Screen) : c.runningState =
    if c.segment.map Segment.kind = some .interval then ShowState.intermission else .running := by
  unfold Screen.runningState
  cases c.segment with
  | none => rfl
  | some g => simp

theorem removeHold_resumes {r : HoldReason} (h : s.shows.screens[n].reasons.has r = true) : s.removeHold n r =
    let u := s.modScreen n fun c => { c with reasons := c.reasons.set r false }
    if (s.shows.screens[n].reasons.set r false).isEmpty = true ∧ s.shows.screens[n].state = .held then
      enterShow n s.shows.screens[n].runningState u else u := by
  have record := modScreen_screen n (fun c => { c with reasons := c.reasons.set r false }) s
  rw [State.removeHold, if_pos h]
  dsimp only
  rw [record]
  split
  next resumes =>
    refine setShow_enters ?_
    rw [record]
    exact fun same => runningState_ne_held _ (same.symm.trans resumes.2)
  next => rfl

/-! ## Segments and starts (R71 to R73) -/

theorem enterSegment_listed {k : Nat} {g : Segment} (h : s.shows.screens[n].list[k]? = some g) :
    s.enterSegment n (k + 1) =
      let u := s.modScreen n fun c =>
        { c with current := some (k + 1), remaining := some (g.length + s.shows.graceTime), overrun := false }
      if s.shows.screens[n].reasons.isEmpty = true then
        u.setShow n (if g.kind = .interval then .intermission else .running) else u := by
  have changed : s.modScreen n (fun c => { c with
      current := some (k + 1)
      remaining := some (((c.list[k + 1 - 1]?.map Segment.length).getD 0) + s.shows.graceTime), overrun := false }) =
      s.modScreen n fun c =>
        { c with current := some (k + 1), remaining := some (g.length + s.shows.graceTime), overrun := false } :=
    modScreen_congr (by simp only [Nat.add_sub_cancel, h, Option.map_some, Option.getD_some])
  have record := modScreen_screen n (fun c => { c with
    current := some (k + 1), remaining := some (g.length + s.shows.graceTime), overrun := false }) s
  rw [State.enterSegment, changed]
  dsimp only
  rw [record]
  simp only [Screen.runningState, Screen.segment, h]

/-- What a show that enters a segment keeps of its screen's inputs and start. -/
theorem enterSegment_screen (n : Fin 6) (k : Nat) (s : State) :
    (s.enterSegment n k).shows.screens[n].fault = s.shows.screens[n].fault := by
  have record (f : Screen → Screen) (hf : ∀ c, (f c).fault = c.fault) :
      (s.modScreen n f).shows.screens[n].fault = s.shows.screens[n].fault := by
    rw [modScreen_screen, hf]
  unfold State.enterSegment
  dsimp only
  split
  · rw [setShow_screen, shownAs_fault]
    exact record _ fun _ => rfl
  · exact record _ fun _ => rfl

theorem beginShow_eq (n : Fin 6) (s : State) : s.beginShow n =
    let v := (s.modScreen n fun c => { c with startTimer := none, start := some s.night.clock }).enterSegment n 1
    if s.shows.screens[n].fault.level then v.addHold n .projector else v := by
  have fault := enterSegment_screen n 1
    (s.modScreen n fun c => { c with startTimer := none, start := some s.night.clock })
  rw [modScreen_screen] at fault
  unfold State.beginShow
  dsimp only
  rw [fault]

/-- The start condition of a PRESHOW screen (R71). -/
def Starts (s : State) (n : Fin 6) : Prop :=
  s.shows.screens[n].state = .preshow ∧ (∃ t, s.shows.screens[n].start = some t ∧ t ≤ s.night.clock) ∧
    s.doms.domains[screenDomain n].state = .active ∧
    ((∃ k, s.chans.sounds[n].sound = .live k) ∨ ∃ k j x, s.chans.sounds[n].sound = .announce k j x)

theorem onAir_iff (x : Sound) : x.onAir = true ↔ (∃ k, x = .live k) ∨ ∃ k j c, x = .announce k j c := by
  cases x <;> simp [Sound.onAir]

theorem startCondition_iff : s.startCondition n = true ↔ Starts s n := by
  have reached : (match s.shows.screens[n].start with
      | some t => decide (t ≤ s.night.clock)
      | none => false) = true ↔ ∃ t, s.shows.screens[n].start = some t ∧ t ≤ s.night.clock := by
    cases s.shows.screens[n].start <;> simp
  rw [Starts, ← onAir_iff, ← reached, State.startCondition]
  simp only [Bool.and_eq_true, decide_eq_true_eq, State.active, and_assoc] <;> rfl

theorem examineStart_stays (h : ¬ Starts s n) : s.examineStart n = s := if_neg (mt startCondition_iff.mp h)

/-- A start: STARTING with the start timeout running. -/
def started (n : Fin 6) (s : State) : State :=
  enterShow n .starting (s.modScreen n fun c =>
    { c with current := some 1, startTimer := seconds s.shows.startTimeout })

theorem examineStart_starts (h : Starts s n) : s.examineStart n =
    if s.shows.screens[n].running.level then (started n s).beginShow n else started n s := by
  have preshow : s.shows.screens[n].state = .preshow := h.1
  have entered : (s.modScreen n fun c =>
      { c with current := some 1, startTimer := seconds s.shows.startTimeout }).setShow n .starting = started n s :=
    setShow_enters (by rw [modScreen_screen, preshow]; decide)
  have running : (started n s).shows.screens[n].running = s.shows.screens[n].running := by
    rw [started, enterShow_shows, modScreen_screen, modScreen_screen]
    rfl
  rw [State.examineStart, if_pos (startCondition_iff.mpr h)]
  dsimp only
  rw [entered, running]

/-! ## The end of a show (R79, R80) -/

theorem endShow_eq (n : Fin 6) (s : State) : s.endShow n =
    let u := (s.modScreen n fun c =>
      { c with reasons := HoldReasons.none, remaining := none, overrun := false, startTimer := none }).setShow n .ended
    if s.gate.live[n] = 0 then u.goDark n else u := by
  have ended := EquipmentDomains.setShow_state n .ended (s.modScreen n fun c =>
      { c with reasons := HoldReasons.none, remaining := none, overrun := false, startTimer := none })
  have gate := showFrame_gate (setShow_showFrame (s.modScreen n fun c =>
      { c with reasons := HoldReasons.none, remaining := none, overrun := false, startTimer := none }) n .ended)
  unfold State.endShow State.examineEnded
  dsimp only
  simp only [ended, gate, true_and]
  rfl

/-- Settles O31: each change by its cases. -/
theorem showOperations : Obligations.ShowOperations := by
  intro n s c high enter underWay
  have entered (st : ShowState) (u : State) : enter st u = enterShow n st u := by cases st <;> rfl
  simp only [entered]
  simp only [← isEmpty_iff, ← underWay_iff, underWay]
  exact ⟨fun st => setShow_eq n st s, fun r => ⟨addHold_idle, addHold_holds⟩,
    fun r => ⟨removeHold_absent, removeHold_resumes⟩, runningState_eq c, fun k g listed => enterSegment_listed listed,
    beginShow_eq n s, ⟨examineStart_stays, examineStart_starts⟩, endShow_eq n s⟩

end Sys2Proof.Shows
end

section
/-!
SUPPORT. The show commands (R69, R70, R78, R79): what each hands back for each outcome of its checks, and the statement
about them.
-/

namespace Sys2Proof.Shows

open Sys2Proof Sys2Proof.Machine Sys2Proof.Orders Sys2Proof.Records

section

variable {screen count : Byte} {segments : List (BitVec 32)} {start : Word24} {s : State} {n : Fin 6}
  {t : Option Nat}

/-- A command whose parameter length fits what it carries, and that its port takes, is answered with what its block
hands back. -/
theorem next_command_whole {p : PortId} {code : Byte} {whole : Bool} {block : State → Reply} {r : Reply}
    (h : s.takes p code) (hw : whole = true) (hb : block s = r) :
    (.next (s.command p code whole block) : Host.Outcome State Fault Refusal) =
      .next (r.state.answer p code r.status r.data) := by
  rw [hw]
  exact next_command_of_block h hb

/-! ## Start times and show lists -/

/-- The start time that a command gives. -/
def givenStart (start : Word24) : Option Nat := if start = 0xFFFFFF then none else some start.toNat

theorem startTime_bad (h : start ≠ 0xFFFFFF ∧ 86399 < start.toNat) : startTime start = none := by
  obtain ⟨given, high⟩ := h
  exact (if_neg given).trans (if_neg (Nat.not_le.mpr high))

theorem startTime_good (h : ¬ (start ≠ 0xFFFFFF ∧ 86399 < start.toNat)) :
    startTime start = some (givenStart start) := by
  by_cases absent : start = 0xFFFFFF
  · rw [givenStart, if_pos absent]
    exact if_pos absent
  · have low : start.toNat ≤ Config.lastSecond := Nat.not_lt.mp fun high => h ⟨absent, high⟩
    rw [givenStart, if_neg absent]
    exact (if_neg absent).trans (if_pos low)

theorem good_iff (g : Segment) : g.good = true ↔ 60 ≤ g.length ∧ g.length ≤ 14400 := by
  simp [Segment.good]

theorem goodList_iff (l : List Segment) :
    goodList l = true ↔ (1 ≤ l.length ∧ l.length ≤ 8) ∧ ∀ g ∈ l, 60 ≤ g.length ∧ g.length ≤ 14400 := by
  simp [goodList, good_iff]

/-! ## LOAD_SHOW (R69) -/

/-- What LOAD_SHOW refuses with BAD_PARAM. -/
def BadShow (screen count : Byte) (l : List Segment) (start : Word24) : Prop :=
  numbered 6 screen = none ∨ ¬ (1 ≤ count.toNat ∧ count.toNat ≤ 8) ∨ (start ≠ 0xFFFFFF ∧ 86399 < start.toNat) ∨
    ∃ g ∈ l, ¬ (60 ≤ g.length ∧ g.length ≤ 14400)

theorem storeShow_eq (n : Fin 6) (l : List Segment) (t : Option Nat) (s : State) :
    s.storeShow n l t = s.modScreen n fun c =>
      { c with
        list := l, start := t, reasons := { sound := false, projector := false, operator := false }
        current := none, remaining := none, overrun := false } := rfl

theorem loadShow_bad (h : BadShow screen count (segments.map Segment.ofWord) start) :
    loadShow screen count segments start s = s.refuse .badParam := by
  unfold loadShow
  dsimp only
  split
  next n t named given =>
    refine if_pos fun ⟨low, high, good⟩ => ?_
    obtain noScreen | badCount | badStart | ⟨g, listed, badLength⟩ := h
    · rw [named] at noScreen
      cases noScreen
    · exact badCount ⟨low, high⟩
    · rw [startTime_bad badStart] at given
      cases given
    · exact badLength (((goodList_iff _).mp good).2 g listed)
  next => rfl

/-- The checks of LOAD_SHOW after its parameters, in order. -/
def showChecks (s : State) (n : Fin 6) : List (Bool × Status) :=
  [(decide (s.night.state ≠ .opened ∨ s.lot.fields[n] = none), .closed),
    (decide (s.shows.screens[n].state ≠ .dark ∧ s.shows.screens[n].state ≠ .preshow), .badState),
    (decide (s.doms.domains[screenDomain n].state ≠ .active), .domainDown)]

theorem loadShow_checked (hcount : count.toNat = segments.length)
    (h : ¬ BadShow screen count (segments.map Segment.ofWord) start) (hn : numbered 6 screen = some n) :
    loadShow screen count segments start s = match firstFailing (showChecks s n) with
      | some status => s.refuse status
      | none =>
        let u := s.storeShow n (segments.map Segment.ofWord) (givenStart start)
        ((if s.shows.screens[n].state = .dark then u.leaveDark n else u).examineStart n).ok [] := by
  have counted : 1 ≤ count.toNat ∧ count.toNat ≤ 8 := not_not.mp fun bad => h (.inr (.inl bad))
  have given : startTime start = some (givenStart start) := startTime_good fun bad => h (.inr (.inr (.inl bad)))
  have lengths : ∀ g ∈ segments.map Segment.ofWord, 60 ≤ g.length ∧ g.length ≤ 14400 := fun g listed =>
    not_not.mp fun bad => h (.inr (.inr (.inr ⟨g, listed, bad⟩)))
  have good : 1 ≤ count.toNat ∧ count.toNat ≤ 8 ∧ goodList (segments.map Segment.ofWord) = true :=
    ⟨counted.1, counted.2, (goodList_iff _).mpr ⟨by rw [List.length_map, ← hcount]; exact counted, lengths⟩⟩
  unfold loadShow
  simp only [hn, given, if_neg (not_not.mpr good), showChecks, firstFailing_cons, firstFailing_nil,
    decide_eq_true_eq, Option.isNone_iff_eq_none, State.active, Bool.not_eq_true', decide_eq_false_iff_not]
  split
  next => rfl
  next =>
    split
    next => rfl
    next => split <;> simp_all

section

variable (hcount : count.toNat = segments.length)
  (h : ¬ BadShow screen count (segments.map Segment.ofWord) start) (hn : numbered 6 screen = some n)

include hcount h hn

theorem loadShow_refused {status : Status} (hc : firstFailing (showChecks s n) = some status) :
    loadShow screen count segments start s = s.refuse status := by
  rw [loadShow_checked hcount h hn, hc]

theorem loadShow_preshow (hc : firstFailing (showChecks s n) = none) (hs : s.shows.screens[n].state = .preshow) :
    loadShow screen count segments start s =
      ((s.storeShow n (segments.map Segment.ofWord) (givenStart start)).examineStart n).ok [] := by
  rw [loadShow_checked hcount h hn, hc, hs]
  rfl

theorem loadShow_dark (hc : firstFailing (showChecks s n) = none) (hs : s.shows.screens[n].state = .dark) :
    loadShow screen count segments start s =
      (((s.storeShow n (segments.map Segment.ofWord) (givenStart start)).leaveDark n).examineStart n).ok [] := by
  rw [loadShow_checked hcount h hn, hc, hs]
  rfl

end

/-! ## SET_START and START_NOW (R70) -/

theorem setStartTime_noScreen (h : numbered 6 screen = none) (x : Option (Option Nat)) :
    setStartTime screen x s = s.refuse .badParam := by
  simp only [setStartTime, h]

theorem setStartTime_noTime : setStartTime screen none s = s.refuse .badParam := by
  unfold setStartTime
  split <;> simp_all

theorem setStartTime_badState (hn : numbered 6 screen = some n) (h : s.shows.screens[n].state ≠ .preshow) :
    setStartTime screen (some t) s = s.refuse .badState := by
  simp only [setStartTime, hn, if_pos h]

theorem setStartTime_preshow (hn : numbered 6 screen = some n) (h : s.shows.screens[n].state = .preshow) :
    setStartTime screen (some t) s = ((s.modScreen n fun c => { c with start := t }).examineStart n).ok [] := by
  simp only [setStartTime, hn, if_neg (not_not.mpr h)]

/-! ## HOLD_SHOW and RESUME_SHOW (R78) -/

theorem holdShow_noScreen (h : numbered 6 screen = none) : holdShow screen s = s.refuse .badParam := by
  simp only [holdShow, h]

theorem holdShow_badState (hn : numbered 6 screen = some n) (h : s.shows.screens[n].state.underWay ≠ true) :
    holdShow screen s = s.refuse .badState := by
  simp only [holdShow, hn, if_neg h]

/-- The reasons of a show that has been held. -/
theorem addHold_reasons {r : HoldReason} (h : s.shows.screens[n].state.underWay = true) :
    (s.addHold n r).shows.screens[n].reasons = s.shows.screens[n].reasons.set r true := by
  rw [addHold_underWay h, setShow_screen, shownAs_reasons, modScreen_screen]

theorem holdShow_held (hn : numbered 6 screen = some n) (h : s.shows.screens[n].state.underWay = true) :
    holdShow screen s = (s.addHold n .operator).ok
      [bitsByte [s.shows.screens[n].reasons.sound, s.shows.screens[n].reasons.projector, true]] := by
  simp only [holdShow, hn, if_pos h, addHold_reasons h]
  rfl

theorem resumeShow_noScreen (h : numbered 6 screen = none) : resumeShow screen s = s.refuse .badParam := by
  simp only [resumeShow, h]

theorem resumeShow_badState (hn : numbered 6 screen = some n)
    (h : ¬ (s.shows.screens[n].state = .held ∧ s.shows.screens[n].reasons.operator = true)) :
    resumeShow screen s = s.refuse .badState := by
  simp only [resumeShow, hn, if_neg h]

/-- The state and the reasons of a HELD show with a reason taken out of the set. -/
theorem removeHold_screen {r : HoldReason} (h : s.shows.screens[n].reasons.has r = true)
    (held : s.shows.screens[n].state = .held) :
    let c := (s.removeHold n r).shows.screens[n]
    c.reasons = s.shows.screens[n].reasons.set r false ∧
      c.state = if (s.shows.screens[n].reasons.set r false).isEmpty = true then s.shows.screens[n].runningState
        else .held := by
  have record := modScreen_screen n (fun c => { c with reasons := c.reasons.set r false }) s
  have resumed := removeHold_resumes h
  dsimp only at resumed ⊢
  by_cases empty : (s.shows.screens[n].reasons.set r false).isEmpty = true
  · rw [if_pos ⟨empty, held⟩] at resumed
    rw [if_pos empty, resumed, enterShow_shows, modScreen_screen, record]
    exact ⟨rfl, rfl⟩
  · rw [if_neg fun both => empty both.1] at resumed
    rw [if_neg empty, resumed, record]
    exact ⟨rfl, held⟩

theorem resumeShow_resumed (hn : numbered 6 screen = some n) (held : s.shows.screens[n].state = .held)
    (h : s.shows.screens[n].reasons.operator = true) : resumeShow screen s = (s.removeHold n .operator).ok
      [if s.shows.screens[n].reasons.sound = false ∧ s.shows.screens[n].reasons.projector = false then
          byte1 s.shows.screens[n].runningState.number else 6,
        bitsByte [s.shows.screens[n].reasons.sound, s.shows.screens[n].reasons.projector, false]] := by
  obtain ⟨reasons, state⟩ := removeHold_screen (r := .operator) h held
  have empty : (s.shows.screens[n].reasons.set .operator false).isEmpty = true ↔
      s.shows.screens[n].reasons.sound = false ∧ s.shows.screens[n].reasons.projector = false := by
    simp [HoldReasons.isEmpty, HoldReasons.set]
  simp only [resumeShow, hn, if_pos (And.intro held h), reasons, state, empty]
  congr 2
  split <;> rfl

/-! ## END_SHOW (R79) -/

theorem endShowCommand_noScreen (h : numbered 6 screen = none) : endShowCommand screen s = s.refuse .badParam := by
  simp only [endShowCommand, h]

theorem endShowCommand_dark (hn : numbered 6 screen = some n) (h : s.shows.screens[n].state = .dark) :
    endShowCommand screen s = s.refuse .badState := by
  simp only [endShowCommand, hn, h]

theorem endShowCommand_ended (hn : numbered 6 screen = some n) (h : s.shows.screens[n].state = .ended) :
    endShowCommand screen s = s.ok [] := by
  simp only [endShowCommand, hn, h]

theorem endShowCommand_ends (hn : numbered 6 screen = some n) (dark : s.shows.screens[n].state ≠ .dark)
    (ended : s.shows.screens[n].state ≠ .ended) : endShowCommand screen s = (s.endShow n).ok [] := by
  simp only [endShowCommand, hn]
  split
  next h => exact absurd h dark
  next h => exact absurd h ended
  all_goals rfl

end

/-- Settles O32: each command by its checks. -/
theorem showCommands : Obligations.ShowCommands := by
  refine ⟨fun screen count segments start s ht wf => ?load, fun screen start s ht => ⟨?badStart, ?setStart⟩,
    fun screen s => ⟨fun h => ?noScreen, fun n hn => ?named⟩⟩
  case load =>
    have counted : count.toNat = segments.length := beq_iff_eq.mp (CommandBytes.countGood_of_wf wf)
    have fits : (count.toNat = segments.length && 5 + 4 * segments.length ≤ 44 : Bool) = true := by
      have short : 5 + 4 * segments.length ≤ 44 := of_decide_eq_true (Bool.and_eq_true_iff.mp wf).1
      rw [decide_eq_true counted, decide_eq_true short]
      rfl
    refine ⟨fun bad => next_command_whole ht fits (loadShow_bad bad), fun n good hn =>
      ⟨fun status refused => next_command_whole ht fits (loadShow_refused counted good hn refused),
        fun taken preshow => ?_, fun taken dark => ?_⟩⟩
    · have block := next_command_whole ht fits (loadShow_preshow counted good hn taken preshow)
      dsimp only [ok_state, ok_status, ok_data] at block ⊢
      rw [storeShow_eq] at block
      exact block
    · have block := next_command_whole ht fits (loadShow_dark counted good hn taken dark)
      dsimp only [ok_state, ok_status, ok_data] at block ⊢
      rw [storeShow_eq] at block
      exact block
  case badStart =>
    rintro (noScreen | late)
    · exact next_command_of_block ht (setStartTime_noScreen noScreen _)
    · refine next_command_of_block ht (Eq.trans ?_ (setStartTime_noTime (screen := screen)))
      rw [setStart, startTime_bad late]
  case setStart =>
    intro n good hn
    have given : startTime start = some (givenStart start) := startTime_good fun bad => good (.inr bad)
    have block : setStart screen start s = setStartTime screen (some (givenStart start)) s := by
      rw [setStart, given]
    exact ⟨fun h => next_command_of_block ht (block.trans (setStartTime_badState hn h)),
      fun h => next_command_of_block ht (block.trans (setStartTime_preshow hn h))⟩
  case noScreen =>
    exact ⟨fun ht => next_command_of_block ht (setStartTime_noScreen h _),
      fun ht => next_command_of_block ht (holdShow_noScreen h),
      fun ht => next_command_of_block ht (resumeShow_noScreen h),
      fun ht => next_command_of_block ht (endShowCommand_noScreen h)⟩
  case named =>
    simp only [← underWay_iff]
    exact ⟨fun ht => ⟨fun h => next_command_of_block ht (setStartTime_badState hn h),
        fun h => next_command_of_block ht (setStartTime_preshow hn h)⟩,
      fun ht => ⟨fun h => next_command_of_block ht (holdShow_badState hn h),
        fun h => next_command_of_block ht (holdShow_held hn h)⟩,
      fun ht => ⟨fun h => next_command_of_block ht (resumeShow_badState hn h),
        fun held h => next_command_of_block ht (resumeShow_resumed hn held h)⟩,
      fun ht => ⟨fun h => next_command_of_block ht (endShowCommand_dark hn h),
        fun h => next_command_of_block ht (endShowCommand_ended hn h),
        fun dark ended => next_command_of_block ht (endShowCommand_ends hn dark ended)⟩⟩

end Sys2Proof.Shows
end

section
/-!
SUPPORT. The projector inputs (R68, R72, R74), the seconds of the night clock (R75, R158) and READ_SCREEN (R83), and the
statements about them.
-/

namespace Sys2Proof.Shows

open Sys2Proof Sys2Proof.Machine Sys2Proof.Orders Sys2Proof.Records

section

variable {n : Fin 6} {s : State} {high : Bool}

/-! ## The changes on the pins (R68) -/

theorem modScreen_modScreen (f g : Screen → Screen) (s : State) :
    (s.modScreen n f).modScreen n g = s.modScreen n fun c => g (f c) :=
  congrArg (fun screens => s.modShows fun c => { c with screens }) (Lot.upd_upd s.shows.screens n f g)

/-- A new level on one of the two level inputs, timed while the part runs. -/
def changedInput (s : State) (high : Bool) (i : Input) : Input :=
  if s.sys.phase = .running then
    if i.raw = high then i else { i with raw := high, timer := if high = i.level then none else some 50 }
  else { i with raw := high }

/-- A new level on MARK, timed while the part runs. -/
def changedMark (s : State) (high : Bool) (m : MarkInput) : MarkInput :=
  if s.sys.phase = .running then
    if m.raw = high then m else { m with raw := high, timer := if high = m.armed then some 20 else none }
  else { m with raw := high }

theorem inputChange_running (c : Screen) : c.inputChange (s.sys.phase = .running) .running high =
    { c with running := changedInput s high c.running } := by
  unfold Screen.inputChange changedInput
  by_cases h : s.sys.phase = .running
  · simp only [h, decide_true, if_true]
    rfl
  · simp only [h, decide_false, if_false]
    rfl

theorem inputChange_fault (c : Screen) : c.inputChange (s.sys.phase = .running) .fault high =
    { c with fault := changedInput s high c.fault } := by
  unfold Screen.inputChange changedInput
  by_cases h : s.sys.phase = .running
  · simp only [h, decide_true, if_true]
    rfl
  · simp only [h, decide_false, if_false]
    rfl

theorem inputChange_mark (c : Screen) : c.inputChange (s.sys.phase = .running) .mark high =
    { c with mark := changedMark s high c.mark } := by
  unfold Screen.inputChange changedMark
  by_cases h : s.sys.phase = .running
  · simp only [h, decide_true, if_true]
    rfl
  · simp only [h, decide_false, if_false]
    rfl

/-! ## The levels of the projector (R72, R76, R77) -/

theorem projectorLevel_idle {w : ProjectorLevel} (h : s.shows.screens[n].state.underWay ≠ true)
    (hs : s.shows.screens[n].state ≠ .starting) : s.projectorLevel n w = s := by
  unfold State.projectorLevel
  dsimp only
  split
  next starting => exact absurd starting hs
  next under => rw [under] at h; exact absurd rfl h
  next under => rw [under] at h; exact absurd rfl h
  next under => rw [under] at h; exact absurd rfl h
  all_goals rfl

theorem projectorLevel_starting {w : ProjectorLevel} (h : s.shows.screens[n].state = .starting) :
    s.projectorLevel n w = if w = .running ∧ s.shows.screens[n].running.level = true then s.beginShow n else s := by
  unfold State.projectorLevel
  simp only [h]

theorem projectorLevel_underWay {w : ProjectorLevel} (h : s.shows.screens[n].state.underWay = true) :
    s.projectorLevel n w =
      if (w = .fault ∧ s.shows.screens[n].fault.level = true) ∨
          (w = .running ∧ s.shows.screens[n].running.level = false) then s.addHold n .projector
      else if s.shows.screens[n].fault.level = false ∧ s.shows.screens[n].running.level = true then
        s.removeHold n .projector
      else s := by
  unfold State.projectorLevel
  rcases (underWay_iff _).mp h with state | state | state <;> simp only [state]

theorem isSome_of_ne_none {t : Timer} (h : t ≠ none) : t.isSome = true := Option.isSome_iff_ne_none.mpr h

theorem exec_projectorLevelChange {w : ProjectorLevel} (hp : s.sys.phase = .running)
    (ht : (s.shows.screens[n].level w).timer ≠ none) : exec (.projectorLevelChange n w) s =
      .next ((s.modScreen n (Screen.modLevel w Input.qualify)).projectorLevel n w) :=
  congrArg Host.Outcome.next
    ((whileRunning_running _ _ hp).trans (if_pos (isSome_of_ne_none ht)))

/-! ## The mark (R74) and the start timer (R72) -/

theorem mark_idle (h : s.shows.screens[n].state.underWay ≠ true) : s.mark n = s := if_neg h

theorem mark_underWay {k : Nat} (h : s.shows.screens[n].state.underWay = true)
    (hk : s.shows.screens[n].current = some k) :
    s.mark n = if k < s.shows.screens[n].list.length then s.enterSegment n (k + 1) else s.endShow n := by
  unfold State.mark
  simp only [h, hk, if_true]

theorem exec_markTaken (hp : s.sys.phase = .running) : exec (.markTaken n) s =
    .next ((s.modScreen n fun c => { c with mark := c.mark.take }).mark n) :=
  congrArg Host.Outcome.next (whileRunning_running _ _ hp)

theorem abandonStart_starting (h : s.shows.screens[n].state = .starting) : s.abandonStart n =
    ((s.modScreen n fun c => { c with startTimer := none, current := none }).setShow n .preshow).examineStart n :=
  if_pos h

/-- A start that the timer ended, before its report. -/
def startLost (n : Fin 6) (s : State) : State :=
  (s.modScreen n fun c => { c with start := none, startTimer := none, current := none }).setShow n .preshow

theorem exec_startTimerExpiry (hp : s.sys.phase = .running) (h : s.shows.screens[n].state = .starting)
    (ht : s.shows.screens[n].startTimer ≠ none) : exec (.startTimerExpiry n) s =
      .next (((startLost n s).examineStart n).raiseBooth .projectorFault) := by
  have record : (s.modScreen n fun c => { c with start := none }).shows.screens[n].state = .starting := by
    rw [modScreen_screen]
    exact h
  have merged := modScreen_modScreen (n := n) (fun c => { c with start := none })
    (fun c => { c with startTimer := none, current := none }) s
  have abandoned := abandonStart_starting record
  rw [merged] at abandoned
  refine congrArg Host.Outcome.next ((whileRunning_running _ _ hp).trans ((if_pos ⟨h, isSome_of_ne_none ht⟩).trans ?_))
  rw [abandoned]
  rfl

/-- The screen of a lost start, and that it does not start again. -/
theorem startLost_screen (h : s.shows.screens[n].state = .starting) :
    (startLost n s).shows.screens[n].state = .preshow ∧ (startLost n s).shows.screens[n].start = none ∧
      (startLost n s).shows.screens[n].runReq = false ∧ (startLost n s).examineStart n = startLost n s := by
  have screen := setShow_screen n .preshow
    (s.modScreen n fun c => { c with start := none, startTimer := none, current := none })
  rw [modScreen_screen, shownAs, if_neg (by rw [h]; decide)] at screen
  have start : (startLost n s).shows.screens[n].start = none := by rw [startLost, screen]; rfl
  refine ⟨by rw [startLost, screen]; rfl, start, by rw [startLost, screen]; rfl, examineStart_stays ?_⟩
  rintro ⟨-, ⟨t, given, -⟩, -⟩
  rw [start] at given
  cases given

end

/-- Settles O33: each event by the show state. -/
theorem projectorEvents : Obligations.ProjectorEvents := by
  intro n s c underWay changed
  refine ⟨fun high => ?running, fun high => ?fault, fun high => ?mark, fun hp ht => ?runningLevel, fun hp ht => ?faultLevel,
    fun hp => ⟨fun idle => ?noMark, fun k under hk => ?markTaken⟩, fun hp starting ht => ⟨?expiry, ?abandoned⟩⟩
  case running => exact congrArg (fun f => Host.Outcome.next (s.modScreen n f)) (funext inputChange_running)
  case fault => exact congrArg (fun f => Host.Outcome.next (s.modScreen n f)) (funext inputChange_fault)
  case mark => exact congrArg (fun f => Host.Outcome.next (s.modScreen n f)) (funext inputChange_mark)
  case runningLevel =>
    intro q result
    have record : q.shows.screens[n] = { c with running := { c.running with level := c.running.raw, timer := none } } :=
      modScreen_screen n _ s
    have step : result (q.projectorLevel n .running) := exec_projectorLevelChange hp ht
    refine ⟨fun idle => ?_, fun starting => ?_, fun under low => ?_, fun under raised => ?_⟩
    · rw [projectorLevel_idle] at step
      · exact step
      · rw [record]
        rcases idle with h | h | h <;> simp [h, ShowState.underWay]
      · rw [record]
        rcases idle with h | h | h <;> simp [h]
    · rw [projectorLevel_starting (by rw [record]; exact starting), record] at step
      simpa using step
    all_goals rw [projectorLevel_underWay (by rw [record]; exact (underWay_iff _).mpr under), record] at step
    · simpa [low] using step
    · cases fault : c.fault.level <;> simpa [raised, fault] using step
  case faultLevel =>
    intro q result
    have record : q.shows.screens[n] = { c with fault := { c.fault with level := c.fault.raw, timer := none } } :=
      modScreen_screen n _ s
    have step : result (q.projectorLevel n .fault) := exec_projectorLevelChange hp ht
    refine ⟨fun idle => ?_, fun under raised => ?_, fun under low => ?_⟩
    · by_cases starting : c.state = .starting
      · rw [projectorLevel_starting (by rw [record]; exact starting)] at step
        simpa using step
      · rwa [projectorLevel_idle (by rw [record]; exact mt (underWay_iff _).mp idle) (by rw [record]; exact starting)]
          at step
    all_goals rw [projectorLevel_underWay (by rw [record]; exact (underWay_iff _).mpr under), record] at step
    · simpa [raised] using step
    · simpa [low] using step
  case noMark =>
    refine (exec_markTaken hp).trans (congrArg Host.Outcome.next (mark_idle ?_))
    rw [modScreen_screen]
    exact mt (underWay_iff _).mp idle
  case markTaken =>
    have record := modScreen_screen n (fun c => { c with mark := c.mark.take }) s
    have marked := mark_underWay (n := n) (k := k) (s := s.modScreen n fun c => { c with mark := c.mark.take })
      (by rw [record]; exact (underWay_iff _).mpr under) (by rw [record]; exact hk)
    rw [record] at marked
    exact (exec_markTaken hp).trans (congrArg Host.Outcome.next marked)
  case expiry => exact exec_startTimerExpiry hp starting ht
  case abandoned =>
    obtain ⟨state, start, runReq, stays⟩ := startLost_screen starting
    refine ⟨_, exec_startTimerExpiry hp starting ht, ?_⟩
    rw [stays]
    exact ⟨state, start, runReq⟩

/-! ## The seconds of the night clock (R71, R75, R158) -/

theorem exec_nightClockSecond {s : State} (hp : s.sys.phase = .running) : exec .nightClockSecond s =
    .next (if s.night.state = .closed then s else
      ((s.modNight Night.tickSecond).modShows fun c =>
        { c with screens := c.screens.map Screen.tickSecond }).each (List.finRange 6) State.examineStart) :=
  congrArg Host.Outcome.next (whileRunning_running _ _ hp)

theorem tickSecond_eq (c : Screen) : c.tickSecond =
    if c.state = ShowState.running ∨ c.state = ShowState.intermission then
      { c with remaining := c.remaining.map (· - 1) } else c := by
  unfold Screen.tickSecond
  cases c.state <;> rfl

theorem canOverrun_iff (c : Screen) : c.canOverrun = true ↔ c.remaining ≠ none ∧ c.overrun = false ∧
    (c.state = .running ∨ c.state = .intermission ∨ (c.state = .held ∧ c.remaining = some 0)) := by
  unfold Screen.canOverrun
  cases c.state <;> simp [Option.isSome_iff_ne_none, and_assoc]

theorem exec_segmentOverrun {n : Fin 6} {s : State} (hp : s.sys.phase = .running) : exec (.segmentOverrun n) s =
    .next (if s.shows.screens[n].canOverrun then
      (s.modScreen n fun c => { c with remaining := some 0, overrun := true }).raiseBooth .segmentOverrun else s) :=
  congrArg Host.Outcome.next (whileRunning_running _ _ hp)

/-! ## READ_SCREEN (R83) -/

theorem readScreen_noScreen {screen : Byte} {s : State} (h : numbered 6 screen = none) :
    readScreen screen s = s.refuse .badParam := by
  simp only [readScreen, h]

theorem readScreen_screen {screen : Byte} {n : Fin 6} {s : State} (h : numbered 6 screen = some n) :
    readScreen screen s = s.ok (s.screenBytes n) := by
  simp only [readScreen, h]

theorem length_screenBytes {n : Fin 6} {s : State} (h : s.shows.screens[n].list.length ≤ 8) :
    (s.screenBytes n).length = 45 := by
  have segments := length_listBytes (capacity := 8) (enc := fun g : Segment => bytes4 g.toWord.toNat)
    (width := 4) (fun _ _ => rfl) h
  simp only [listBytes, List.length_append, List.length_cons] at segments
  simp only [State.screenBytes, optSeconds, bytes2, bytes3, List.length_append, List.length_cons, List.length_nil]
  omega

/-- Settles O34: each event by its conditions, and READ_SCREEN field by field. -/
theorem showClockAndRead : Obligations.ShowClockAndRead := by
  refine fun s => ⟨fun hp => ⟨fun closed => ?closed, fun taken => ?second⟩, fun n hp => ⟨fun ends => ?overrun,
    fun going => ?going⟩, fun screen ht => ⟨fun h => next_command_of_block ht (readScreen_noScreen h), fun n hn => ?read⟩⟩
  case closed => exact (exec_nightClockSecond hp).trans (congrArg Host.Outcome.next (if_pos closed))
  case second =>
    rw [exec_nightClockSecond hp, if_neg taken, show Screen.tickSecond = _ from funext tickSecond_eq]
    rfl
  case overrun =>
    exact (exec_segmentOverrun hp).trans (congrArg Host.Outcome.next (if_pos ((canOverrun_iff _).mpr ends)))
  case going =>
    exact (exec_segmentOverrun hp).trans (congrArg Host.Outcome.next (if_neg (mt (canOverrun_iff _).mp going)))
  case read =>
    intro c x f data
    have bytes : s.screenBytes n = data := by
      simp only [State.screenBytes, data, x, c, f]
      cases s.chans.sounds[n].sound with
      | off => rfl
      | failed => rfl
      | live k => rfl
      | announce k j cause => cases cause <;> rfl
    rw [← bytes]
    exact ⟨next_command_of_block ht (readScreen_screen hn), length_screenBytes⟩

end Sys2Proof.Shows
end

section
/-!
SUPPORT. The carrier channel manager (R87 to R100): what each of its changes does to a screen and to a channel, and the
statements about them.
-/

namespace Sys2Proof.Channels

open Sys2Proof Sys2Proof.Machine Sys2Proof.Orders Sys2Proof.Records Sys2Proof.Shows

variable {n : Fin 6} {c d next : Fin 12} {s : State} {cause : RetuneCause}

/-! ## The sound of a screen (R87, R90, R99) -/

theorem code_pos_iff (x : Sound) : x.onAir = true ↔ x.code ≠ 0 := by
  cases x <;> simp [Sound.onAir, Sound.code]

theorem enter_offAir {x : Sound} (h : x.code = 0) (time : Nat) (r : SoundRecord) : r.enter x time =
    { r with sound := x, chsel := x.code, faultTimer := none, spent := false, carrierLevel := r.carrierOk } :=
  if_neg (mt (code_pos_iff x).mp (not_not.mpr h))

theorem enter_changed {x : Sound} (h : x.code ≠ 0) {r : SoundRecord} (hc : r.chsel ≠ x.code) (time : Nat) :
    r.enter x time = { r with
      sound := x, chsel := x.code, spent := false, faultTimer := if r.carrierOk then none else some time } := by
  have onAir := (code_pos_iff x).mpr h
  unfold SoundRecord.enter SoundRecord.qualify
  cases r.carrierOk <;> simp [onAir, hc]

theorem enter_same {x : Sound} (h : x.code ≠ 0) {r : SoundRecord} (hc : r.chsel = x.code) (time : Nat) :
    r.enter x time = { r with
      sound := x, chsel := x.code
      faultTimer := if r.carrierOk = false ∧ r.faultTimer = none ∧ r.spent = false then some time
        else r.faultTimer } := by
  have onAir := (code_pos_iff x).mpr h
  unfold SoundRecord.enter SoundRecord.qualify
  simp only [onAir, if_true, hc, ne_eq, not_true_eq_false, if_false, true_and]
  split <;> rfl

/-! ## What the show controller takes (R81) -/

theorem soundTaken_preshow (h : s.chans.sounds[n].sound = .live c) (hs : s.shows.screens[n].state = .preshow) :
    s.soundTaken n = s.examineStart n := by
  simp only [State.soundTaken, h, hs]

theorem soundTaken_held (h : s.chans.sounds[n].sound = .live c) (hs : s.shows.screens[n].state = .held) :
    s.soundTaken n = s.removeHold n .sound := by
  simp only [State.soundTaken, h, hs]

theorem soundTaken_other (h : s.chans.sounds[n].sound = .live c) (preshow : s.shows.screens[n].state ≠ .preshow)
    (held : s.shows.screens[n].state ≠ .held) : s.soundTaken n = s := by
  simp only [State.soundTaken, h]

theorem soundTaken_announce (h : s.chans.sounds[n].sound = .announce c next cause) :
    s.soundTaken n = s.examineStart n := by
  simp only [State.soundTaken, h]

theorem soundTaken_none (h : s.chans.sounds[n].sound = .failed ∨ s.chans.sounds[n].sound = .off) :
    s.soundTaken n = (s.abandonStart n).addHold n .sound := by
  rcases h with h | h <;> simp only [State.soundTaken, h]

theorem abandonStart_idle (h : s.shows.screens[n].state ≠ .starting) : s.abandonStart n = s := if_neg h

theorem setShow_chans (n : Fin 6) (st : ShowState) (s : State) : (s.setShow n st).chans = s.chans := by
  rw [setShow_eq]
  split
  next => rfl
  next =>
    have frame := NightUnit.recomputeWindow_windowFrame n ((s.modScreen n (Screen.enter st)).raiseBooth .showState)
    exact (congrArg State.chans frame : _)

/-- A start abandoned for want of sound does not start again. -/
theorem abandonStart_noSound (h : s.chans.sounds[n].sound = .failed ∨ s.chans.sounds[n].sound = .off)
    (hs : s.shows.screens[n].state = .starting) : s.abandonStart n =
      (s.modScreen n fun c => { c with startTimer := none, current := none }).setShow n .preshow := by
  have chans := setShow_chans n .preshow (s.modScreen n fun c => { c with startTimer := none, current := none })
  refine (abandonStart_starting hs).trans (examineStart_stays ?_)
  rintro ⟨-, -, -, onAir⟩
  rw [chans, ← onAir_iff] at onAir
  have sound : s.chans.sounds[n].sound.onAir = true := onAir
  rcases h with h | h <;> rw [h] at sound <;> cases sound

/-! ## Spare channels (R88, R91, R98) -/

theorem available_iff (x : Channel) : x.available = true ↔ x = { permitted := true, state := .free } := by
  obtain ⟨permitted, state⟩ := x
  simp [Channel.available]

theorem spare_none (h : ∀ c : Fin 12, s.chans.channels[c] ≠ { permitted := true, state := .free }) :
    s.spare = none := by
  unfold State.spare
  rw [List.find?_eq_none]
  exact fun c _ => mt (available_iff _).mp (h c)

theorem spare_lowest (h : s.chans.channels[c] = { permitted := true, state := .free })
    (low : ∀ d : Fin 12, d < c → s.chans.channels[d] ≠ { permitted := true, state := .free }) : s.spare = some c := by
  unfold State.spare
  rw [StartUp.find?_finRange]
  exact ⟨(available_iff _).mpr h, fun d hd =>
    eq_false_of_ne_true (mt (available_iff _).mp (low d hd))⟩

theorem offer_taken {m : Fin 6} (h : s.chans.channels[c] = { permitted := true, state := .free })
    (hm : s.chans.sounds[m].sound = .failed) (low : ∀ k : Fin 6, k < m → s.chans.sounds[k].sound ≠ .failed) :
    s.offer c = s.takeChannel m c := by
  have first : ((List.finRange 6).find? fun k => decide (s.chans.sounds[k].sound = .failed)) = some m :=
    StartUp.find?_finRange.mpr ⟨decide_eq_true hm, fun k hk => decide_eq_false (low k hk)⟩
  unfold State.offer
  rw [if_pos ((available_iff _).mpr h), first]

theorem offer_kept (hf : ∀ m : Fin 6, s.chans.sounds[m].sound ≠ .failed) : s.offer c = s := by
  have noScreen : ((List.finRange 6).find? fun k => decide (s.chans.sounds[k].sound = .failed)) = none := by
    rw [List.find?_eq_none]
    exact fun k _ => by simpa using hf k
  unfold State.offer
  rw [noScreen]
  exact ite_self s

/-! ## What a screen acquires and gives up (R88, R89) -/

theorem candidate_home {f : Field} (hf : s.lot.fields[n] = some f)
    (h : s.chans.channels[f.home] = { permitted := true, state := .free }) : s.candidate n = some f.home := by
  simp only [State.candidate, hf]
  exact if_pos ((available_iff _).mpr h)

theorem candidate_spare (h : ∀ f, s.lot.fields[n] = some f →
    s.chans.channels[f.home] ≠ { permitted := true, state := .free }) : s.candidate n = s.spare := by
  unfold State.candidate
  split
  next f hf => exact if_neg (mt (available_iff _).mp (h f hf))
  next => rfl

theorem acquire_channel (h : s.candidate n = some c) : s.acquire n = s.takeChannel n c := by
  simp only [State.acquire, h]

theorem acquire_none (h : s.candidate n = none) : s.acquire n = (s.setSound n .failed).raiseBooth .nochan := by
  simp only [State.acquire, h]

theorem giveUp_live (h : s.chans.sounds[n].sound = .live c) :
    s.giveUp n = ((s.setChannel c .free).setSound n .off).offer c := by
  simp only [State.giveUp, h]

theorem giveUp_announce (h : s.chans.sounds[n].sound = .announce c next cause) : s.giveUp n =
    let u := (((s.setChannel c .free).setChannel next .free).modSound n fun r =>
      { r with announceTimer := none }).setSound n .off
    if c < next then (u.offer c).offer next else (u.offer next).offer c := by
  simp only [State.giveUp, h]

/-! ## Carrier faults (R93, R94) -/

theorem carrierFaultAt_live (h : s.chans.sounds[n].sound = .live c) (hs : s.spare = some next) :
    s.carrierFaultAt n = s.announceChannel n c next .carrier := by
  simp only [State.carrierFaultAt, h, hs]

theorem carrierFaultAt_lost (h : s.chans.sounds[n].sound = .live c) (hs : s.spare = none) :
    s.carrierFaultAt n = s.loseSound n c := by
  simp only [State.carrierFaultAt, h, hs]

theorem carrierFaultAt_announce (h : s.chans.sounds[n].sound = .announce c next cause) :
    s.carrierFaultAt n = s.modSound n fun r => { r with sound := .announce c next .carrier } := by
  simp only [State.carrierFaultAt, h]

/-- Settles O35: each change by the sound, the show and the channels. -/
theorem soundOperations : Obligations.SoundOperations := by
  refine ⟨fun x time r => ?enter, fun n s => ⟨fun x => rfl, fun c h => ?live, fun c k x h => ?announce, fun h => ?none,
    fun f hf home => acquire_channel (candidate_home hf home), fun c free low busy => ?spare, fun full => ?failed,
    fun c h => giveUp_live h, fun c next x h => giveUp_announce h,
    fun c free => ⟨fun low h => offer_taken free h low, fun h => offer_kept h⟩,
    fun c next h hs => carrierFaultAt_live h hs, fun c h hs => carrierFaultAt_lost h hs,
    fun c next x h => carrierFaultAt_announce h⟩⟩
  case enter =>
    intro t code
    have chsel : code = x.code := by cases x <;> rfl
    rw [chsel]
    by_cases off : x.code = 0
    · rw [show t = _ from enter_offAir off time r]
      exact ⟨rfl, rfl, rfl, rfl, fun _ => ⟨rfl, rfl, rfl⟩, fun on => absurd off on, fun on => absurd off on⟩
    · by_cases same : r.chsel = x.code
      · rw [show t = _ from enter_same off same time]
        exact ⟨rfl, rfl, rfl, rfl, fun h => absurd h off, fun _ h => absurd same h, fun _ _ => ⟨rfl, rfl⟩⟩
      · rw [show t = _ from enter_changed off same time]
        exact ⟨rfl, rfl, rfl, rfl, fun h => absurd h off, fun _ _ => ⟨rfl, rfl⟩, fun _ h => absurd h same⟩
  case live =>
    exact ⟨soundTaken_preshow h, soundTaken_held h, soundTaken_other h⟩
  case announce =>
    exact ⟨fun _ => soundTaken_announce h,
      fun hs => (soundTaken_announce h).trans (examineStart_stays fun starts => hs starts.1)⟩
  case none =>
    have taken := soundTaken_none h
    refine ⟨fun idle => ?_, fun starting => ?_, fun under => ?_⟩
    · rw [taken, abandonStart_idle, addHold_idle] <;> rcases idle with hs | hs | hs <;> rw [hs] <;> decide
    · have state : ((s.modScreen n fun c => { c with startTimer := none, current := none }).setShow n
          .preshow).shows.screens[n] = shownAs .preshow { s.shows.screens[n] with startTimer := none, current := none } := by
        rw [setShow_screen, modScreen_screen]
      rw [taken, abandonStart_noSound h starting, addHold_idle] <;> rw [state, shownAs_state]
      · exact ⟨rfl, by rw [shownAs_start]⟩
      · decide
    · rw [taken, abandonStart_idle]
      rcases under with hs | hs | hs <;> rw [hs] <;> decide
  case spare =>
    have lowest := spare_lowest free low
    exact ⟨lowest, acquire_channel ((candidate_spare busy).trans lowest)⟩
  case failed =>
    have none := spare_none full
    exact ⟨none, acquire_none ((candidate_spare fun f _ => full f.home).trans none)⟩

end Sys2Proof.Channels
end

section
/-!
SUPPORT. The commands and events of the carrier channel manager (R90, R92, R95 to R97, R100), and the statements about
them.
-/

namespace Sys2Proof.Channels

open Sys2Proof Sys2Proof.Machine Sys2Proof.Orders Sys2Proof.Records Sys2Proof.Shows

section

variable {screen channel : Byte} {n : Fin 6} {c next live : Fin 12} {s : State} {cause : RetuneCause}

/-! ## RETUNE (R92) -/

theorem retune_noScreen (h : numbered 6 screen = none) : retune screen s = s.refuse .badParam := by
  simp only [retune, h]

theorem retune_live (hn : numbered 6 screen = some n) (h : s.chans.sounds[n].sound = .live c)
    (hs : s.spare = some next) : retune screen s =
      { state := s.announceChannel n c next .operator, status := .accepted, data := [numberByte next] } := by
  simp only [retune, hn, h, hs]

theorem retune_noSpare (hn : numbered 6 screen = some n) (h : s.chans.sounds[n].sound = .live c)
    (hs : s.spare = none) : retune screen s = s.refuse .nochan := by
  simp only [retune, hn, h, hs]

theorem retune_announce (hn : numbered 6 screen = some n) (h : s.chans.sounds[n].sound = .announce c next cause) :
    retune screen s = s.refuse .busy := by
  simp only [retune, hn, h]

theorem retune_noSound (hn : numbered 6 screen = some n)
    (h : s.chans.sounds[n].sound = .off ∨ s.chans.sounds[n].sound = .failed) :
    retune screen s = s.refuse .badState := by
  rcases h with h | h <;> simp only [retune, hn, h]

end

/-- Settles O36: the command by the sound of the screen. -/
theorem retune : Obligations.Retune := fun _ _ ht =>
  ⟨fun h => next_command_of_block ht (retune_noScreen h), fun _ hn =>
    ⟨fun _ _ h hs => next_command_of_block ht (retune_live hn h hs),
      fun _ h hs => next_command_of_block ht (retune_noSpare hn h hs),
      fun _ _ _ h => next_command_of_block ht (retune_announce hn h),
      fun h => next_command_of_block ht (retune_noSound hn h)⟩⟩

section

variable {screen channel : Byte} {n : Fin 6} {c next live : Fin 12} {s : State} {cause : RetuneCause}

/-! ## QUARANTINE_CHANNEL (R96) and READ_CHANNELS (R100) -/

/-- The answer of QUARANTINE_CHANNEL: the state that the channel then has. -/
def channelAnswer (c : Fin 12) (t : State) : Reply := t.ok [byte1 t.chans.channels[c].state.number]

theorem quarantine_noChannel (h : numbered 12 channel = none) : quarantineCommand channel s = s.refuse .badParam := by
  simp only [quarantineCommand, h]

theorem quarantine_idle (hc : numbered 12 channel = some c)
    (h : s.chans.channels[c].state = .free ∨ ∃ k, s.chans.channels[c].state = .quarantined k) :
    quarantineCommand channel s = channelAnswer c (s.quarantine c) := by
  rcases h with h | ⟨k, h⟩ <;> simp only [quarantineCommand, hc, h, channelAnswer]

theorem quarantine_live (hc : numbered 12 channel = some c) (h : s.chans.channels[c].state = .held n .live) :
    quarantineCommand channel s = channelAnswer c (s.carrierFaultAt n) := by
  simp only [quarantineCommand, hc, h, channelAnswer]

theorem quarantine_announced (hc : numbered 12 channel = some c) (h : s.chans.channels[c].state = .held n .announced)
    (hs : s.chans.sounds[n].sound = .announce live c cause) :
    quarantineCommand channel s = channelAnswer c (s.announcedQuarantined n live c cause) := by
  simp only [quarantineCommand, hc, h, hs, channelAnswer]

theorem announcedQuarantined_other {other : Fin 12} (h : (s.quarantine next).spare = some other) :
    s.announcedQuarantined n live next cause = (s.quarantine next).announceChannel n live other cause := by
  simp only [State.announcedQuarantined, h]

theorem announcedQuarantined_operator (h : (s.quarantine next).spare = none) :
    s.announcedQuarantined n live next .operator = (((s.quarantine next).modSound n fun r =>
      { r with announceTimer := none }).setSound n (.live live)).raiseBooth .nochan := by
  simp only [State.announcedQuarantined, h]

theorem announcedQuarantined_carrier (h : (s.quarantine next).spare = none) :
    s.announcedQuarantined n live next .carrier = (s.quarantine next).loseSound n live := by
  simp only [State.announcedQuarantined, h]

theorem length_channelBytes (x : Channel) : x.bytes.length = 3 := by
  unfold Channel.bytes
  dsimp only
  split <;> rfl

theorem length_readChannels (s : State) : (readChannels s).data.length = 43 := by
  have channels : (s.chans.channels.toList.flatMap Channel.bytes).length = 36 := by
    rw [List.length_flatMap, List.map_congr_left fun x _ => length_channelBytes x, List.map_const', List.sum_replicate,
      Vector.length_toList]
    rfl
  simp only [readChannels, ok_data, List.length_append, channels, List.length_map, Vector.length_toList,
    List.length_cons, List.length_nil]

/-! ## CARRIER_OK_CHANGE (R90) -/

theorem modSound_congr {f g : SoundRecord → SoundRecord} (h : f s.chans.sounds[n] = g s.chans.sounds[n]) :
    s.modSound n f = s.modSound n g :=
  congrArg (fun sounds => s.modChans fun m => { m with sounds }) (upd_congr h)

theorem modSound_modSound (f g : SoundRecord → SoundRecord) (s : State) :
    (s.modSound n f).modSound n g = s.modSound n fun r => g (f r) :=
  congrArg (fun sounds => s.modChans fun m => { m with sounds }) (Lot.upd_upd s.chans.sounds n f g)

theorem exec_carrierOkChange_same {high : Bool} (h : s.chans.sounds[n].carrierOk = high) :
    exec (.carrierOkChange n high) s = .next s :=
  congrArg Host.Outcome.next (if_pos h)

theorem exec_carrierOkChange_held {high : Bool} (h : s.chans.sounds[n].carrierOk ≠ high)
    (hp : s.sys.phase ≠ .running) :
    exec (.carrierOkChange n high) s = .next (s.modSound n fun r => { r with carrierOk := high }) :=
  congrArg Host.Outcome.next ((if_neg h).trans (whileRunning_other _ _ hp))

theorem exec_carrierOkChange {high : Bool} (h : s.chans.sounds[n].carrierOk ≠ high) (hp : s.sys.phase = .running) :
    exec (.carrierOkChange n high) s =
      .next (s.modSound n fun r => { r with carrierOk := high }.takeLine s.chans.faultTime) :=
  congrArg Host.Outcome.next ((if_neg h).trans
    ((whileRunning_running (s.modSound n fun r => { r with carrierOk := high }) _ hp).trans (modSound_modSound _ _ s)))

theorem takeLine_high {r : SoundRecord} (h : r.sound.onAir = true) (time : Nat) :
    { r with carrierOk := true }.takeLine time =
      { r with carrierOk := true, faultTimer := none, spent := false, carrierLevel := true } := by
  simp only [SoundRecord.takeLine, h, if_true]

theorem takeLine_low {r : SoundRecord} (h : r.sound.onAir = true) (time : Nat) :
    { r with carrierOk := false }.takeLine time = { r with
      carrierOk := false
      faultTimer := if r.faultTimer = none ∧ r.spent = false then some time else r.faultTimer } := by
  simp only [SoundRecord.takeLine, SoundRecord.qualify, h, if_true, Bool.false_eq_true, if_false, true_and]
  split <;> rfl

theorem takeLine_offAir {r : SoundRecord} {high : Bool} (h : r.sound.onAir ≠ true) (time : Nat) :
    { r with carrierOk := high }.takeLine time = { r with carrierOk := high, carrierLevel := high } :=
  if_neg h

/-! ## The other events (R90, R95, R97) -/

theorem exec_carrierFault (hp : s.sys.phase = .running) (h : s.chans.sounds[n].faultTimer ≠ none) :
    exec (.carrierFault n) s = .next ((s.modSound n fun r =>
      { r with faultTimer := none, spent := true, carrierLevel := false }).carrierFaultAt n) :=
  congrArg Host.Outcome.next ((whileRunning_running _ _ hp).trans (if_pos (isSome_of_ne_none h)))

theorem exec_announceTimerExpiry (hp : s.sys.phase = .running) (ht : s.chans.sounds[n].announceTimer ≠ none)
    (h : s.chans.sounds[n].sound = .announce c next cause) :
    exec (.announceTimerExpiry n) s = .next (s.switchChannel n c next cause) := by
  refine congrArg Host.Outcome.next ((whileRunning_running _ _ hp).trans ((if_pos (isSome_of_ne_none ht)).trans ?_))
  rw [h]

theorem tickSecond_channel (x : Channel) : x.tickSecond = { x with state := match x.state with
    | .quarantined k => .quarantined (k - 1)
    | y => y } := by
  obtain ⟨permitted, state⟩ := x
  cases state <;> rfl

theorem exec_channelSecond (hp : s.sys.phase = .running) : exec .channelSecond s = .next (s.modChans fun m =>
    { m with channels := m.channels.map Channel.tickSecond, secondTimer := some 1000 }) :=
  congrArg Host.Outcome.next (whileRunning_running _ _ hp)

theorem exec_quarantineExpiry (hp : s.sys.phase = .running) {k : Nat}
    (h : s.chans.channels[c].state = .quarantined k) :
    exec (.quarantineExpiry c) s = .next ((s.setChannel c .free).offer c) := by
  refine congrArg Host.Outcome.next ((whileRunning_running _ _ hp).trans ?_)
  rw [h]

theorem exec_quarantineExpiry_other (hp : s.sys.phase = .running)
    (h : ∀ k, s.chans.channels[c].state ≠ .quarantined k) : exec (.quarantineExpiry c) s = .next s := by
  refine congrArg Host.Outcome.next ((whileRunning_running _ _ hp).trans ?_)
  split
  next k quarantined => exact absurd quarantined (h k)
  next => rfl

end

/-- Settles O37: each command and event by its cases. -/
theorem channelCommandsAndEvents : Obligations.ChannelCommandsAndEvents := by
  refine ⟨fun channel s ht => ⟨fun h => next_command_of_block ht (quarantine_noChannel h), fun c hc =>
      ⟨fun h => next_command_of_block ht (quarantine_idle hc h), fun n h => next_command_of_block ht (quarantine_live hc h),
        fun n k x h hs => ?announced⟩⟩,
    fun s ht => ⟨next_command_of_block ht rfl, length_readChannels s⟩,
    fun n high s => ⟨exec_carrierOkChange_same, exec_carrierOkChange_held, fun h hp => ?carrier⟩,
    fun n s hp => ⟨exec_carrierFault hp, fun c next x ht h => ?switch⟩,
    fun s hp => ⟨?second, fun c => ⟨fun k h => exec_quarantineExpiry hp h, exec_quarantineExpiry_other hp⟩⟩⟩
  case announced =>
    have block := next_command_of_block ht (quarantine_announced hc h hs)
    refine ⟨fun other spare => ?_, ?_, ?_⟩
    · rw [announcedQuarantined_other spare] at block
      exact block
    · rintro spare rfl
      rw [announcedQuarantined_operator spare] at block
      exact block
    · rintro spare rfl
      rw [announcedQuarantined_carrier spare] at block
      exact block
  case carrier =>
    simp only [← onAir_iff]
    have step := exec_carrierOkChange h hp
    refine ⟨?_, ?_, fun off => step.trans (congrArg Host.Outcome.next (modSound_congr (takeLine_offAir off _)))⟩
    · rintro onAir rfl
      exact step.trans (congrArg Host.Outcome.next (modSound_congr (takeLine_high onAir _)))
    · rintro onAir rfl
      exact step.trans (congrArg Host.Outcome.next (modSound_congr (takeLine_low onAir _)))
  case switch =>
    rw [exec_announceTimerExpiry hp ht h]
    cases x <;> rfl
  case second =>
    rw [exec_channelSecond hp, show Channel.tickSecond = _ from funext tickSecond_channel]
    rfl

end Sys2Proof.Channels
end

section
/-!
SUPPORT. The row display driver (R102, R103, R210): the word on the bus, its levels on the pins and the line that the bus
takes next, and the statement about them.
-/

namespace Sys2Proof.RowDisplay

open Sys2Proof Sys2Proof.Machine

/-! ## The word on the bus (R210) -/

section

variable (p : BitVec 6) (q : BitVec 4) (x y : Bool) (z : BitVec 4)

/-- The fields of a row word laid out. -/
def layout : BitVec 16 := p ++ q ++ BitVec.ofBool x ++ BitVec.ofBool y ++ z

theorem layout_line : (layout p q x y z).extractLsb' 10 6 = p := by
  ext i hi
  simp only [layout, BitVec.getElem_extractLsb', BitVec.getLsbD_append]
  grind

theorem layout_channel : (layout p q x y z).extractLsb' 6 4 = q := by
  ext i hi
  simp only [layout, BitVec.getElem_extractLsb', BitVec.getLsbD_append]
  grind

theorem layout_blink : (layout p q x y z).getLsbD 5 = x := by
  simp only [layout, BitVec.getLsbD_append]
  cases x <;> rfl

theorem layout_lamp : (layout p q x y z).getLsbD 4 = y := by
  simp only [layout, BitVec.getLsbD_append]
  cases y <;> rfl

theorem layout_count : (layout p q x y z).extractLsb' 0 4 = z := by
  ext i hi
  simp only [layout, BitVec.getElem_extractLsb', BitVec.getLsbD_append]
  grind

end

theorem ones_le {n : Nat} (w : BitVec n) : ones w ≤ n :=
  List.countP_le_length.trans_eq List.length_range

/-- The count that a row word carries is that of the ones above it. -/
theorem busWord_count (r : Fin 48) (w : DisplayWord) : ((busWord r w).extractLsb' 0 4).toNat =
    (List.range 12).countP fun k => (busWord r w).getLsbD (k + 4) := by
  let body : BitVec 12 := BitVec.ofNat 6 (r.val + 1) ++ BitVec.ofNat 4 w.channel ++
    BitVec.ofBool w.blink ++ BitVec.ofBool w.lamp
  have word : busWord r w = body ++ BitVec.ofNat 4 (ones body) := rfl
  have above (k : Nat) : (busWord r w).getLsbD (k + 4) = body.getLsbD k := by
    rw [word, BitVec.getLsbD_append, if_neg (by omega), Nat.add_sub_cancel]
  have carried : (busWord r w).extractLsb' 0 4 = BitVec.ofNat 4 (ones body) := layout_count ..
  have small : ones body < 2 ^ 4 := (ones_le body).trans_lt (by decide)
  rw [carried, BitVec.toNat_ofNat, Nat.mod_eq_of_lt small]
  simp only [above]
  rfl

/-! ## The levels of a word on the pins (R210) -/

theorem length_pairs {α β : Type} (f g : α → β) (l : List α) : (l.flatMap fun a => [f a, g a]).length = 2 * l.length := by
  induction l with
  | nil => rfl
  | cons a rest ih =>
    simp only [List.flatMap_cons, List.length_append, List.length_cons, ih, List.length_nil]
    omega

theorem getElem?_pairs {α β : Type} (f g : α → β) (l : List α) (k : Nat) :
    (l.flatMap fun a => [f a, g a])[2 * k]? = l[k]?.map f ∧
      (l.flatMap fun a => [f a, g a])[2 * k + 1]? = l[k]?.map g := by
  induction l generalizing k with
  | nil => simp
  | cons a rest ih =>
    cases k with
    | zero => exact ⟨rfl, rfl⟩
    | succ k =>
      obtain ⟨low, high⟩ := ih k
      exact ⟨low, high⟩

theorem length_busLevels (w : BitVec 16) : (busLevels w).length = 32 := by
  rw [busLevels, length_pairs, List.length_finRange]

theorem busLevels_bit (w : BitVec 16) {k : Nat} (h : k < 16) :
    (busLevels w)[2 * k]? = some (false, w.getLsbD (15 - k)) ∧
      (busLevels w)[2 * k + 1]? = some (true, w.getLsbD (15 - k)) := by
  have place : (List.finRange 16)[k]? = some ⟨k, h⟩ := by simp [h]
  have pairs := getElem?_pairs (fun i : Fin 16 => (false, w.getMsb i)) (fun i => (true, w.getMsb i)) (List.finRange 16) k
  rw [place] at pairs
  exact pairs

theorem levels_eq {d : Display} {r : Fin 48} {w : BitVec 16} {t : Nat}
    (h : d.bus = some { row := r, word := w, timer := some t }) (ht : 1 ≤ t) :
    (busLevels w)[16 * (2 - t)]? = some (d.rdClk, d.rdDat) := by
  have short : 16 * (2 - t) < (busLevels w).length := by
    rw [length_busLevels]
    omega
  have level := List.getElem?_eq_getElem short
  have levels : ({ row := r, word := w, timer := some t } : Sending).levels = (busLevels w)[16 * (2 - t)] := by
    show ((busLevels w)[16 * (2 - t)]?).getD _ = _
    rw [level]
    rfl
  rw [level, Display.rdClk, Display.rdDat, h, Option.map_some, Option.map_some, levels]
  rfl

/-! ## The line that the bus takes next (R103) -/

section

variable {d : Display} {r : Fin 48}

theorem next_above (queued : d.queued[r] = true) (above : d.lastSent < r)
    (low : ∀ j : Fin 48, d.lastSent < j → j < r → d.queued[j] = false) : d.next = some r := by
  have found : ((List.finRange 48).filter fun r => d.queued[r]).find? (fun r => decide (d.lastSent < r)) = some r := by
    rw [List.find?_filter, StartUp.find?_finRange]
    refine ⟨by simp [queued, above], fun j hj => ?_⟩
    by_cases later : d.lastSent < j
    · rw [low j later hj]; rfl
    · simp [later]
  unfold Display.next
  dsimp only
  rw [found]

theorem next_lowest (queued : d.queued[r] = true) (none : ∀ j : Fin 48, d.lastSent < j → d.queued[j] = false)
    (low : ∀ j : Fin 48, j < r → d.queued[j] = false) : d.next = some r := by
  have found : ((List.finRange 48).filter fun r => d.queued[r]).find? (fun r => decide (d.lastSent < r)) = Option.none := by
    rw [List.find?_eq_none]
    intro j hj
    rw [List.mem_filter] at hj
    simp only [decide_eq_true_eq]
    intro later
    rw [none j later] at hj
    cases hj.2
  have first : ((List.finRange 48).filter fun r => d.queued[r]).head? = some r := by
    rw [List.head?_filter, StartUp.find?_finRange]
    exact ⟨queued, low⟩
  unfold Display.next
  dsimp only
  rw [found]
  exact first

theorem next_none (h : ∀ r : Fin 48, d.queued[r] = false) : d.next = none := by
  have empty : ((List.finRange 48).filter fun r => d.queued[r]) = [] := by
    rw [List.filter_eq_nil_iff]
    exact fun j _ => ne_true_of_eq_false (h j)
  unfold Display.next
  dsimp only
  rw [empty]
  rfl

theorem start_next (idle : d.bus = none) (h : d.next = some r) : d.start = { d with
    queued := upd d.queued r fun _ => false, lastSent := r
    bus := some { row := r, word := busWord r d.words[r], timer := some 2 } } := by
  simp only [Display.start, idle, h]
  rfl

theorem start_busy (h : d.bus ≠ none) : d.start = d := by
  unfold Display.start
  split
  next idle _ => exact absurd idle h
  next => rfl

theorem start_empty (h : d.next = none) : d.start = d := by
  unfold Display.start
  rw [h]
  split
  next heq => cases heq
  next => rfl

end

theorem exec_displayWordStart {s : State} (hp : s.sys.phase = .running) :
    exec .displayWordStart s = .next (s.modDisp Display.start) :=
  congrArg Host.Outcome.next (whileRunning_running _ _ hp)

theorem exec_displayWordSent {s : State} (hp : s.sys.phase = .running) :
    exec .displayWordSent s = .next (s.modDisp Display.finish) :=
  congrArg Host.Outcome.next (whileRunning_running _ _ hp)

theorem modDisp_of_eq {s : State} {f : Display → Display} {d : Display} (h : f s.disp = d) :
    s.modDisp f = { s with disp := d } := congrArg (fun disp => { s with disp }) h

/-- Settles O38: the word, its levels, and the steps of the bus. -/
theorem rowDisplayBus : Obligations.RowDisplayBus := by
  refine ⟨fun r w d => ⟨fun h => if_pos h, fun h => if_neg h⟩, fun r w hw => ?word,
    fun w => ⟨length_busLevels w, fun k hk => busLevels_bit w hk⟩,
    fun d => ⟨fun h => ⟨d.rdClk_idle h, d.rdDat_idle h⟩, fun r w t h ht _ => levels_eq h ht⟩,
    fun s hp => ⟨fun r idle queued h => ?start, ?none, fun idle => ?idle, fun x h => ?sent⟩⟩
  case word => exact ⟨layout_line .., layout_channel .., layout_blink .., layout_lamp .., busWord_count r w⟩
  case start =>
    have next : s.disp.next = some r := by
      rcases h with ⟨above, low⟩ | ⟨none, low⟩
      · exact next_above queued above low
      · exact next_lowest queued none low
    exact (exec_displayWordStart hp).trans (congrArg Host.Outcome.next (modDisp_of_eq (start_next idle next)))
  case none =>
    rintro (busy | empty)
    · exact (exec_displayWordStart hp).trans (congrArg Host.Outcome.next (modDisp_of_eq (start_busy busy)))
    · exact (exec_displayWordStart hp).trans (congrArg Host.Outcome.next (modDisp_of_eq (start_empty (next_none empty))))
  case idle =>
    refine (exec_displayWordSent hp).trans (congrArg Host.Outcome.next (modDisp_of_eq ?_))
    rw [Display.finish, idle]
  case sent =>
    refine (exec_displayWordSent hp).trans (congrArg Host.Outcome.next (modDisp_of_eq ?_))
    rw [Display.finish, h]

end Sys2Proof.RowDisplay
end

section
/-!
SUPPORT. The tone qualifier of a row (R107 to R112), and the statement about it.
-/

namespace Sys2Proof.PostRows

open Sys2Proof Sys2Proof.Machine Sys2Proof.Orders Sys2Proof.Records Sys2Proof.Shows

variable {r : Fin 48} {s : State} {k : Key} {t : Tones}

/-! ## A change of a row -/

theorem modRow_row (r : Fin 48) (f : Row → Row) (s : State) : (s.modRow r f).posts.rows[r] = f s.posts.rows[r] :=
  upd_get_same _ _ _

theorem modRow_congr {f g : Row → Row} (h : f s.posts.rows[r] = g s.posts.rows[r]) : s.modRow r f = s.modRow r g :=
  congrArg (fun rows => s.modPosts fun p => { p with rows }) (upd_congr h)

theorem modRow_modRow (f g : Row → Row) (s : State) : (s.modRow r f).modRow r g = s.modRow r fun x => g (f x) :=
  congrArg (fun rows => s.modPosts fun p => { p with rows }) (Lot.upd_upd s.posts.rows r f g)

/-! ## The tone detector (R107) -/

theorem range_eq (n : Nat) : List.range n = (List.finRange n).map Fin.val := (List.map_coe_finRange_eq_range).symm

theorem countP_range {n : Nat} (w : BitVec n) :
    ((List.range n).countP fun k => w.getLsbD k) = ((List.finRange n).filter (w[·])).length := by
  rw [range_eq, List.countP_map, List.countP_eq_length_filter]
  rfl

theorem findingOf_clash_iff : findingOf t = .clash ↔
    1 < ((List.finRange 4).filter (t.low[·])).length ∨ 1 < ((List.finRange 3).filter (t.high[·])).length := by
  unfold findingOf
  match (List.finRange 4).filter (t.low[·]), (List.finRange 3).filter (t.high[·]) with
  | [], [] => simp
  | [], [_] => simp
  | [_], [] => simp
  | [_], [_] => simp
  | [], _ :: _ :: _ => simp
  | [_], _ :: _ :: _ => simp
  | _ :: _ :: _, _ => simp

theorem findingOf_noPair_iff : findingOf t = .noPair ↔
    ((List.finRange 4).filter (t.low[·])).length ≤ 1 ∧ ((List.finRange 3).filter (t.high[·])).length ≤ 1 ∧
      ((List.finRange 4).filter (t.low[·])).length + ((List.finRange 3).filter (t.high[·])).length ≤ 1 := by
  unfold findingOf
  match (List.finRange 4).filter (t.low[·]), (List.finRange 3).filter (t.high[·]) with
  | [], [] => simp
  | [], [_] => simp
  | [_], [] => simp
  | [_], [_] => simp
  | [], _ :: _ :: _ => simp
  | [_], _ :: _ :: _ => simp
  | _ :: _ :: _, _ => simp

/-! ## The findings taken by a row (R107) -/

theorem rowServed_iff : s.rowServed r = true ↔
    s.posts.rows[r].positions ≠ 0 ∧ s.doms.domains[screenDomain (rowScreen r)].state = .active := by
  simp [State.rowServed, State.active]

theorem takePresent_served (h : s.rowServed r = true) :
    s.takePresent r = s.modRow r fun x => x.takeFinding s.posts x.finding := if_pos h

theorem takePresent_kept (h : s.rowServed r ≠ true) : s.takePresent r = s := if_neg h

/-- A change of a row that leaves its positions leaves whether it is served. -/
theorem rowServed_modRow {f : Row → Row} (h : (f s.posts.rows[r]).positions = s.posts.rows[r].positions) :
    (s.modRow r f).rowServed r = s.rowServed r := by
  unfold State.rowServed
  rw [modRow_row, h]
  rfl

/-- The present finding taken after a change of the row. -/
theorem takePresent_modRow {f : Row → Row} (h : (f s.posts.rows[r]).positions = s.posts.rows[r].positions)
    (hs : s.rowServed r = true) : (s.modRow r f).takePresent r =
      s.modRow r fun x => (f x).takeFinding s.posts (f x).finding := by
  rw [takePresent_served ((rowServed_modRow h).trans hs), modRow_modRow]
  rfl

theorem exec_toneFindingChange_same (h : s.posts.rows[r].finding = findingOf t) :
    exec (.toneFindingChange r t) s = .next s := congrArg Host.Outcome.next (if_pos h)

theorem exec_toneFindingChange (h : s.posts.rows[r].finding ≠ findingOf t) : exec (.toneFindingChange r t) s =
    .next ((s.modRow r fun y => { y with finding := findingOf t }).whileRunning (State.takePresent r)) :=
  congrArg Host.Outcome.next (if_neg h)

theorem exec_toneFindingChange_taken (h : s.posts.rows[r].finding ≠ findingOf t) (hp : s.sys.phase = .running)
    (hs : s.rowServed r = true) : exec (.toneFindingChange r t) s =
      .next (s.modRow r fun y => Row.takeFinding s.posts (findingOf t) { y with finding := findingOf t }) := by
  have running : (s.modRow r fun y => { y with finding := findingOf t }).sys.phase = .running := hp
  rw [exec_toneFindingChange h, whileRunning_running _ _ running, takePresent_modRow rfl hs]

theorem exec_toneFindingChange_kept (h : s.posts.rows[r].finding ≠ findingOf t)
    (hs : s.sys.phase ≠ .running ∨ s.rowServed r ≠ true) : exec (.toneFindingChange r t) s =
      .next (s.modRow r fun y => { y with finding := findingOf t }) := by
  rw [exec_toneFindingChange h]
  by_cases running : (s.modRow r fun y => { y with finding := findingOf t }).sys.phase = .running
  · have unserved := hs.resolve_left (not_not.mpr running)
    rw [whileRunning_running _ _ running, takePresent_kept (by rw [rowServed_modRow rfl]; exact unserved)]
  · rw [whileRunning_other _ _ running]

/-! ## The timers of the qualifier (R108 to R111) -/

section

variable (hp : s.sys.phase = .running)

include hp

theorem exec_onTimerExpiry (h : s.posts.rows[r].onTimer ≠ none) :
    exec (.onTimerExpiry r) s = .next (s.modRow r (Row.onExpiry s.posts)) :=
  congrArg Host.Outcome.next ((whileRunning_running _ _ hp).trans (if_pos (isSome_of_ne_none h)))

theorem exec_dropoutTimerExpiry (h : s.posts.rows[r].dropoutTimer ≠ none) :
    exec (.dropoutTimerExpiry r) s = .next (s.modRow r (Row.dropoutExpiry s.posts)) :=
  congrArg Host.Outcome.next ((whileRunning_running _ _ hp).trans (if_pos (isSome_of_ne_none h)))

theorem exec_maxHoldTimerExpiry (h : s.posts.rows[r].maxHoldTimer ≠ none) :
    exec (.maxHoldTimerExpiry r) s = .next ((s.modRow r Row.toStuck).raiseBooth .rowStuck) :=
  congrArg Host.Outcome.next ((whileRunning_running _ _ hp).trans (if_pos (isSome_of_ne_none h)))

theorem exec_offTimerExpiry (h : s.posts.rows[r].offTimer ≠ none) :
    exec (.offTimerExpiry r) s = .next ((s.modRow r Row.offExpiry).deliverReleased r) :=
  congrArg Host.Outcome.next ((whileRunning_running _ _ hp).trans (if_pos (isSome_of_ne_none h)))

theorem exec_cycleTimerExpiry (h : s.posts.rows[r].cycleTimer ≠ none) : exec (.cycleTimerExpiry r) s =
    .next ((s.modRow r fun x => { x with cycleTimer := none }).deliverReleased r) :=
  congrArg Host.Outcome.next ((whileRunning_running _ _ hp).trans (if_pos (isSome_of_ne_none h)))

end

theorem deliverReleased_other (h : ∀ k, s.posts.rows[r].qualifier ≠ .released k) : s.deliverReleased r = s := by
  unfold State.deliverReleased
  dsimp only
  split
  next k released => exact absurd released (h k)
  next => rfl

theorem deliverReleased_timed (h : s.posts.rows[r].offTimer ≠ none ∨ s.posts.rows[r].cycleTimer ≠ none) :
    s.deliverReleased r = s := by
  unfold State.deliverReleased
  dsimp only
  split
  next =>
    refine if_neg ?_
    rintro ⟨off, cycle⟩
    rw [Option.isNone_iff_eq_none] at off cycle
    exact h.elim (· off) (· cycle)
  next => rfl

theorem deliverReleased_ended (h : s.posts.rows[r].qualifier = .released k) (off : s.posts.rows[r].offTimer = none)
    (cycle : s.posts.rows[r].cycleTimer = none) : s.deliverReleased r = s.deliverKey r k := by
  simp only [State.deliverReleased, h, off, cycle]
  rfl

theorem offExpiry_clash {x : Row} (h : x.qualifier = .clash ∨ x.qualifier = .stuck) :
    x.offExpiry = { x with offTimer := none, qualifier := .quiet } := by
  rcases h with h | h <;> simp only [Row.offExpiry, h]

theorem offExpiry_released {x : Row} (h : x.qualifier = .released k) : x.offExpiry = { x with offTimer := none } := by
  simp only [Row.offExpiry, h]

/-- The off-timer of a released key, before the key is delivered. -/
theorem exec_offTimerExpiry_released (hp : s.sys.phase = .running) (ht : s.posts.rows[r].offTimer ≠ none)
    (h : s.posts.rows[r].qualifier = .released k) : exec (.offTimerExpiry r) s =
      .next ((s.modRow r fun y => { y with offTimer := none }).deliverReleased r) := by
  rw [exec_offTimerExpiry hp ht, modRow_congr (g := fun y => { y with offTimer := none }) (offExpiry_released h)]

theorem exec_offTimerExpiry_clash (hp : s.sys.phase = .running) (ht : s.posts.rows[r].offTimer ≠ none)
    (h : s.posts.rows[r].qualifier = .clash ∨ s.posts.rows[r].qualifier = .stuck) : exec (.offTimerExpiry r) s =
      .next (s.modRow r fun y => { y with offTimer := none, qualifier := .quiet }) := by
  rw [exec_offTimerExpiry hp ht, modRow_congr (g := fun y => { y with offTimer := none, qualifier := .quiet })
    (offExpiry_clash h), deliverReleased_other]
  intro k released
  rw [modRow_row] at released
  cases released

/-- Settles O39: the table of the qualifier by its state, the detector, and the events of a row. -/
theorem toneQualifier : Obligations.ToneQualifier := by
  refine ⟨fun p r k x => ?table, by decide, fun t => ?detector, fun r s => ⟨fun t => ?report, fun hp => ?timers⟩⟩
  case table =>
    dsimp only
    refine ⟨fun h => ?quiet, fun h => ?pair, fun h => ?held, fun h => ?released, ?clash, fun h => ?blanked,
      fun h => ?onExpiry, fun h => ?dropout⟩
    case quiet => cases x <;> simp only [Row.takeFinding, h] <;> rfl
    case pair => cases x <;> simp only [Row.takeFinding, h] <;> rfl
    case held => cases x <;> simp only [Row.takeFinding, h] <;> rfl
    case released => cases x <;> simp only [Row.takeFinding, h] <;> rfl
    case clash => rintro (h | h) <;> cases x <;> simp only [Row.takeFinding, h]
    case blanked => cases x <;> simp only [Row.takeFinding, h]
    case onExpiry => simp only [Row.onExpiry, h]
    case dropout =>
      simp only [Row.dropoutExpiry, h]
      rfl
  case detector =>
    simp only [countP_range]
    exact ⟨findingOf_clash_iff, findingOf_noPair_iff⟩
  case report =>
    refine ⟨exec_toneFindingChange_same, fun h => ⟨fun hp positions active =>
      exec_toneFindingChange_taken h hp (rowServed_iff.mpr ⟨positions, active⟩), fun unserved => ?_⟩⟩
    refine exec_toneFindingChange_kept h (unserved.imp_right fun lost served => ?_)
    obtain ⟨positions, active⟩ := rowServed_iff.mp served
    exact lost.elim positions (· active)
  case timers =>
    refine ⟨exec_onTimerExpiry hp, exec_dropoutTimerExpiry hp, exec_maxHoldTimerExpiry hp,
      exec_offTimerExpiry_clash hp, fun k released => ⟨fun off cycle => ⟨?_, ?_⟩, fun off cycle => ?_, fun off cycle => ?_⟩,
      fun cycle other => ?_⟩
    · rw [exec_offTimerExpiry_released hp off released, deliverReleased_timed (.inr (by rw [modRow_row]; exact cycle))]
    · rw [exec_cycleTimerExpiry hp cycle, deliverReleased_timed (.inl (by rw [modRow_row]; exact off))]
    · rw [exec_offTimerExpiry_released hp off released, deliverReleased_ended (k := k)] <;> rw [modRow_row]
      · exact released
      · exact cycle
    · rw [exec_cycleTimerExpiry hp cycle, deliverReleased_ended (k := k)] <;> rw [modRow_row]
      · exact released
      · exact off
    · rw [exec_cycleTimerExpiry hp cycle, deliverReleased_other]
      intro k
      rw [modRow_row]
      exact other k

end Sys2Proof.PostRows
end

section
/-!
SUPPORT. The keyed sequences (R113 to R119) and the row commands (R121, R124), and the statements about them.
-/

namespace Sys2Proof.PostRows

open Sys2Proof Sys2Proof.Machine Sys2Proof.Orders Sys2Proof.Records Sys2Proof.Shows

section

variable {r : Fin 48} {s : State} {k : Key}

/-! ## The grammar of the sequences (R114 to R117) -/

theorem entryKey_price {prices : Vector Nat 100} {t d : Fin 10} {p c : Nat} {e : List Line}
    (h : prices[10 * t.val + d.val]? = some c) :
    entryKey prices p e [t] (.digit d) = if c = 0 then .invalid else .stand (.orderEntry p [t, d] e) := by
  obtain ⟨_, price⟩ := Vector.getElem?_eq_some_iff.mp h
  simp only [entryKey, twoDigits, price]

theorem runnerOf_number {m : Nat} {n : Fin 12} (h : m = n.val + 1) : runnerOf m = some n := by
  subst h
  simp only [runnerOf, show 1 ≤ n.val + 1 ∧ n.val + 1 ≤ 12 by omega, Nat.add_sub_cancel]
  rfl

theorem runnerOf_none {m : Nat} (h : ¬ (1 ≤ m ∧ m ≤ 12)) : runnerOf m = none := dif_neg h

theorem take_runner {positions : Nat} {prices : Vector Nat 100} {t d : Fin 10} {n : Fin 12}
    (h : 10 * t.val + d.val = n.val + 1) :
    Sequence.take positions prices (.deliveryRunner [t]) (.digit d) = .stand (.deliveryPosition n []) := by
  simp only [Sequence.take, twoDigits, runnerOf_number h]

theorem take_noRunner {positions : Nat} {prices : Vector Nat 100} {t d : Fin 10}
    (h : ¬ (1 ≤ 10 * t.val + d.val ∧ 10 * t.val + d.val ≤ 12)) :
    Sequence.take positions prices (.deliveryRunner [t]) (.digit d) = .invalid := by
  simp only [Sequence.take, twoDigits, runnerOf_none h]

/-! ## A delivered key (R113, R118) -/

/-- What a key does to the sequence of a row. -/
def keyResult (s : State) (r : Fin 48) (k : Key) : KeyResult :=
  s.posts.rows[r].sequence.take s.posts.rows[r].positions s.ords.prices k

/-- The key that a row takes once it is QUIET is the one it took before. -/
theorem keyResult_toQuiet : keyResult (s.modRow r Row.toQuiet) r k = keyResult s r k := by
  unfold keyResult
  rw [modRow_row]
  rfl

theorem deliverKey_stand {q : Sequence} (h : keyResult s r k = .stand q) : s.deliverKey r k = s.modRow r fun y =>
    { y.toQuiet with sequence := q, interKey := some s.posts.interKeyTime } := by
  have result := keyResult_toQuiet.trans h
  unfold keyResult at result
  simp only [State.deliverKey, result, modRow_modRow]
  rfl

theorem deliverKey_invalid (h : keyResult s r k = .invalid) :
    s.deliverKey r k = s.modRow r fun y => y.toQuiet.endWith .refuse (some .badParam) := by
  have result := keyResult_toQuiet.trans h
  unfold keyResult at result
  simp only [State.deliverKey, result, modRow_modRow]

theorem deliverKey_cancelled (h : keyResult s r k = .cancelled) :
    s.deliverKey r k = s.modRow r fun y => y.toQuiet.endWith .accept none := by
  have result := keyResult_toQuiet.trans h
  unfold keyResult at result
  simp only [State.deliverKey, result, modRow_modRow]

/-- A request sent after a change of its row. -/
theorem sendRequest_modRow (f : Row → Row) (q : Nat → Sequence) (body : RequestBody) :
    (s.modRow r f).sendRequest r q body = { s with posts := { s.posts with
      rows := upd s.posts.rows r fun y =>
        { (f y).blank with sequence := q s.posts.nextTag, interKey := none, tone := .none }
      requests := s.posts.requests ++ [{ row := r, tag := s.posts.nextTag, body := body }]
      nextTag := s.posts.nextTag + 1 } } := by
  have rows := Lot.upd_upd s.posts.rows r f fun x =>
    { x.blank with sequence := q s.posts.nextTag, interKey := none, tone := .none }
  exact congrArg (fun rows => ({ s with posts := { s.posts with
    rows := rows
    requests := s.posts.requests ++ [{ row := r, tag := s.posts.nextTag, body := body }]
    nextTag := s.posts.nextTag + 1 } } : State)) rows

theorem deliverKey_sendOrder {p : Nat} {e : List Line} (h : keyResult s r k = .sendOrder p e) : s.deliverKey r k =
    (s.modRow r Row.toQuiet).sendRequest r (fun tag => .orderSent p e tag)
      (if e = [] then .cancelNewest (rowScreen r) (s.rowStall r p) else .place (rowScreen r) (s.rowStall r p) e) := by
  have result := keyResult_toQuiet.trans h
  unfold keyResult at result
  simp only [State.deliverKey, result, List.isEmpty_iff]
  rfl

theorem deliverKey_sendDelivery {n : Fin 12} {p : Nat} (h : keyResult s r k = .sendDelivery n p) : s.deliverKey r k =
    (s.modRow r Row.toQuiet).sendRequest r (fun tag => .deliverySent n p tag)
      (.confirm n (rowScreen r) (s.rowStall r p)) := by
  have result := keyResult_toQuiet.trans h
  unfold keyResult at result
  simp only [State.deliverKey, result]
  rfl

/-! ## Timers and answers (R112, R117, R119) -/

section

variable (hp : s.sys.phase = .running)

include hp

theorem exec_interKeyTimeout (h : s.posts.rows[r].interKey ≠ none) :
    exec (.interKeyTimeout r) s = .next (s.modRow r (Row.endWith .refuse (some .length))) :=
  congrArg Host.Outcome.next ((whileRunning_running _ _ hp).trans (if_pos (isSome_of_ne_none h)))

theorem exec_answerToneEnd (h : s.posts.rows[r].toneTimer ≠ none) : exec (.answerToneEnd r) s =
    .next ((s.modRow r fun x => { x.toQuiet with tone := .none, toneTimer := none }).takePresent r) :=
  congrArg Host.Outcome.next ((whileRunning_running _ _ hp).trans (if_pos (isSome_of_ne_none h)))

/-- The oldest answer on its way to a row is the one taken. -/
theorem exec_requestAnswer {a : PostAnswer} {before after : List PostAnswer} (h : s.posts.answers = before ++ a :: after)
    (others : ∀ b ∈ before, b.row ≠ r) (row : a.row = r) : exec (.requestAnswer r) s =
      .next (State.takeAnswer a { s with posts := { s.posts with answers := before ++ after } }) := by
  have found : (s.posts.answers.find? fun b => decide (b.row = r)) = some a := by
    rw [h, List.find?_append, List.find?_eq_none.mpr fun b hb => by simpa using others b hb, List.find?_cons, row]
    simp
  have erased : s.posts.answers.erase a = before ++ after := by
    rw [h, List.erase_append_right _ fun listed => others a listed row, List.erase_cons_head]
  refine congrArg Host.Outcome.next ((whileRunning_running _ _ hp).trans ?_)
  rw [found]
  exact congrArg (fun answers => State.takeAnswer a { s with posts := { s.posts with answers } }) erased

end

theorem takeAnswer_ok {a : PostAnswer} (h : s.posts.rows[a.row].sequence.sentTag = some a.tag) (ok : a.status = .ok) :
    s.takeAnswer a = s.modRow a.row (Row.endWith .accept none) := by
  rw [State.takeAnswer, if_pos h, if_pos ok]

theorem takeAnswer_refused {a : PostAnswer} (h : s.posts.rows[a.row].sequence.sentTag = some a.tag)
    (refused : a.status ≠ .ok) : s.takeAnswer a = s.modRow a.row (Row.endWith .refuse (some a.status)) := by
  rw [State.takeAnswer, if_pos h, if_neg refused]

theorem takeAnswer_stale {a : PostAnswer} (h : s.posts.rows[a.row].sequence.sentTag ≠ some a.tag) :
    s.takeAnswer a = s := if_neg h

end

/-- Settles O40: the grammar clause by clause, and each event of a row. -/
theorem keySequences : Obligations.KeySequences := by
  refine ⟨fun positions prices d t u p e r k tag => ⟨rfl, rfl, rfl, rfl, rfl, rfl, rfl, rfl, fun c h => entryKey_price h,
      rfl, rfl, rfl, rfl, rfl, rfl, rfl, fun n h => take_runner h, take_noRunner, rfl, rfl, rfl, rfl, rfl, rfl, rfl, rfl⟩,
    fun r k s => ⟨fun q => deliverKey_stand, deliverKey_invalid, deliverKey_cancelled, fun p e h => ?order,
      fun n p h => ?delivery, fun hp => ⟨exec_interKeyTimeout hp, exec_answerToneEnd hp,
        fun a before after h others row => ?answer⟩⟩⟩
  case order => exact (deliverKey_sendOrder h).trans (sendRequest_modRow _ _ _)
  case delivery => exact (deliverKey_sendDelivery h).trans (sendRequest_modRow _ _ _)
  case answer =>
    subst row
    have step := exec_requestAnswer hp h others rfl
    exact ⟨fun sent ok => step.trans (congrArg Host.Outcome.next (takeAnswer_ok sent ok)),
      fun sent refused => step.trans (congrArg Host.Outcome.next (takeAnswer_refused sent refused)),
      fun stale => step.trans (congrArg Host.Outcome.next (takeAnswer_stale stale))⟩

section

variable {line : Byte} {r : Fin 48} {s : State}

/-! ## ABORT_ROW and READ_ROW (R121, R124) -/

theorem abortRow_noLine (h : numbered 48 line = none) : abortRow line s = s.refuse .badParam := by
  simp only [abortRow, h]

theorem readRow_noLine (h : numbered 48 line = none) : readRow line s = s.refuse .badParam := by
  simp only [readRow, h]

theorem abortRow_noField (hr : numbered 48 line = some r) (h : s.posts.rows[r].positions = 0) :
    abortRow line s = s.refuse .badState := by
  simp only [abortRow, hr, if_pos h]

/-- The row after ABORT_ROW. -/
def abortedRow (s : State) (r : Fin 48) : Row :=
  let quiet := s.posts.rows[r].silence
  if s.doms.domains[screenDomain (rowScreen r)].state = .active then
    quiet.takeFinding s.posts s.posts.rows[r].finding else quiet

theorem silence_takePresent (h : s.posts.rows[r].positions ≠ 0) :
    (s.modRow r Row.silence).takePresent r = s.modRow r fun _ => abortedRow s r := by
  unfold abortedRow
  by_cases active : s.doms.domains[screenDomain (rowScreen r)].state = .active
  · rw [takePresent_modRow rfl (rowServed_iff.mpr ⟨h, active⟩), if_pos active]
    exact modRow_congr rfl
  · have unserved : (s.modRow r Row.silence).rowServed r ≠ true := by
      rw [rowServed_modRow rfl]
      exact fun served => active (rowServed_iff.mp served).2
    rw [takePresent_kept unserved, if_neg active]
    exact modRow_congr rfl

theorem abortRow_aborts (hr : numbered 48 line = some r) (h : s.posts.rows[r].positions ≠ 0) : abortRow line s =
    (s.modRow r fun _ => abortedRow s r).ok [byte1 (abortedRow s r).qualifier.number] := by
  simp only [abortRow, hr, if_neg h, silence_takePresent h, modRow_row]

theorem readRow_row (hr : numbered 48 line = some r) : readRow line s = s.ok (s.rowBytes r) := by
  simp only [readRow, hr]

theorem length_rowBytes (h : s.posts.rows[r].sequence.entries.length ≤ 8) : (s.rowBytes r).length = 36 := by
  have entries := length_listBytes (capacity := 8) (width := 2) (enc := Line.bytes) (fun _ _ => rfl) h
  unfold State.rowBytes
  simp only [List.length_append, entries, bytes2, List.length_cons, List.length_nil]
  split <;> rfl

end

/-- Settles O41: both commands by the row. -/
theorem rowCommands : Obligations.RowCommands := fun _ _ =>
  ⟨fun h => ⟨fun ht => next_command_of_block ht (abortRow_noLine h), fun ht => next_command_of_block ht (readRow_noLine h)⟩,
    fun _ hr => ⟨fun ht => ⟨fun h => next_command_of_block ht (abortRow_noField hr h),
        fun h => next_command_of_block ht (abortRow_aborts hr h)⟩,
      fun ht => ⟨next_command_of_block ht (readRow_row hr), length_rowBytes⟩⟩⟩

end Sys2Proof.PostRows
end

section
/-!
SUPPORT. The placement of an order (R129, R130), from the counter and from a post, and the statement about it.
-/

namespace Sys2Proof.Placing

open Sys2Proof Sys2Proof.Machine Sys2Proof.Orders Sys2Proof.Shows

section

variable {n : Fin 6} {i : Fin 1024} {number : Nat} {origin : Origin} {lines : List Line} {s u : State} {a : Fin 1024}

/-! ## The checks of a placement (R129) -/

theorem carAt_none (h : ∀ a, s.lot.occupants[i] = some { slot := a, hold := .occupation } → s.gate.laneOf a ≠ none) :
    s.carAt i = none := by
  unfold State.carAt
  split
  next a held => exact if_neg fun unbound => h a held (Option.isNone_iff_eq_none.mp unbound)
  next => rfl

theorem carAt_some (h : s.lot.occupants[i] = some { slot := a, hold := .occupation })
    (unbound : s.gate.laneOf a = none) : s.carAt i = some a := by
  simp only [State.carAt, h, unbound]
  rfl

theorem sum_ite_eq_filter {α : Type} (p : α → Prop) [DecidablePred p] (f : α → Nat) (l : List α) :
    (l.map fun x => if p x then f x else 0).sum = ((l.filter fun x => decide (p x)).map f).sum := by
  induction l with
  | nil => rfl
  | cons x rest ih =>
    by_cases h : p x
    · simp only [List.map_cons, List.sum_cons, if_pos h, ih, List.filter_cons, decide_eq_true h, if_true]
    · simp only [List.map_cons, List.sum_cons, if_neg h, ih, List.filter_cons, decide_eq_false h, Bool.false_eq_true,
        if_false, Nat.zero_add]

theorem placeOrder_closed (h : s.ords.windows[n] = false) : s.placeOrder n i number origin lines = s.refuse .window :=
  if_pos h

theorem placeOrder_noCar (h : s.ords.windows[n] = true) (car : s.carAt i = none) :
    s.placeOrder n i number origin lines = s.refuse .noCar := by
  simp only [State.placeOrder, h, car, Bool.true_eq_false, if_false]

theorem placeOrder_damaged (h : s.ords.windows[n] = true) (car : s.carAt i = some a) (hr : s.readTab a = (none, u)) :
    s.placeOrder n i number origin lines = u.refuse .damaged := by
  simp only [State.placeOrder, h, car, hr, Bool.true_eq_false, if_false]

/-- The amount that a tab would have: what it owes, its PLACED orders and the new one. -/
def tabAmount (owed amount : Nat) (orders : List (Fin 256 × Order)) : Nat :=
  owed + ((orders.filter fun o => o.2.state = .placed).map fun o => o.2.amount).sum + amount

/-- The order table and the night as a tab read leaves them. -/
theorem readTab_kept {x : Option (Admission × List (Fin 256 × Order))} (hr : s.readTab a = (x, u)) :
    u.ords = s.ords ∧ u.night = s.night := by
  have frame := readTab_readFrame s a
  rw [hr] at frame
  exact ⟨readFrame_ords frame, readFrame_night frame⟩

section

variable {x : Admission} {orders : List (Fin 256 × Order)}

/-- The checks of a placement after the read of the tab, in order (R129 steps 4 to 6). -/
def placeChecks (s u : State) (x : Admission) (total : Nat) : List (Bool × Status) :=
  [(decide (s.ords.orderLimit ≤ x.orders.length), .tooMany), (decide (s.ords.tabLimit < total), .limit),
    (decide (u.mem.orderFree = []), .full)]

theorem placeOrder_read (h : s.ords.windows[n] = true) (car : s.carAt i = some a)
    (hr : s.readTab a = (some (x, orders), u)) : s.placeOrder n i number origin lines =
      if s.ords.orderLimit ≤ x.orders.length then u.refuse .tooMany
      else if s.ords.tabLimit < tabAmount x.owed (linesAmount s.ords.prices lines) orders then u.refuse .limit
      else match u.mem.orderFree with
        | [] => u.refuse .full
        | k :: _ => (u.placeIn k a (u.newOrder a n number origin lines)).ok
          ((u.orderHandle k).bytes ++ bytes3 (linesAmount s.ords.prices lines)) := by
  obtain ⟨ords, -⟩ := readTab_kept hr
  simp only [State.placeOrder, h, car, hr, Bool.true_eq_false, if_false, State.newOrder, ords, tabAmount,
    sum_ite_eq_filter] <;> rfl

theorem placeOrder_refused {status : Status} (h : s.ords.windows[n] = true) (car : s.carAt i = some a)
    (hr : s.readTab a = (some (x, orders), u))
    (hc : firstFailing (placeChecks s u x (tabAmount x.owed (linesAmount s.ords.prices lines) orders)) = some status) :
    s.placeOrder n i number origin lines = u.refuse status := by
  simp only [placeChecks, firstFailing_cons, firstFailing_nil, decide_eq_true_eq] at hc
  rw [placeOrder_read h car hr]
  split at hc
  next many => cases hc; exact if_pos many
  next few =>
    rw [if_neg few]
    split at hc
    next above => cases hc; exact if_pos above
    next below =>
      rw [if_neg below]
      split at hc
      next full => cases hc; rw [full]
      next => cases hc

theorem placeOrder_placed {k : Fin 256} {rest : List (Fin 256)} (h : s.ords.windows[n] = true)
    (car : s.carAt i = some a) (hr : s.readTab a = (some (x, orders), u))
    (hc : firstFailing (placeChecks s u x (tabAmount x.owed (linesAmount s.ords.prices lines) orders)) = none)
    (hk : u.mem.orderFree = k :: rest) : s.placeOrder n i number origin lines =
      (u.placeIn k a (u.newOrder a n number origin lines)).ok
        ((u.orderHandle k).bytes ++ bytes3 (linesAmount s.ords.prices lines)) := by
  simp only [placeChecks, firstFailing_cons, firstFailing_nil, decide_eq_true_eq] at hc
  rw [placeOrder_read h car hr]
  split at hc
  next => cases hc
  next few =>
    rw [if_neg few]
    split at hc
    next => cases hc
    next below => rw [if_neg below, hk]

end

/-- A placement keeps the rows. -/
theorem placeOrder_posts : (s.placeOrder n i number origin lines).state.posts = s.posts := by
  unfold State.placeOrder
  split
  next => rfl
  next =>
    split
    next => rfl
    next a _ =>
      have read := readFrame_posts (readTab_readFrame s a)
      generalize s.readTab a = r at *
      obtain ⟨x, u⟩ := r
      cases x with
      | none => exact read
      | some tab =>
        dsimp only
        split
        next => exact read
        next =>
          split
          next => exact read
          next =>
            split
            next => exact read
            next => exact read

end

/-! ## PLACE (R129) -/

section

variable {screen count : Byte} {stall : Word16} {lines : List RawLine} {s : State} {n : Fin 6} {i : Fin 1024}

/-- A line that PLACE refuses. -/
def BadLine (prices : Vector Nat 100) (x : RawLine) : Prop :=
  99 < x.item.toNat ∨ ¬ (1 ≤ x.quantity.toNat ∧ x.quantity.toNat ≤ 9) ∨ prices[x.item.toNat]? = some 0

/-- The line that a good line gives. -/
def lineOf (x : RawLine) : Line := { item := x.item.toNat, quantity := x.quantity.toNat }

theorem goodLine_bad {prices : Vector Nat 100} {x : RawLine} (h : BadLine prices x) : goodLine prices x = none := by
  unfold goodLine RawLine.line
  by_cases good : x.item.toNat ≤ 99 ∧ 1 ≤ x.quantity.toNat ∧ x.quantity.toNat ≤ 9
  · obtain ⟨item, quantity⟩ := good
    have free := (h.resolve_left (Nat.not_lt.mpr item)).resolve_left (not_not.mpr quantity)
    rw [if_pos ⟨item, quantity⟩]
    simp [free]
  · rw [if_neg good]

theorem goodLine_good {prices : Vector Nat 100} {x : RawLine} (h : ¬ BadLine prices x) :
    goodLine prices x = some (lineOf x) := by
  simp only [BadLine, not_or, not_not, Nat.not_lt] at h
  obtain ⟨item, quantity, price⟩ := h
  have inside : x.item.toNat < 100 := Nat.lt_succ_of_le item
  unfold goodLine RawLine.line
  rw [if_pos ⟨item, quantity⟩]
  dsimp only
  rw [if_neg]
  · rfl
  · rw [Vector.getElem?_eq_getElem inside] at price ⊢
    exact fun zero => price (congrArg some zero)

theorem mapM_goodLine_bad {prices : Vector Nat 100} {x : RawLine} (hx : x ∈ lines) (h : BadLine prices x) :
    lines.mapM (goodLine prices) = none := by
  induction lines with
  | nil => cases hx
  | cons y rest ih =>
    rw [List.mapM_cons]
    rcases List.mem_cons.mp hx with rfl | later
    · rw [goodLine_bad h]; rfl
    · rw [ih later]
      cases goodLine prices y <;> rfl

theorem mapM_goodLine_good {prices : Vector Nat 100} (h : ∀ x ∈ lines, ¬ BadLine prices x) :
    lines.mapM (goodLine prices) = some (lines.map lineOf) := by
  induction lines with
  | nil => rfl
  | cons y rest ih =>
    rw [List.mapM_cons, goodLine_good (h y List.mem_cons_self), ih fun x hx => h x (List.mem_cons_of_mem y hx)]
    rfl

theorem place_badName {status : Status} (h : s.lot.named screen stall = .error status) :
    place screen stall count lines s = s.refuse status := by
  simp only [place, h]

theorem place_bad (hn : s.lot.named screen stall = .ok (n, i))
    (h : ¬ (1 ≤ count.toNat ∧ count.toNat ≤ 8) ∨ ∃ x ∈ lines, BadLine s.ords.prices x) :
    place screen stall count lines s = s.refuse .badParam := by
  simp only [place, hn]
  split
  next => rfl
  next counted =>
    obtain ⟨x, hx, bad⟩ := h.resolve_left counted
    rw [mapM_goodLine_bad hx bad]

theorem place_good (hn : s.lot.named screen stall = .ok (n, i))
    (h : ¬ (¬ (1 ≤ count.toNat ∧ count.toNat ≤ 8) ∨ ∃ x ∈ lines, BadLine s.ords.prices x)) :
    place screen stall count lines s = s.placeOrder n i stall.toNat .counter (lines.map lineOf) := by
  obtain ⟨counted, good⟩ := not_or.mp h
  simp only [place, hn, if_neg counted, mapM_goodLine_good fun x hx bad => good ⟨x, hx, bad⟩]

end

/-! ## PLACE_REQUEST (R129) -/

/-- The screen, stall and lines that a PLACE request carries. -/
def placeBody : RequestBody → Option (Fin 6 × Nat × List Line)
  | .place n stall lines => some (n, stall, lines)
  | _ => none

theorem placeBody_isSome {body : RequestBody} (h : (placeBody body).isSome) :
    ∃ n stall lines, body = .place n stall lines := by
  cases body with
  | place n stall lines => exact ⟨n, stall, lines, rfl⟩
  | confirm | cancelNewest => cases h

theorem exec_placeRequest {row : Fin 48} {tag : Nat} {n : Fin 6} {stall : Nat} {lines : List Line} {s t : State}
    {before after : List PostRequest} {status : Status} (hp : s.sys.phase = .running)
    (hq : s.posts.requests = before ++ ⟨row, tag, .place n stall lines⟩ :: after)
    (hb : ∀ q ∈ before, ∀ m k l, q.body = .place m k l → q.row ≠ row)
    (hc : State.placeRequest (n, stall, lines) { s with posts := { s.posts with requests := before ++ after } } =
      (status, t)) (ht : t.posts.answers = s.posts.answers) :
    exec (.placeRequest row) s = .next { t with posts := { t.posts with
      answers := s.posts.answers ++ [⟨row, tag, status⟩] } } := by
  have older : ∀ q ∈ before, (placeBody q.body).isSome → q.row ≠ row := by
    intro q hmem hsome
    obtain ⟨m, k, l, hbody⟩ := placeBody_isSome hsome
    exact hb q hmem m k l hbody
  have taken := takeRequest_oldest (f := placeBody) State.placeRequest hq older rfl rfl
  simp only [hc, answerRequest_eq ht] at taken
  rw [← taken]
  exact congrArg Host.Outcome.next (whileRunning_running s _ hp)

theorem placeRequest_named {n : Fin 6} {stall : Nat} {lines : List Line} {f : Field} {s : State}
    (hf : s.lot.fields[n] = some f) (low : 1 ≤ stall) (high : stall ≤ f.stallCount) :
    s.placeRequest (n, stall, lines) = ((s.placeOrder n (f.index stall) stall .post lines).status,
      (s.placeOrder n (f.index stall) stall .post lines).state) := by
  have slot : s.lot.slotOf n stall = some (f.index stall) := by
    simp only [LotMap.slotOf, hf, low, high, and_self, if_true]
  simp only [State.placeRequest, slot]

/-- Settles O42: the checks in order, the command and the request. -/
theorem placement : Obligations.Placement := by
  refine ⟨fun n i stall origin lines s => ⟨placeOrder_closed, fun opened => ⟨fun h => placeOrder_noCar opened (carAt_none h),
      fun a held unbound => ⟨fun u hr => placeOrder_damaged opened (carAt_some held unbound) hr,
        fun x orders u hr => ⟨fun status hc => placeOrder_refused opened (carAt_some held unbound) hr hc,
          fun k rest hc hk => ?placed⟩⟩⟩⟩,
    fun p screen count stall lines s ht wf => ?command, fun row before after n stall tag lines f s hp hq hb hf low high => ?request⟩
  case placed =>
    obtain ⟨ords, night⟩ := readTab_kept hr
    refine (placeOrder_placed opened (carAt_some held unbound) hr hc hk).trans ?_
    simp only [State.newOrder, ords, night]
    unfold State.placeIn
    rw [show ∀ x : Order, (u.createOrder k x).modOrds (fun o => { o with kitchen := o.kitchen ++ [k] }) =
      { u.createOrder k x with ords := { (u.createOrder k x).ords with kitchen := s.ords.kitchen ++ [k] } }
      from fun x => by rw [← ords]; rfl]
    rfl
  case command =>
    have counted : count.toNat = lines.length := beq_iff_eq.mp (CommandBytes.countGood_of_wf wf)
    have fits : (count.toNat = lines.length && 4 + 2 * lines.length ≤ 44 : Bool) = true := by
      have short : 4 + 2 * lines.length ≤ 44 := of_decide_eq_true (Bool.and_eq_true_iff.mp wf).1
      rw [decide_eq_true counted, decide_eq_true short]
      rfl
    exact ⟨fun status h => next_command_whole ht fits (place_badName h), fun n i hn =>
      ⟨fun bad => next_command_whole ht fits (place_bad hn bad), fun good => next_command_whole ht fits (place_good hn good)⟩⟩
  case request =>
    exact exec_placeRequest hp hq hb (placeRequest_named hf low high) (by rw [placeOrder_posts])

end Sys2Proof.Placing
end

section
/-!
SUPPORT. What the changes of a show and of its sound leave as it was (R67 to R82, R88, R89, R98, R99): the lists, the
screens that are DARK or have nothing to start or resume, and everything beside the shows, the sounds and the displays.
-/

namespace Sys2Proof.Staging

open Sys2Proof Sys2Proof.Machine Sys2Proof.NightUnit Sys2Proof.Shows Sys2Proof.Channels

variable {n m : Fin 6} {s t u : State}

/-! ## The relations -/

/-- `t` differs from `s` at most in the booth's attention, the screens, the channels and sounds, the displays, the rows,
the order windows and the domains. -/
def StageFrame (s t : State) : Prop :=
  t = { s with
    booth := t.booth, disp := t.disp
    shows := { s.shows with screens := t.shows.screens }
    chans := { s.chans with channels := t.chans.channels, sounds := t.chans.sounds }
    posts := { s.posts with rows := t.posts.rows }
    ords := { s.ords with windows := t.ords.windows }
    doms := { s.doms with domains := t.doms.domains } }

/-- A show that is loaded and has not ended. -/
def stands (st : ShowState) : Prop := st ≠ .dark ∧ st ≠ .ended

/-- From `s` to `t` every show keeps its list and no show that stands goes DARK or ENDED; the permitted flags and the
lengths of the rows are as they were. -/
structure Stage (s t : State) : Prop where
  frame : StageFrame s t
  list : ∀ m : Fin 6, t.shows.screens[m].list = s.shows.screens[m].list
  stands : ∀ m : Fin 6, stands s.shows.screens[m].state → stands t.shows.screens[m].state
  permitted : ∀ c : Fin 12, t.chans.channels[c].permitted = s.chans.channels[c].permitted
  positions : ∀ r : Fin 48, t.posts.rows[r].positions = s.posts.rows[r].positions

/-- A stage change of screen `n` alone, which begins and ends no wanting. -/
structure Only (n : Fin 6) (s t : State) : Prop extends Stage s t where
  other : ∀ m : Fin 6, m ≠ n → t.shows.screens[m] = s.shows.screens[m]
  wanting : ∀ m : Fin 6, t.chans.sounds[m].wanting = s.chans.sounds[m].wanting

/-- A show with nothing to start and nothing to resume. -/
def Quiet (c : Screen) : Prop := c.start = none ∧ c.reasons.sound = false

/-- A stage change for the sake of screen `n`, in which others may take a channel: a DARK screen stays as it was, and so
does a quiet one other than `n`. -/
structure Staged (n : Fin 6) (s t : State) : Prop extends Stage s t where
  dark : ∀ m : Fin 6, s.shows.screens[m].state = .dark → t.shows.screens[m] = s.shows.screens[m]
  quiet : ∀ m : Fin 6, m ≠ n → Quiet s.shows.screens[m] → t.shows.screens[m] = s.shows.screens[m]
  wanting : ∀ m : Fin 6, m ≠ n → t.chans.sounds[m].wanting = s.chans.sounds[m].wanting

theorem stageFrame_trans (h : StageFrame s t) (k : StageFrame t u) : StageFrame s u := by
  unfold StageFrame at *
  rw [k, h]

theorem stage_refl (s : State) : Stage s s := ⟨rfl, fun _ => rfl, fun _ h => h, fun _ => rfl, fun _ => rfl⟩

theorem stage_trans (h : Stage s t) (k : Stage t u) : Stage s u :=
  ⟨stageFrame_trans h.frame k.frame, fun m => (k.list m).trans (h.list m), fun m st => k.stands m (h.stands m st),
    fun c => (k.permitted c).trans (h.permitted c), fun r => (k.positions r).trans (h.positions r)⟩

theorem only_refl (n : Fin 6) (s : State) : Only n s s := ⟨stage_refl s, fun _ _ => rfl, fun _ => rfl⟩

theorem only_trans (h : Only n s t) (k : Only n t u) : Only n s u :=
  ⟨stage_trans h.toStage k.toStage, fun m hm => (k.other m hm).trans (h.other m hm),
    fun m => (k.wanting m).trans (h.wanting m)⟩

theorem staged_refl (n : Fin 6) (s : State) : Staged n s s := ⟨stage_refl s, fun _ _ => rfl, fun _ _ _ => rfl, fun _ _ => rfl⟩

theorem staged_trans (h : Staged n s t) (k : Staged n t u) : Staged n s u where
  toStage := stage_trans h.toStage k.toStage
  dark m hm := (k.dark m (by rw [h.dark m hm]; exact hm)).trans (h.dark m hm)
  quiet m hn hm := (k.quiet m hn (by rw [h.quiet m hn hm]; exact hm)).trans (h.quiet m hn hm)
  wanting m hm := (k.wanting m hm).trans (h.wanting m hm)

/-- A change of screen `n` alone, when it is DARK only if the screen stays as it was. -/
theorem staged_of_only (h : Only n s t)
    (dark : s.shows.screens[n].state = .dark → t.shows.screens[n] = s.shows.screens[n]) : Staged n s t where
  toStage := h.toStage
  dark m hm := by
    by_cases same : m = n
    · subst same; exact dark hm
    · exact h.other m same
  quiet m hn _ := h.other m hn
  wanting m _ := h.wanting m

/-- A change that leaves the screens. -/
theorem stage_of_shows (frame : StageFrame s t) (shows : t.shows.screens = s.shows.screens)
    (permitted : ∀ c : Fin 12, t.chans.channels[c].permitted = s.chans.channels[c].permitted)
    (positions : ∀ r : Fin 48, t.posts.rows[r].positions = s.posts.rows[r].positions) : Stage s t where
  frame := frame
  list _ := by rw [shows]
  stands _ h := by rwa [shows]
  permitted := permitted
  positions := positions

theorem only_of_shows (n : Fin 6) (frame : StageFrame s t) (shows : t.shows.screens = s.shows.screens)
    (wanting : ∀ m : Fin 6, t.chans.sounds[m].wanting = s.chans.sounds[m].wanting)
    (permitted : ∀ c : Fin 12, t.chans.channels[c].permitted = s.chans.channels[c].permitted)
    (positions : ∀ r : Fin 48, t.posts.rows[r].positions = s.posts.rows[r].positions) : Only n s t where
  toStage := stage_of_shows frame shows permitted positions
  other _ _ := by rw [shows]
  wanting := wanting

/-! ## Attention, windows and displays -/

theorem only_raiseBooth (n : Fin 6) (k : BoothKind) (s : State) : Only n s (s.raiseBooth k) :=
  only_of_shows n rfl rfl (fun _ => rfl) (fun _ => rfl) fun _ => rfl

theorem only_windowFrame (n : Fin 6) (h : WindowFrame s t) : Only n s t := by
  have shows := windowFrame_shows h
  have chans : t.chans = s.chans := by rw [h]
  have posts : t.posts = s.posts := by rw [h]
  refine only_of_shows n ?_ (by rw [shows]) (fun _ => by rw [chans]) (fun _ => by rw [chans]) fun _ => by rw [posts]
  unfold WindowFrame at h
  unfold StageFrame
  rw [h]

/-- What every change of a list's entries keeps of a screen alone. -/
theorem only_each {α : Type} {f : α → State → State} (n : Fin 6) (h : ∀ (a : α) (s : State), Only n s (f a s))
    (l : List α) (s : State) : Only n s (s.each l f) :=
  each_keeps (Only n s) (only_refl n s) (fun a t ht => only_trans ht (h a t)) l

theorem only_modDisp (n : Fin 6) (f : Display → Display) (s : State) : Only n s (s.modDisp f) :=
  only_of_shows n rfl rfl (fun _ => rfl) (fun _ => rfl) fun _ => rfl

theorem only_showSound (n m : Fin 6) (s : State) : Only n s (s.showSound m) :=
  only_each n (fun _ _ => by exact only_modDisp n _ _) _ s

/-! ## Shows (R67, R71 to R77, R82) -/

theorem only_modScreen {f : Screen → Screen} (n : Fin 6) (s : State)
    (list : (f s.shows.screens[n]).list = s.shows.screens[n].list)
    (state : stands s.shows.screens[n].state → stands (f s.shows.screens[n]).state) : Only n s (s.modScreen n f) where
  frame := rfl
  list m := by
    by_cases same : n = m
    · subst same; rw [modScreen_screen, list]
    · rw [modScreen_other f s same]
  stands m h := by
    by_cases same : n = m
    · subst same; rw [modScreen_screen]; exact state h
    · rwa [modScreen_other f s same]
  permitted _ := rfl
  positions _ := rfl
  other m hm := modScreen_other f s hm.symm
  wanting _ := rfl

theorem only_setShow {st : ShowState} (n : Fin 6) (s : State) (h : stands st) : Only n s (s.setShow n st) := by
  rw [setShow_eq]
  split
  · exact only_refl n s
  · exact only_trans (only_trans (only_modScreen n s rfl fun _ => h) (only_raiseBooth n _ _))
      (only_windowFrame n (recomputeWindow_windowFrame n _))

theorem stands_starting : stands .starting := ⟨by decide, by decide⟩
theorem stands_preshow : stands .preshow := ⟨by decide, by decide⟩
theorem stands_held : stands .held := ⟨by decide, by decide⟩

theorem stands_runningState (c : Screen) : stands c.runningState := by
  rw [runningState_eq]
  split
  · exact ⟨by decide, by decide⟩
  · exact ⟨by decide, by decide⟩

theorem only_addHold (n : Fin 6) (r : HoldReason) (s : State) : Only n s (s.addHold n r) := by
  unfold State.addHold
  split
  · exact only_trans (only_modScreen n s rfl id) (only_setShow n _ stands_held)
  · exact only_refl n s

theorem only_removeHold (n : Fin 6) (r : HoldReason) (s : State) : Only n s (s.removeHold n r) := by
  have emptied := only_modScreen (f := fun c => { c with reasons := c.reasons.set r false }) n s rfl id
  unfold State.removeHold
  dsimp only
  split
  · split
    · exact only_trans emptied (only_setShow n _ (stands_runningState _))
    · exact emptied
  · exact only_refl n s

theorem only_enterSegment (n : Fin 6) (k : Nat) (s : State) : Only n s (s.enterSegment n k) := by
  unfold State.enterSegment
  dsimp only
  split
  · exact only_trans (only_modScreen n s rfl id) (only_setShow n _ (stands_runningState _))
  · exact only_modScreen n s rfl id

theorem only_beginShow (n : Fin 6) (s : State) : Only n s (s.beginShow n) := by
  have entered := only_trans
    (only_modScreen (f := fun c => { c with startTimer := none, start := some s.night.clock }) n s rfl id)
    (only_enterSegment n 1 _)
  unfold State.beginShow
  dsimp only
  split
  · exact only_trans entered (only_addHold n _ _)
  · exact entered

theorem only_examineStart (n : Fin 6) (s : State) : Only n s (s.examineStart n) := by
  have started := only_trans
    (only_modScreen (f := fun c => { c with current := some 1, startTimer := seconds s.shows.startTimeout }) n s rfl id)
    (only_setShow n _ stands_starting)
  unfold State.examineStart
  dsimp only
  split
  · split
    · exact only_trans started (only_beginShow n _)
    · exact started
  · exact only_refl n s

theorem only_abandonStart (n : Fin 6) (s : State) : Only n s (s.abandonStart n) := by
  unfold State.abandonStart
  split
  · exact only_trans (only_trans (only_modScreen n s rfl id) (only_setShow n _ stands_preshow)) (only_examineStart n _)
  · exact only_refl n s

theorem only_domainLost (n : Fin 6) (s : State) : Only n s (s.domainLost n) :=
  only_trans (only_abandonStart n s) (only_addHold n _ _)

theorem only_soundTaken (n : Fin 6) (s : State) : Only n s (s.soundTaken n) := by
  unfold State.soundTaken
  split
  · split
    · exact only_examineStart n s
    · exact only_removeHold n _ s
    · exact only_refl n s
  · exact only_examineStart n s
  · exact only_domainLost n s
  · exact only_domainLost n s

/-! A DARK screen has no start to examine or abandon, and no show to hold. -/

theorem examineStart_idle (h : s.shows.screens[n].state ≠ .preshow) : s.examineStart n = s :=
  examineStart_stays fun starts => h starts.1

theorem domainLost_dark (h : s.shows.screens[n].state = .dark) : s.domainLost n = s := by
  rw [State.domainLost, abandonStart_idle (by rw [h]; decide), addHold_idle (by rw [h]; decide)]

theorem soundTaken_dark (h : s.shows.screens[n].state = .dark) : s.soundTaken n = s := by
  have started : s.examineStart n = s := examineStart_idle (by rw [h]; decide)
  have lost : (s.abandonStart n).addHold n .sound = s := domainLost_dark h
  unfold State.soundTaken
  rw [started, lost, h]
  split <;> rfl

theorem staged_examineStart (n : Fin 6) (s : State) : Staged n s (s.examineStart n) :=
  staged_of_only (only_examineStart n s) fun h => by rw [examineStart_idle (by rw [h]; decide)]

/-! ## Sounds and channels (R88, R89, R98, R99) -/

theorem modSound_sound (n : Fin 6) (f : SoundRecord → SoundRecord) (s : State) :
    (s.modSound n f).chans.sounds[n] = f s.chans.sounds[n] := upd_get_same _ _ _

theorem modSound_other (f : SoundRecord → SoundRecord) (s : State) (h : n ≠ m) :
    (s.modSound n f).chans.sounds[m] = s.chans.sounds[m] := upd_get_other _ _ _ _ h

theorem only_modSound {f : SoundRecord → SoundRecord} (n : Fin 6) (s : State) (h : ∀ r, (f r).wanting = r.wanting) :
    Only n s (s.modSound n f) := by
  refine only_of_shows n rfl rfl (fun m => ?_) (fun _ => rfl) fun _ => rfl
  by_cases same : n = m
  · subst same; rw [modSound_sound, h]
  · rw [modSound_other f s same]

theorem enter_wanting (x : Sound) (time : Nat) (r : SoundRecord) : (r.enter x time).wanting = r.wanting := by
  unfold SoundRecord.enter SoundRecord.qualify
  dsimp only
  split
  · split
    · split <;> rfl
    · split <;> rfl
  · rfl

theorem only_setSound (n : Fin 6) (x : Sound) (s : State) : Only n s (s.setSound n x) :=
  only_trans (only_trans (only_modSound n s (enter_wanting x _)) (only_soundTaken n _)) (only_showSound n n _)

theorem showSound_shows (n : Fin 6) (s : State) : (s.showSound n).shows = s.shows :=
  each_keeps (fun t => t.shows = s.shows) rfl (fun _ _ ht => by exact ht) _

theorem setSound_dark {x : Sound} (h : s.shows.screens[n].state = .dark) :
    (s.setSound n x).shows.screens[n] = s.shows.screens[n] := by
  have taken : (s.modSound n (SoundRecord.enter x s.chans.faultTime)).soundTaken n =
      s.modSound n (SoundRecord.enter x s.chans.faultTime) := soundTaken_dark h
  unfold State.setSound
  rw [showSound_shows, taken]
  rfl

theorem staged_setSound (n : Fin 6) (x : Sound) (s : State) : Staged n s (s.setSound n x) :=
  staged_of_only (only_setSound n x s) setSound_dark

theorem only_setChannel (n : Fin 6) (c : Fin 12) (x : ChannelState) (s : State) : Only n s (s.setChannel c x) := by
  refine only_of_shows n rfl rfl (fun _ => rfl) (fun d => ?_) fun _ => rfl
  show (upd s.chans.channels c fun r => { r with state := x })[d].permitted = _
  rw [upd_get]
  split
  next same => subst same; rfl
  next => rfl

/-- A quiet show takes no notice of a channel that it is given. -/
theorem soundTaken_quiet {c : Fin 12} (h : s.chans.sounds[n].sound = .live c) (quiet : Quiet s.shows.screens[n]) :
    s.soundTaken n = s := by
  obtain ⟨start, reason⟩ := quiet
  have started : s.examineStart n = s := examineStart_stays fun starts => by
    obtain ⟨-, ⟨k, given, -⟩, -⟩ := starts
    rw [start] at given
    cases given
  have resumed : s.removeHold n .sound = s := removeHold_absent reason
  by_cases preshow : s.shows.screens[n].state = .preshow
  · rw [soundTaken_preshow h preshow, started]
  · by_cases held : s.shows.screens[n].state = .held
    · rw [soundTaken_held h held, resumed]
    · exact soundTaken_other h preshow held

theorem takeChannel_quiet {c : Fin 12} (quiet : Quiet s.shows.screens[n]) :
    (s.takeChannel n c).shows.screens[n] = s.shows.screens[n] := by
  let u := (s.setChannel c (.held n .live)).modSound n (SoundRecord.enter (.live c) s.chans.faultTime)
  have live : u.chans.sounds[n].sound = .live c := by
    have sound : u.chans.sounds[n] = SoundRecord.enter (.live c) s.chans.faultTime s.chans.sounds[n] :=
      modSound_sound n _ _
    rw [sound]
    unfold SoundRecord.enter SoundRecord.qualify
    dsimp only
    split
    · split
      · split <;> rfl
      · split <;> rfl
    · rfl
  have taken : u.soundTaken n = u := soundTaken_quiet live quiet
  show ((u.soundTaken n).showSound n).shows.screens[n] = _
  rw [showSound_shows, taken]
  rfl

/-- A channel given to screen `m`, for the sake of any screen. -/
theorem staged_takeChannel (n m : Fin 6) (c : Fin 12) (s : State) : Staged n s (s.takeChannel m c) := by
  have taken : Only m s (s.takeChannel m c) := only_trans (only_setChannel m c _ s) (only_setSound m _ _)
  have others (k : Fin 6) (h : k = m → (s.takeChannel m c).shows.screens[m] = s.shows.screens[m]) :
      (s.takeChannel m c).shows.screens[k] = s.shows.screens[k] := by
    by_cases same : k = m
    · subst same; exact h rfl
    · exact taken.other k same
  refine ⟨taken.toStage, fun k dark => others k ?_, fun k _ quiet => others k ?_, fun k _ => taken.wanting k⟩
  · rintro rfl
    exact setSound_dark (s := s.setChannel c (.held k .live)) dark
  · rintro rfl
    exact takeChannel_quiet quiet

theorem staged_offer (n : Fin 6) (c : Fin 12) (s : State) : Staged n s (s.offer c) := by
  unfold State.offer
  split
  · split
    · exact staged_takeChannel n _ c s
    · exact staged_refl n s
  · exact staged_refl n s

theorem staged_raiseBooth (n : Fin 6) (k : BoothKind) (s : State) : Staged n s (s.raiseBooth k) :=
  staged_of_only (only_raiseBooth n k s) fun _ => rfl

theorem staged_setChannel (n : Fin 6) (c : Fin 12) (x : ChannelState) (s : State) : Staged n s (s.setChannel c x) :=
  staged_of_only (only_setChannel n c x s) fun _ => rfl

theorem staged_acquire (n : Fin 6) (s : State) : Staged n s (s.acquire n) := by
  unfold State.acquire
  split
  · exact staged_takeChannel n n _ s
  · exact staged_trans (staged_setSound n _ s) (staged_raiseBooth n _ _)

/-- A wanting of screen `n` begun or ended. -/
theorem staged_wanting (n : Fin 6) (b : Bool) (s : State) : Staged n s (s.modSound n fun r => { r with wanting := b }) :=
  ⟨stage_of_shows rfl rfl (fun _ => rfl) fun _ => rfl, fun _ _ => rfl, fun _ _ _ => rfl, fun m hm => by
    rw [modSound_other _ s hm.symm]⟩

theorem staged_giveUp (n : Fin 6) (s : State) : Staged n s (s.giveUp n) := by
  unfold State.giveUp
  split
  next c _ =>
    have freed : Staged n s ((s.setChannel c .free).setSound n .off) :=
      staged_trans (staged_setChannel n c .free s) (staged_setSound n .off _)
    exact staged_trans freed (staged_offer n c _)
  next c next _ _ =>
    have freed : Staged n s ((((s.setChannel c .free).setChannel next .free).modSound n fun r =>
        { r with announceTimer := none }).setSound n .off) :=
      staged_trans (staged_trans (staged_trans (staged_setChannel n c .free s) (staged_setChannel n next .free _))
        (staged_of_only (only_modSound (f := fun r => { r with announceTimer := none }) n _ fun _ => rfl) fun _ => rfl))
        (staged_setSound n .off _)
    dsimp only
    split
    · exact staged_trans freed (staged_trans (staged_offer n c _) (staged_offer n next _))
    · exact staged_trans freed (staged_trans (staged_offer n next _) (staged_offer n c _))
  next => exact staged_setSound n _ s
  next => exact staged_refl n s

theorem staged_updateWanting (n : Fin 6) (s : State) : Staged n s (s.updateWanting n) := by
  unfold State.updateWanting
  split
  · exact staged_refl n s
  · split
    · exact staged_trans (staged_wanting n true s) (staged_acquire n _)
    · exact staged_trans (staged_wanting n false s) (staged_giveUp n _)

end Sys2Proof.Staging
end

section
/-!
SUPPORT. The retirement and the creation of records (R6, R7), the end of a show that nothing holds any more (R80) and the
closing condition (R162), and the statement about them.
-/

namespace Sys2Proof.Retiring

open Sys2Proof Sys2Proof.Machine Sys2Proof.Orders Sys2Proof.NightUnit Sys2Proof.Shows Sys2Proof.Staging

variable {s t u : State} {n m : Fin 6}

/-! ## Slots (R6, R7) -/

section

variable {a b : Fin 1024} {x : Admission}

theorem unmarkAdm_slot (a : Fin 1024) (s : State) : (s.unmarkAdm a).mem.admissions[a] = s.mem.admissions[a].unmark := by
  unfold State.unmarkAdm
  split
  next => exact upd_get_same _ _ _
  next clear =>
    have unmarked : s.mem.admissions[a].marked = false := eq_false_of_ne_true clear
    rw [Slot.unmark, ← unmarked]

theorem unmarkAdm_kept (a : Fin 1024) (s : State) : (s.unmarkAdm a).mem.admGen = s.mem.admGen ∧
    (s.unmarkAdm a).mem.admFree = s.mem.admFree ∧
    ∀ b : Fin 1024, b ≠ a → (s.unmarkAdm a).mem.admissions[b] = s.mem.admissions[b] := by
  unfold State.unmarkAdm
  split
  next => exact ⟨rfl, rfl, fun b hb => upd_get_other _ _ _ _ hb.symm⟩
  next => exact ⟨rfl, rfl, fun _ _ => rfl⟩

theorem retireAdmSlot_slot (a : Fin 1024) (s : State) : (s.retireAdmSlot a).mem.admissions[a] =
    (Slot.write Admission.freePattern s.mem.admissions[a]).unmark := by
  have written : (s.modAdmSlot a (Slot.write Admission.freePattern)).mem.admissions[a] = _ := upd_get_same _ _ _
  exact (unmarkAdm_slot a _).trans (congrArg Slot.unmark written)

theorem retireAdmSlot_gen (a : Fin 1024) (s : State) :
    (s.retireAdmSlot a).mem.admGen = upd s.mem.admGen a (· + 1) :=
  congrArg (upd · a (· + 1)) (unmarkAdm_kept a _).1

theorem retireAdmSlot_free (a : Fin 1024) (s : State) : (s.retireAdmSlot a).mem.admFree = s.mem.admFree ++ [a] :=
  congrArg (· ++ [a]) (unmarkAdm_kept a _).2.1

theorem retireAdmSlot_other (h : b ≠ a) (s : State) :
    (s.retireAdmSlot a).mem.admissions[b] = s.mem.admissions[b] :=
  ((unmarkAdm_kept a _).2.2 b h).trans (upd_get_other _ _ _ _ h.symm)

theorem retireAdmSlot_eq (a : Fin 1024) (s : State) : s.retireAdmSlot a = { s with mem := (s.retireAdmSlot a).mem } := by
  unfold State.retireAdmSlot State.unmarkAdm
  split <;> rfl

theorem not_admLive_of_mem (h : a ∈ s.mem.admFree) : s.admLive a = false := by
  simp [State.admLive, h]

theorem not_admCurrent_of_mem {k : AdmHandle} (h : k.slot ∈ s.mem.admFree) : s.admCurrent k = false := by
  rw [State.admCurrent, not_admLive_of_mem h, Bool.false_and]

end

section

variable {o p : Fin 256} {x : Order}

theorem unmarkOrder_slot (o : Fin 256) (s : State) : (s.unmarkOrder o).mem.orders[o] = s.mem.orders[o].unmark := by
  unfold State.unmarkOrder
  split
  next => exact upd_get_same _ _ _
  next clear =>
    have unmarked : s.mem.orders[o].marked = false := eq_false_of_ne_true clear
    rw [Slot.unmark, ← unmarked]

theorem unmarkOrder_kept (o : Fin 256) (s : State) : (s.unmarkOrder o).mem.orderGen = s.mem.orderGen ∧
    (s.unmarkOrder o).mem.orderFree = s.mem.orderFree ∧
    ∀ p : Fin 256, p ≠ o → (s.unmarkOrder o).mem.orders[p] = s.mem.orders[p] := by
  unfold State.unmarkOrder
  split
  next => exact ⟨rfl, rfl, fun p hp => upd_get_other _ _ _ _ hp.symm⟩
  next => exact ⟨rfl, rfl, fun _ _ => rfl⟩

theorem retireOrderSlot_slot (o : Fin 256) (s : State) : (s.retireOrderSlot o).mem.orders[o] =
    (Slot.write Order.freePattern s.mem.orders[o]).unmark := by
  have written : (s.modOrderSlot o (Slot.write Order.freePattern)).mem.orders[o] = _ := upd_get_same _ _ _
  exact (unmarkOrder_slot o _).trans (congrArg Slot.unmark written)

theorem retireOrderSlot_gen (o : Fin 256) (s : State) :
    (s.retireOrderSlot o).mem.orderGen = upd s.mem.orderGen o (· + 1) :=
  congrArg (upd · o (· + 1)) (unmarkOrder_kept o _).1

theorem retireOrderSlot_free (o : Fin 256) (s : State) :
    (s.retireOrderSlot o).mem.orderFree = s.mem.orderFree ++ [o] :=
  congrArg (· ++ [o]) (unmarkOrder_kept o _).2.1

theorem retireOrderSlot_other (h : p ≠ o) (s : State) :
    (s.retireOrderSlot o).mem.orders[p] = s.mem.orders[p] :=
  ((unmarkOrder_kept o _).2.2 p h).trans (upd_get_other _ _ _ _ h.symm)

theorem retireOrderSlot_eq (o : Fin 256) (s : State) :
    s.retireOrderSlot o = { s with mem := (s.retireOrderSlot o).mem } := by
  unfold State.retireOrderSlot State.unmarkOrder
  split <;> rfl

/-- The retirement of a slot goes by the record memory alone. -/
theorem retireOrderSlot_of_mem (h : t.mem = s.mem) (o : Fin 256) :
    t.retireOrderSlot o = { t with mem := (s.retireOrderSlot o).mem } := by
  have same : (t.retireOrderSlot o).mem = (s.retireOrderSlot o).mem := by
    unfold State.retireOrderSlot State.unmarkOrder State.orderMarked State.modOrderSlot State.modMem
    dsimp only
    rw [h]
    split <;> rfl
  rw [retireOrderSlot_eq, same]

theorem not_orderLive_of_mem (h : o ∈ s.mem.orderFree) : s.orderLive o = false := by
  simp [State.orderLive, h]

theorem not_orderCurrent_of_mem {k : OrderHandle} (h : k.slot ∈ s.mem.orderFree) : s.orderCurrent k = false := by
  rw [State.orderCurrent, not_orderLive_of_mem h, Bool.false_and]

end

/-! ## Retirement of an order and of an admission (R7, R46, R126) -/

theorem retireOrder_eq (o : Fin 256) (s : State) :
    s.retireOrder o = { s.retireOrderSlot o with ords := { s.ords with
      kitchen := s.ords.kitchen.filter fun k => k ≠ o
      runners := s.ords.runners.map fun (r : Runner) =>
        if o ∈ r.carried then
          { r with
            carried := r.carried.filter fun k => k ≠ o
            tripTimer := if (r.carried.filter fun k => k ≠ o) = [] then none else r.tripTimer }
        else r } }.examineClose := by
  have left : (s.leaveKitchen o).leaveRunner o = { s with ords := { s.ords with
      kitchen := s.ords.kitchen.filter fun k => k ≠ o
      runners := s.ords.runners.map fun (r : Runner) =>
        if o ∈ r.carried then
          { r with
            carried := r.carried.filter fun k => k ≠ o
            tripTimer := if (r.carried.filter fun k => k ≠ o) = [] then none else r.tripTimer }
        else r } } := by
    rw [leaveRunner_eq]
    simp only [State.leaveKitchen, State.modOrds, bne, beq_eq_decide, ne_eq, decide_not]
  rw [State.retireOrder, left]
  refine congrArg State.examineClose ((retireOrderSlot_of_mem (s := s) (by rfl) o).trans ?_)
  rw [retireOrderSlot_eq o s]

theorem retireAdm_none (a : Fin 1024) (s : State) : s.retireAdm a none = (s.retireAdmSlot a).examineClose := rfl

theorem retireAdm_screen (a : Fin 1024) (n : Fin 6) (s : State) : s.retireAdm a (some n) =
    let u := s.retireAdmSlot a
    let v := { u with gate := { u.gate with live := upd u.gate.live n fun k => k - 1 } }
    if u.shows.screens[n].state = .ended ∧ v.gate.live[n] = 0 then (v.goDark n).examineClose else v.examineClose :=
  apply_ite State.examineClose _ _ _

/-! ## The closing condition (R162) -/

/-- Nothing is live and every screen is DARK. -/
def Gone (s : State) : Prop :=
  s.mem.admFree.length = 1024 ∧ s.mem.orderFree.length = 256 ∧ ∀ n : Fin 6, s.shows.screens[n].state = .dark

theorem examineClose_kept (h : ¬ (s.night.state = .closing ∧ Gone s)) : s.examineClose = s :=
  if_neg fun closes => h ⟨closes.1, closable_iff.mp closes.2⟩

theorem examineClose_gone (hs : s.night.state = .closing) (h : Gone s) : s.examineClose = s.closeNight :=
  examineClose_closes hs (closable_iff.mpr h)

theorem nightFrame_shows (h : NightFrame s t) : t.shows = s.shows := by rw [h]
theorem nightFrame_chans (h : NightFrame s t) : t.chans = s.chans := by rw [h]

theorem examineClose_shows (s : State) : s.examineClose.shows = s.shows := by
  unfold State.examineClose
  split
  next => exact nightFrame_shows (closeNight_nightFrame s)
  next => rfl

theorem examineClose_chans (s : State) : s.examineClose.chans = s.chans := by
  unfold State.examineClose
  split
  next => exact nightFrame_chans (closeNight_nightFrame s)
  next => rfl

/-! ## A screen goes DARK (R80, R81) -/

theorem takeChannel_wanting (k m : Fin 6) (c : Fin 12) (s : State) :
    (s.takeChannel m c).chans.sounds[k].wanting = s.chans.sounds[k].wanting :=
  (only_trans (only_setChannel m c (.held m .live) s) (only_setSound m (.live c) _)).wanting k

theorem offer_wanting (k : Fin 6) (c : Fin 12) (s : State) :
    (s.offer c).chans.sounds[k].wanting = s.chans.sounds[k].wanting := by
  unfold State.offer
  split
  · split
    · exact takeChannel_wanting k _ c s
    · rfl
  · rfl

theorem giveUp_wanting (n : Fin 6) (s : State) :
    (s.giveUp n).chans.sounds[n].wanting = s.chans.sounds[n].wanting := by
  unfold State.giveUp
  split
  next c _ =>
    rw [offer_wanting]
    exact (only_trans (only_setChannel n c .free s) (only_setSound n .off _)).wanting n
  next c next _ _ =>
    have freed := (only_trans (only_trans (only_trans (only_setChannel n c .free s) (only_setChannel n next .free _))
      (only_modSound (f := fun r => { r with announceTimer := none }) n _ fun _ => rfl)) (only_setSound n .off _)).wanting n
    dsimp only
    split
    · rw [offer_wanting, offer_wanting]
      exact freed
    · rw [offer_wanting, offer_wanting]
      exact freed
  next => exact (only_setSound n .off s).wanting n
  next => rfl

theorem updateWanting_dark (h : s.shows.screens[n].state = .dark) :
    (s.updateWanting n).chans.sounds[n].wanting = false := by
  have wants : s.wants n = false := by rw [State.wants, h]; rfl
  unfold State.updateWanting
  rw [wants]
  split
  next same => exact same.symm
  next =>
    rw [if_neg (by decide), giveUp_wanting, modSound_sound]

/-- A screen DARK, before its wanting is brought up to date. -/
def darkened (n : Fin 6) (s : State) : State :=
  (s.modScreen n fun c => { c with current := none, start := none }).setShow n .dark

theorem darkened_screen (n : Fin 6) (s : State) : (darkened n s).shows.screens[n] =
    shownAs .dark { s.shows.screens[n] with current := none, start := none } := by
  rw [darkened, setShow_screen, modScreen_screen]

theorem darkened_other (h : m ≠ n) : (darkened n s).shows.screens[m] = s.shows.screens[m] := by
  rw [darkened, setShow_other _ _ h.symm, modScreen_other _ _ h.symm]

theorem setShow_kept (n : Fin 6) (st : ShowState) (s : State) :
    (s.setShow n st).night = s.night ∧ (s.setShow n st).store = s.store ∧ (s.setShow n st).mem = s.mem := by
  rw [setShow_eq]
  split
  · exact ⟨rfl, rfl, rfl⟩
  · have frame := recomputeWindow_windowFrame n ((s.modScreen n (Screen.enter st)).raiseBooth .showState)
    exact ⟨(windowFrame_night frame : _), (windowFrame_store frame : _), (windowFrame_mem frame : _)⟩

theorem darkened_kept (n : Fin 6) (s : State) :
    (darkened n s).night = s.night ∧ (darkened n s).store = s.store ∧ (darkened n s).mem = s.mem := by
  exact setShow_kept n .dark (s.modScreen n fun c => { c with current := none, start := none })

theorem goDark_eq (n : Fin 6) (s : State) : s.goDark n = ((darkened n s).updateWanting n).examineClose := rfl

/-- A DARK screen with its wanting ended. -/
theorem wanted_screen (n : Fin 6) (s : State) :
    ((darkened n s).updateWanting n).shows.screens[n] =
      shownAs .dark { s.shows.screens[n] with current := none, start := none } := by
  have screen := darkened_screen n s
  rw [(staged_updateWanting n _).dark n (by rw [screen, shownAs_state]), screen]

theorem stageFrame_kept (h : StageFrame s t) : t.night = s.night ∧ t.store = s.store ∧ t.mem = s.mem := by
  unfold StageFrame at h
  rw [h]
  exact ⟨rfl, rfl, rfl⟩

theorem wanted_kept (n : Fin 6) (s : State) :
    let v := (darkened n s).updateWanting n
    v.night = s.night ∧ v.store = s.store ∧ v.mem = s.mem := by
  obtain ⟨night, store, mem⟩ := stageFrame_kept (staged_updateWanting n (darkened n s)).frame
  obtain ⟨night', store', mem'⟩ := darkened_kept n s
  exact ⟨night.trans night', store.trans store', mem.trans mem'⟩

/-- The other screens are DARK after a screen went DARK if they were before. -/
theorem wanted_dark_iff (h : m ≠ n) :
    ((darkened n s).updateWanting n).shows.screens[m].state = .dark ↔ s.shows.screens[m].state = .dark := by
  have other := darkened_other (s := s) h
  constructor
  · intro dark
    by_contra lit
    exact (EquipmentDomains.onward_updateWanting n (darkened n s)).notDark m (by rw [other]; exact lit) dark
  · intro dark
    rw [(staged_updateWanting n (darkened n s)).dark m (by rw [other]; exact dark), other]
    exact dark

theorem wanted_gone_iff (n : Fin 6) (s : State) : Gone ((darkened n s).updateWanting n) ↔
    s.mem.admFree.length = 1024 ∧ s.mem.orderFree.length = 256 ∧
      ∀ m : Fin 6, m ≠ n → s.shows.screens[m].state = .dark := by
  obtain ⟨-, -, mem⟩ := wanted_kept n s
  unfold Gone
  rw [mem]
  refine and_congr_right fun _ => and_congr_right fun _ => ⟨fun dark m hm => (wanted_dark_iff hm).mp (dark m),
    fun dark m => ?_⟩
  by_cases same : m = n
  · subst same
    rw [wanted_screen, shownAs_state]
  · exact (wanted_dark_iff same).mpr (dark m same)

/-- Settles O14: the slots as retired and created, and the examinations by the closing condition. -/
theorem retirementAndCreation : Obligations.RetirementAndCreation := by
  refine ⟨fun a s => ?adm, fun o s => ?order, fun a rest x s hf => ?newAdm, fun o rest x s hf => ?newOrder,
    fun o s => retireOrder_eq o s, fun a s => ⟨retireAdm_none a s, fun n => retireAdm_screen a n s⟩,
    fun s => ⟨examineClose_kept, fun hs h => ?closes⟩, fun n s => ?dark⟩
  case adm =>
    have slot := retireAdmSlot_slot a s
    refine ⟨by rw [slot]; rfl, by rw [slot]; rfl, by rw [retireAdmSlot_gen]; exact upd_get_same _ _ _,
      retireAdmSlot_free a s, not_admCurrent_of_mem (by rw [retireAdmSlot_free]; simp [State.admHandle]),
      fun b hb => ⟨retireAdmSlot_other hb s, ?_⟩, retireAdmSlot_eq a s⟩
    rw [retireAdmSlot_gen]
    exact upd_get_other _ _ _ _ hb.symm
  case order =>
    have slot := retireOrderSlot_slot o s
    refine ⟨by rw [slot]; rfl, by rw [slot]; rfl, by rw [retireOrderSlot_gen]; exact upd_get_same _ _ _,
      retireOrderSlot_free o s, not_orderCurrent_of_mem (by rw [retireOrderSlot_free]; simp [State.orderHandle]),
      fun b hb => ⟨retireOrderSlot_other hb s, ?_⟩, retireOrderSlot_eq o s⟩
    rw [retireOrderSlot_gen]
    exact upd_get_other _ _ _ _ hb.symm
  case newAdm =>
    have free : (s.createAdm a x).mem.admFree = rest := congrArg List.tail hf
    have written : (s.createAdm a x).mem.admissions[a] = Slot.write x s.mem.admissions[a] := upd_get_same _ _ _
    refine ⟨by rw [written]; rfl, free, rfl, fun fresh => ?_, fun b hb => upd_get_other _ _ _ _ hb.symm, rfl⟩
    have live : (s.createAdm a x).admLive a = true := by
      rw [State.admLive, free]
      simpa using fresh
    exact Bool.and_eq_true_iff.mpr ⟨live, beq_self_eq_true _⟩
  case newOrder =>
    have free : (s.createOrder o x).mem.orderFree = rest := congrArg List.tail hf
    have written : (s.createOrder o x).mem.orders[o] = Slot.write x s.mem.orders[o] := upd_get_same _ _ _
    refine ⟨by rw [written]; rfl, free, rfl, fun fresh => ?_, fun b hb => upd_get_other _ _ _ _ hb.symm, rfl⟩
    have live : (s.createOrder o x).orderLive o = true := by
      rw [State.orderLive, free]
      simpa using fresh
    exact Bool.and_eq_true_iff.mpr ⟨live, beq_self_eq_true _⟩
  case closes =>
    rw [examineClose_gone hs h]
    exact ⟨closeNight_night s, closeNight_store s, closeNight_booth s, closeNight_windows s, closeNight_nightFrame s⟩
  case dark =>
    have screen := wanted_screen n s
    obtain ⟨night, store, -⟩ := wanted_kept n s
    have dark : (darkened n s).shows.screens[n].state = .dark := by rw [darkened_screen, shownAs_state]
    dsimp only
    rw [goDark_eq, examineClose_shows, examineClose_chans, screen]
    refine ⟨shownAs_state _ _, by rw [shownAs_eq], by rw [shownAs_eq], updateWanting_dark dark, fun closing gone => ?_,
      fun waits => ?_⟩
    · rw [examineClose_gone (by rw [night]; exact closing) ((wanted_gone_iff n s).mpr gone), closeNight_night,
        closeNight_store, closeNight_booth, night, store]
      exact ⟨rfl, rfl, attention_raise_kindSet_ne_zero (by decide) _⟩
    · rw [examineClose_kept fun closes => waits ⟨by rw [← night]; exact closes.1, (wanted_gone_iff n s).mp closes.2⟩]
      exact ⟨night, store⟩

end Sys2Proof.Retiring
end

section
/-!
SUPPORT. READ_LANE and LOOKUP_ADMISSION (R60, R13).
-/

namespace Sys2Proof.Lanes

open Sys2Proof Sys2Proof.Machine Sys2Proof.Orders

variable {s u : State}

theorem readLane_badParam {lane : Byte} (h : numbered 4 lane = none) : readLane lane s = s.refuse .badParam := by
  simp only [readLane, h]

/-- The 17 bytes of a lane (R60). -/
def laneBytes (l : Lane) (s : State) : List Byte :=
  [byte1 l.role.number, byte1 l.state.number, byte1 ((l.cause.map LaneFault.number).getD 0),
    byte1 ((l.faultedFrom.map LaneState.number).getD 0)] ++ optAdmHandle (l.bound.map s.admHandle) ++
  [flagByte l.loopA.level, flagByte l.loopB.level, flagByte l.raise, flagByte l.up] ++
  bytes2 l.passes ++ bytes2 l.tailgates ++ bytes2 l.voids

theorem readLane_named {lane : Byte} {n : Fin 4} (h : numbered 4 lane = some n) :
    readLane lane s = s.ok (laneBytes s.gate.lanes[n] s) := by
  simp only [readLane, h, laneBytes]

theorem boundBytes_eq (bound : Option (Fin 1024)) (s : State) : optAdmHandle (bound.map s.admHandle) =
    match bound with
    | none => [0, 0, 0]
    | some a => 1 :: (s.admHandle a).bytes := by
  cases bound <;> rfl

variable {handle : Word16} {h : AdmHandle}

theorem lookupAdmission_stale (hc : s.admCurrent (.ofWord handle) = false) :
    lookupAdmission handle s = s.refuse .stale := by
  simp [lookupAdmission, hc]

theorem lookupAdmission_read {x : Admission} (hc : s.admCurrent (.ofWord handle) = true)
    (hr : s.readAdm (AdmHandle.ofWord handle).slot = (some x, u)) :
    lookupAdmission handle s = u.ok (x.bytes (.ofWord handle)) := by
  simp [lookupAdmission, hc, hr]

theorem lookupAdmission_damaged (hc : s.admCurrent (.ofWord handle) = true)
    (hr : s.readAdm (AdmHandle.ofWord handle).slot = (none, u)) : lookupAdmission handle s =
      { state := u, status := .damaged, data := u.damagedAdmBytes (.ofWord handle) } := by
  simp [lookupAdmission, hc, hr]

theorem length_admBytes {x : Admission} (hl : x.orders.length ≤ 6) : (x.bytes h).length = 29 := by
  have handles : ∀ o ∈ x.orders, o.bytes.length = 2 := fun _ _ => rfl
  have orders := length_listBytes handles hl
  rw [Admission.bytes, List.length_append, orders]
  rfl

/-- Settles O30: both reads by their checks, and the bytes of their formats. -/
theorem laneAndAdmissionLookups : Obligations.LaneAndAdmissionLookups := by
  refine ⟨fun lane s ht => ⟨fun h => next_command_of_block ht (readLane_badParam h), fun n h => ?_⟩,
    fun p handle s u ht => ⟨fun hc => next_command_of_block ht (lookupAdmission_stale hc),
      fun x hc hr => ⟨next_command_of_block ht (lookupAdmission_read hc hr), length_admBytes⟩,
      fun hc hr => next_command_of_block ht (lookupAdmission_damaged hc hr)⟩⟩
  have answered := next_command_of_block ht (readLane_named h)
  unfold laneBytes at answered
  rw [boundBytes_eq] at answered
  exact answered

end Sys2Proof.Lanes
end

section
/-!
SUPPORT. The inputs of a lane and what it does at a qualified change of a loop (R41 to R43, R47, R49, R52, R54, R55).
-/

namespace Sys2Proof.Lanes

open Sys2Proof Sys2Proof.Machine Sys2Proof.Orders Sys2Proof.Invariants

variable {s : State} {n : Fin 4}

/-! ## A change of a lane -/

theorem modLane_modLane (f g : Lane → Lane) (s : State) : (s.modLane n f).modLane n g = s.modLane n fun l => g (f l) :=
  congrArg (fun lanes => s.modGate fun c => { c with lanes }) (Lot.upd_upd s.gate.lanes n f g)

theorem modLane_congr {f g : Lane → Lane} (h : f s.gate.lanes[n] = g s.gate.lanes[n]) : s.modLane n f = s.modLane n g :=
  congrArg (fun lanes => s.modGate fun c => { c with lanes }) (Records.upd_congr h)

theorem modLane_other {m : Fin 4} (h : m ≠ n) (f : Lane → Lane) (s : State) :
    (s.modLane n f).gate.lanes[m] = s.gate.lanes[m] := upd_get_other _ _ _ _ h.symm

theorem modLoop_state (loop : Loop) (f : Input → Input) (l : Lane) : (l.modLoop loop f).state = l.state := by
  cases loop <;> rfl

theorem modLoop_role (loop : Loop) (f : Input → Input) (l : Lane) : (l.modLoop loop f).role = l.role := by
  cases loop <;> rfl

theorem modLoop_bound (loop : Loop) (f : Input → Input) (l : Lane) : (l.modLoop loop f).bound = l.bound := by
  cases loop <;> rfl

/-! ## Loop A (R47, R49, R54, R55) -/

theorem loopAOccupied_idle (h : s.gate.lanes[n].state = .idle) : s.loopAOccupied n =
    (s.modLane n fun l => { l with state := .present }).raiseBooth .lanePresent := by
  unfold State.loopAOccupied
  rw [h]

theorem loopAOccupied_issued (h : s.gate.lanes[n].state = .issued) : s.loopAOccupied n =
    s.modLane n fun l => { l with voidTimer := none } := by
  unfold State.loopAOccupied
  rw [h]

theorem loopAOccupied_leaving (h : s.gate.lanes[n].state = .leaving) : s.loopAOccupied n =
    s.modLane n fun l => { l with returnTimer := none } := by
  unfold State.loopAOccupied
  rw [h]

theorem loopAOccupied_stays (h : s.gate.lanes[n].state = .present ∨ s.gate.lanes[n].state = .passing ∨
    s.gate.lanes[n].state = .faulted ∨ s.gate.lanes[n].state = .paying) : s.loopAOccupied n = s := by
  unfold State.loopAOccupied
  obtain h | h | h | h := h <;> rw [h]

theorem loopAClears_present (h : s.gate.lanes[n].state = .present) : s.loopAClears n =
    s.modLane n fun l => { l with state := .idle } := by
  unfold State.loopAClears
  dsimp only
  rw [h]

theorem loopAClears_issued (h : s.gate.lanes[n].state = .issued) : s.loopAClears n =
    s.modLane n fun l => { l with voidTimer := seconds s.gate.voidTime } := by
  unfold State.loopAClears
  dsimp only
  rw [h]

theorem loopAClears_leaving (h : s.gate.lanes[n].state = .leaving) : s.loopAClears n =
    s.modLane n fun l => { l with returnTimer := seconds s.gate.voidTime } := by
  unfold State.loopAClears
  dsimp only
  rw [h]

theorem loopAClears_paying {a : Fin 1024} (h : s.gate.lanes[n].state = .paying) (bound : s.gate.lanes[n].bound = some a) :
    s.loopAClears n = s.leaveWindow n a := by
  unfold State.loopAClears
  dsimp only
  rw [h]
  dsimp only
  rw [bound]

theorem loopAClears_stays (h : s.gate.lanes[n].state = .idle ∨ s.gate.lanes[n].state = .passing ∨
    s.gate.lanes[n].state = .faulted) : s.loopAClears n = s := by
  unfold State.loopAClears
  dsimp only
  obtain h | h | h := h <;> rw [h]

/-! ## Loop B (R43, R49, R50, R52, R55, R56) -/

theorem loopBOccupied_tailgate (h : s.gate.lanes[n].state = .idle ∨ s.gate.lanes[n].state = .present ∨
    s.gate.lanes[n].state = .paying) : s.loopBOccupied n =
      (s.modLane n fun l => { l with
        stuckTimer := seconds s.gate.stuckTime, tailgates := countUp l.tailgates }).raiseBooth .tailgate := by
  have merged := congrArg (State.raiseBooth .tailgate) (modLane_modLane (n := n)
    (fun l => { l with stuckTimer := seconds s.gate.stuckTime }) (fun l => { l with tailgates := countUp l.tailgates }) s)
  unfold State.loopBOccupied
  dsimp only
  obtain h | h | h := h <;> rw [h, if_neg (by decide)] <;> exact merged

theorem loopBOccupied_begins (h : s.gate.lanes[n].state = .issued ∨ s.gate.lanes[n].state = .leaving) :
    s.loopBOccupied n = s.modLane n fun l => { l with
      stuckTimer := seconds s.gate.stuckTime, state := .passing, voidTimer := none, returnTimer := none } := by
  have merged := modLane_modLane (n := n) (fun l => { l with stuckTimer := seconds s.gate.stuckTime })
    (fun l => { l with state := .passing, voidTimer := none, returnTimer := none }) s
  unfold State.loopBOccupied
  dsimp only
  obtain h | h := h <;> rw [h, if_neg (by decide)] <;> exact merged

theorem loopBOccupied_passing (h : s.gate.lanes[n].state = .passing) : s.loopBOccupied n =
    s.modLane n fun l => { l with stuckTimer := seconds s.gate.stuckTime } := by
  unfold State.loopBOccupied
  dsimp only
  rw [h, if_neg (by decide)]

theorem loopBOccupied_faulted (h : s.gate.lanes[n].state = .faulted) : s.loopBOccupied n = s := if_pos h

theorem loopBClears_stays (h : s.gate.lanes[n].state ≠ .passing) : s.loopBClears n =
    s.modLane n fun l => { l with stuckTimer := none } := by
  unfold State.loopBClears
  dsimp only
  split
  next passing _ => exact absurd passing h
  next => rfl

theorem loopBClears_passing {a : Fin 1024} (h : s.gate.lanes[n].state = .passing) (bound : s.gate.lanes[n].bound = some a) :
    s.loopBClears n = if s.gate.lanes[n].role = .entry then
        (s.modLane n fun l => { l with stuckTimer := none }).entryPass n a
      else (s.modLane n fun l => { l with stuckTimer := none }).exitPass n a := by
  unfold State.loopBClears
  dsimp only
  rw [h, bound]

/-! ## The event of a loop (R40, R41) -/

theorem loopEvent_unused (loop : Loop) (h : s.gate.lanes[n].role = .unused) : s.loopEvent n loop = s := if_pos h

theorem loopEvent_aOccupied (h : s.gate.lanes[n].role ≠ .unused) (level : s.gate.lanes[n].loopA.level = true) :
    s.loopEvent n .a = s.loopAOccupied n := by
  unfold State.loopEvent
  dsimp only
  rw [if_neg h, level]

theorem loopEvent_aClear (h : s.gate.lanes[n].role ≠ .unused) (level : s.gate.lanes[n].loopA.level = false) :
    s.loopEvent n .a = s.loopAClears n := by
  unfold State.loopEvent
  dsimp only
  rw [if_neg h, level]

theorem loopEvent_bOccupied (h : s.gate.lanes[n].role ≠ .unused) (level : s.gate.lanes[n].loopB.level = true) :
    s.loopEvent n .b = s.loopBOccupied n := by
  unfold State.loopEvent
  dsimp only
  rw [if_neg h, level]

theorem loopEvent_bClear (h : s.gate.lanes[n].role ≠ .unused) (level : s.gate.lanes[n].loopB.level = false) :
    s.loopEvent n .b = s.loopBClears n := by
  unfold State.loopEvent
  dsimp only
  rw [if_neg h, level]

/-! ## The expiry of a presence timer (R41) -/

/-- The state in which a lane takes the event of a loop: the level of the loop is qualified. -/
abbrev qualified (n : Fin 4) (loop : Loop) (s : State) : State := s.modLane n (Lane.modLoop loop Input.qualify)

theorem qualified_lane (loop : Loop) (s : State) :
    (qualified n loop s).gate.lanes[n] = s.gate.lanes[n].modLoop loop Input.qualify := modLane_lane _ _ _

theorem qualified_state (loop : Loop) (s : State) : (qualified n loop s).gate.lanes[n].state = s.gate.lanes[n].state := by
  rw [qualified_lane, modLoop_state]

theorem qualified_role (loop : Loop) (s : State) : (qualified n loop s).gate.lanes[n].role = s.gate.lanes[n].role := by
  rw [qualified_lane, modLoop_role]

theorem qualified_bound (loop : Loop) (s : State) : (qualified n loop s).gate.lanes[n].bound = s.gate.lanes[n].bound := by
  rw [qualified_lane, modLoop_bound]

theorem qualified_loopA (s : State) : (qualified n .a s).gate.lanes[n].loopA.level = s.gate.lanes[n].loopA.raw := by
  rw [qualified_lane]
  rfl

theorem qualified_loopB (s : State) : (qualified n .b s).gate.lanes[n].loopB.level = s.gate.lanes[n].loopB.raw := by
  rw [qualified_lane]
  rfl

theorem exec_presenceTimerExpiry {loop : Loop} (running : s.sys.phase = .running)
    (timer : (s.gate.lanes[n].loop loop).timer ≠ none) :
    exec (.presenceTimerExpiry n loop) s = .next ((qualified n loop s).loopEvent n loop) :=
  congrArg Host.Outcome.next ((whileRunning_running _ _ running).trans
    (if_pos (Shows.isSome_of_ne_none timer)))

theorem exec_loopInputChange (loop : Loop) (occupied : Bool) : exec (.loopInputChange n loop occupied) s =
    .next (s.modLane n (Lane.modLoop loop fun i =>
      if s.sys.phase = .running then
        if i.raw = occupied then i
        else { i with
          raw := occupied
          timer := if occupied = i.level then none else some s.gate.presenceTime }
      else { i with raw := occupied })) := by
  have changed : (if s.sys.phase = .running then Input.change occupied s.gate.presenceTime
      else Input.setRaw occupied) = fun i => if s.sys.phase = .running then Input.change occupied s.gate.presenceTime i
        else Input.setRaw occupied i := by
    funext i
    split <;> rfl
  exact congrArg (fun f => Host.Outcome.next (s.modLane n (Lane.modLoop loop f))) changed

/-- Settles O22: the inputs by their definitions, and the event of a loop by the loop, its level and the lane's
state. -/
theorem laneInputs : Obligations.LaneInputs := by
  refine fun n s => ⟨fun loop occupied => exec_loopInputChange loop occupied, fun _ => rfl,
    fun loop running timer => ?_⟩
  have event := exec_presenceTimerExpiry running timer
  refine ⟨fun role => ?unused, fun role hl raw => ?aOccupied, fun role hl raw => ?aClear, fun role hl raw => ?bOccupied,
    fun role hl raw state => ?bClear⟩
  case unused => exact event.trans (congrArg _ (loopEvent_unused loop ((qualified_role loop s).trans role)))
  all_goals
    subst hl
    rw [← qualified_role (n := n)] at role
  case aOccupied =>
    rw [loopEvent_aOccupied role ((qualified_loopA s).trans raw)] at event
    simp only [← qualified_state .a s]
    exact ⟨fun h => event.trans (congrArg _ (loopAOccupied_idle h)),
      fun h => event.trans (congrArg _ (loopAOccupied_issued h)),
      fun h => event.trans (congrArg _ (loopAOccupied_leaving h)),
      fun h => event.trans (congrArg _ (loopAOccupied_stays h))⟩
  case aClear =>
    rw [loopEvent_aClear role ((qualified_loopA s).trans raw)] at event
    simp only [← qualified_state .a s]
    exact ⟨fun h => event.trans (congrArg _ (loopAClears_present h)),
      fun h => event.trans (congrArg _ (loopAClears_issued h)),
      fun h => event.trans (congrArg _ (loopAClears_leaving h)),
      fun h => event.trans (congrArg _ (loopAClears_stays h))⟩
  case bOccupied =>
    rw [loopEvent_bOccupied role ((qualified_loopB s).trans raw)] at event
    simp only [← qualified_state .b s]
    exact ⟨fun h => event.trans (congrArg _ (loopBOccupied_tailgate h)),
      fun h => event.trans (congrArg _ (loopBOccupied_begins h)),
      fun h => event.trans (congrArg _ (loopBOccupied_passing h)),
      fun h => event.trans (congrArg _ (loopBOccupied_faulted h))⟩
  case bClear =>
    rw [loopEvent_bClear role ((qualified_loopB s).trans raw)] at event
    rw [← qualified_state (n := n) .b s] at state
    exact event.trans (congrArg _ (loopBClears_stays state))

end Sys2Proof.Lanes
end

section
/-!
SUPPORT. What the release of a stall leaves unchanged for an admission that it does not serve (R31, R32), and the
departure of an admission from its lane and from the lot (R46, R51, R56).
-/

namespace Sys2Proof.Lanes

open Sys2Proof Sys2Proof.Machine Sys2Proof.Orders Sys2Proof.Invariants

variable {s t u : State} {n : Fin 4} {a b i : Fin 1024}

/-! ## What a change of the lot spares -/

/-- No slot was created or retired, and no order written. -/
structure SlotsKept (s t : State) : Prop where
  admGen : t.mem.admGen = s.mem.admGen
  admFree : t.mem.admFree = s.mem.admFree
  orders : t.mem.orders = s.mem.orders
  orderGen : t.mem.orderGen = s.mem.orderGen
  orderFree : t.mem.orderFree = s.mem.orderFree

theorem slotsKept_refl (s : State) : SlotsKept s s := ⟨rfl, rfl, rfl, rfl, rfl⟩

theorem slotsKept_trans (h : SlotsKept s t) (k : SlotsKept t u) : SlotsKept s u where
  admGen := k.admGen.trans h.admGen
  admFree := k.admFree.trans h.admFree
  orders := k.orders.trans h.orders
  orderGen := k.orderGen.trans h.orderGen
  orderFree := k.orderFree.trans h.orderFree

/-- From `s` to `t` a change of the lot spared admission slot `a`: its record stands, and it took no stall and no place
in a queue. -/
structure Spared (a : Fin 1024) (s t : State) : Prop extends SlotsKept s t where
  frame : s.lotFrame t
  record : t.adm a = s.adm a
  stall : ∀ j : Fin 1024, t.lot.occupants[j].map Occupant.slot = some a → s.lot.occupants[j].map Occupant.slot = some a
  queue : ∀ m : Fin 6, a ∈ t.lot.queues[m] → a ∈ s.lot.queues[m]

theorem spared_trans (h : Spared a s t) (k : Spared a t u) : Spared a s u where
  toSlotsKept := slotsKept_trans h.toSlotsKept k.toSlotsKept
  frame := lotFrame_trans h.frame k.frame
  record := k.record.trans h.record
  stall j x := h.stall j (k.stall j x)
  queue m x := h.queue m (k.queue m x)

/-- A change of the records that keeps one of them, and the lot map. -/
theorem spared_of_records (frame : s.lotFrame t) (slots : SlotsKept s t) (record : t.adm a = s.adm a)
    (lot : t.lot = s.lot) : Spared a s t where
  toSlotsKept := slots
  frame := frame
  record := record
  stall _ := by rw [lot]; exact id
  queue _ := by rw [lot]; exact id

theorem spared_refl (a : Fin 1024) (s : State) : Spared a s s := spared_of_records (lotFrame_refl s) (slotsKept_refl s) rfl rfl

/-- A change of the lot map alone. -/
theorem spared_modLot {f : LotMap → LotMap}
    (stall : ∀ j : Fin 1024, (f s.lot).occupants[j].map Occupant.slot = some a →
      s.lot.occupants[j].map Occupant.slot = some a)
    (queue : ∀ m : Fin 6, a ∈ (f s.lot).queues[m] → a ∈ s.lot.queues[m]) : Spared a s (s.modLot f) where
  toSlotsKept := ⟨rfl, rfl, rfl, rfl, rfl⟩
  frame := rfl
  record := rfl
  stall := stall
  queue := queue

/-! ## Each change of the lot (R8, R9, R24, R29) -/

theorem spared_event (a : Fin 1024) (place : EventPlace) (kind : EventKind) (s : State) : Spared a s (s.event place kind) :=
  spared_of_records rfl ⟨rfl, rfl, rfl, rfl, rfl⟩ rfl rfl

theorem spared_raiseBooth (a : Fin 1024) (kind : BoothKind) (s : State) : Spared a s (s.raiseBooth kind) :=
  spared_of_records rfl ⟨rfl, rfl, rfl, rfl, rfl⟩ rfl rfl

theorem spared_modStallSlot (a i : Fin 1024) (f : Slot Stall → Slot Stall) (s : State) : Spared a s (s.modStallSlot i f) :=
  spared_of_records rfl ⟨rfl, rfl, rfl, rfl, rfl⟩ rfl rfl

theorem upd_content {α : Type} {n : Nat} {v : Vector (Slot α) n} {i j : Fin n} {f : Slot α → Slot α}
    (h : i = j → (f v[i]).content = v[i].content) : (upd v i f)[j].content = v[j].content := by
  rw [upd_get]
  split
  next same =>
    subst same
    exact h rfl
  next => rfl

theorem spared_modAdmSlot {f : Slot Admission → Slot Admission}
    (h : b = a → (f s.mem.admissions[b]).content = s.mem.admissions[b].content) : Spared a s (s.modAdmSlot b f) :=
  spared_of_records rfl ⟨rfl, rfl, rfl, rfl, rfl⟩ (upd_content h) rfl

theorem spared_markAdm (a b : Fin 1024) (s : State) : Spared a s (s.markAdm b) :=
  spared_of_records rfl ⟨rfl, rfl, rfl, rfl, rfl⟩ (upd_content (by exact fun _ => rfl)) rfl

theorem spared_readAdm (a b : Fin 1024) (s : State) : Spared a s (s.readAdm b).2 := by
  unfold State.readAdm
  dsimp only
  split
  · exact spared_refl a s
  · split
    · exact spared_refl a s
    · exact spared_trans (spared_modAdmSlot (by exact fun _ => rfl)) (spared_event a _ _ _)
    · exact spared_markAdm a b s

theorem readAdm_some {x : Admission} (h : s.readAdm b = (some x, u)) : x = s.adm b := by
  unfold State.readAdm at h
  dsimp only at h
  split at h
  · cases h
  · split at h
    · exact (Option.some.inj (Prod.mk.inj h).1).symm
    · exact (Option.some.inj (Prod.mk.inj h).1).symm
    · cases h

theorem spared_writeAdm (h : b ≠ a) (f : Admission → Admission) (s : State) : Spared a s (s.writeAdm b f) :=
  spared_modAdmSlot fun same => absurd same h

theorem spared_recount (a i : Fin 1024) (st : StallState) (s : State) : Spared a s (s.modLot (LotMap.recount i st)) := by
  obtain ⟨-, occupants, queues⟩ := Lot.recount_keeps i st s.lot
  exact spared_modLot (fun _ => by rw [occupants]; exact id) (fun _ => by rw [queues]; exact id)

theorem spared_rebuildStall (a i : Fin 1024) (s : State) : Spared a s (s.rebuildStall i) :=
  spared_trans (t := s.modMem fun m => { m with
      stalls := upd m.stalls i fun slot => (slot.write (s.rebuilt i)).unmark, stallMarks := m.stallMarks - 1 })
    (spared_of_records rfl ⟨rfl, rfl, rfl, rfl, rfl⟩ rfl rfl) (spared_recount a i _ _)

theorem spared_readStall (a i : Fin 1024) (s : State) : Spared a s (s.readStall i).2 := by
  unfold State.readStall
  dsimp only
  split
  · exact spared_refl a s
  · exact spared_trans (spared_modStallSlot a i _ s) (spared_event a _ _ _)
  · exact spared_trans (t := s.markStall i) (spared_of_records rfl ⟨rfl, rfl, rfl, rfl, rfl⟩ rfl rfl)
      (spared_rebuildStall a i _)

theorem spared_writeStall (a i : Fin 1024) (f : Stall → Stall) (s : State) : Spared a s (s.writeStall i f) :=
  spared_trans (spared_modStallSlot a i _ s) (spared_recount a i _ _)

theorem setOccupant_occupants (i : Fin 1024) (o : Option Occupant) (st : StallState) (l : LotMap) :
    (l.setOccupant i o st).occupants = upd l.occupants i fun _ => o := (Lot.recount_keeps _ _ _).2.1

theorem setOccupant_queues (i : Fin 1024) (o : Option Occupant) (st : StallState) (l : LotMap) :
    (l.setOccupant i o st).queues = l.queues := (Lot.recount_keeps _ _ _).2.2

theorem spared_holdStall (h : b ≠ a) (i : Fin 1024) (hold : Hold) (s : State) : Spared a s (s.holdStall i b hold) := by
  refine spared_modLot (fun j held => ?_) (fun _ => by rw [setOccupant_queues]; exact id)
  rw [setOccupant_occupants, upd_get] at held
  split at held
  next => exact absurd (Option.some.inj held) h
  next => exact held

theorem leaveQueue_queue (l : LotMap) (m : Fin 6) : (l.leaveQueue b).queues[m] = l.queues[m].filter (· != b) :=
  Vector.getElem_map _ m.isLt

theorem mem_leaveQueue (l : LotMap) (m : Fin 6) : a ∈ (l.leaveQueue b).queues[m] ↔ a ∈ l.queues[m] ∧ a ≠ b := by
  rw [leaveQueue_queue, List.mem_filter, bne_iff_ne]

theorem spared_leaveQueue (a b : Fin 1024) (s : State) : Spared a s (s.modLot (LotMap.leaveQueue b)) :=
  spared_modLot (fun _ h => h) fun m h => ((mem_leaveQueue s.lot m).mp h).1

theorem spared_clear (a i : Fin 1024) (s : State) :
    Spared a s (s.modLot fun l => { l with occupants := upd l.occupants i fun _ => none }) := by
  refine spared_modLot (fun j held => ?_) fun _ => id
  rw [upd_get] at held
  split at held
  next => cases held
  next => exact held

/-! ## The release of a stall (R31, R32) -/

theorem spared_giveStall (h : b ≠ a) (i : Fin 1024) (x : Admission) (s : State) : Spared a s (s.giveStall i b x) := by
  have left := spared_leaveQueue a b s
  unfold State.giveStall
  dsimp only
  split
  · exact spared_trans left (spared_trans (spared_holdStall h i _ _) (spared_writeAdm h _ _))
  · exact spared_trans left (spared_trans (spared_holdStall h i _ _)
      (spared_trans (spared_writeAdm h _ _) (spared_raiseBooth a _ _)))

/-- The examination gives nothing to an admission that is not in the queue, or that its record has SEATED. -/
theorem spared_examineQueue {l : List (Fin 1024)} (i : Fin 1024) (kind : StallKind) {s : State}
    (h : a ∉ l ∨ (s.adm a).state = .seated) : Spared a s (s.examineQueue i kind l) := by
  induction l generalizing s with
  | nil => exact spared_refl a s
  | cons b rest ih =>
    have read := spared_readAdm a b s
    have later : a ∉ rest ∨ ((s.readAdm b).2.adm a).state = .seated := by
      rw [read.record]
      exact h.imp_left fun absent => List.not_mem_of_not_mem_cons absent
    cases hr : s.readAdm b with
    | mk x u =>
      rw [hr] at read later
      cases x with
      | none =>
        rw [Lot.examineQueue_damaged hr]
        exact spared_trans read (ih later)
      | some x =>
        unfold State.examineQueue
        rw [hr]
        dsimp only
        split
        next given =>
          refine spared_trans read (spared_giveStall ?_ i x u)
          rintro rfl
          refine h.elim (· (List.mem_cons_self ..)) fun seated => ?_
          rw [← readAdm_some hr] at seated
          rw [seated] at given
          exact absurd given.1 (by decide)
        next => exact spared_trans read (ih later)

/-- Apart from its own stall, a release spares an admission that it does not serve. -/
theorem spared_released (i : Fin 1024) {s : State}
    (h : (∀ m : Fin 6, a ∉ s.lot.queues[m]) ∨ (s.adm a).state = .seated) :
    Spared a (s.modLot fun l => { l with occupants := upd l.occupants i fun _ => none }) (s.releaseStall i) := by
  have read := spared_readStall a i (s.modLot fun l => { l with occupants := upd l.occupants i fun _ => none })
  unfold State.releaseStall
  dsimp only
  split
  · exact spared_trans read (spared_writeStall a i _ _)
  · split
    · exact read
    · have written := spared_trans read (spared_writeStall a i (fun x => { x with closed := false, cause := none }) _)
      refine spared_trans written (spared_examineQueue i _ ?_)
      rw [written.record]
      exact h.imp_left fun absent queued => absent _ (written.queue _ queued)

theorem spared_releaseStall (i : Fin 1024) {s : State}
    (h : (∀ m : Fin 6, a ∉ s.lot.queues[m]) ∨ (s.adm a).state = .seated) : Spared a s (s.releaseStall i) :=
  spared_trans (spared_clear a i s) (spared_released i h)

theorem releaseStall_leaves (h : (∀ m : Fin 6, a ∉ s.lot.queues[m]) ∨ (s.adm a).state = .seated) :
    (s.releaseStall i).lot.occupants[i].map Occupant.slot ≠ some a := fun held => by
  have cleared : (s.modLot fun l => { l with occupants := upd l.occupants i fun _ => none }).lot.occupants[i] = none :=
    upd_get_same _ _ _
  have before := (spared_released i h).stall i held
  rw [cleared] at before
  cases before

/-! ## A place is given up (R29, R31) -/

theorem spared_leavePlace (a : Fin 1024) (s : State) : Spared a s (s.leavePlace a) := by
  unfold State.leavePlace
  split
  · exact spared_trans (spared_leaveQueue a a s)
      (spared_releaseStall _ (.inl fun m h => ((mem_leaveQueue s.lot m).mp h).2 rfl))
  · exact spared_leaveQueue a a s

theorem leavePlace_queues (m : Fin 6) : a ∉ (s.leavePlace a).lot.queues[m] := by
  have absent : ∀ m : Fin 6, a ∉ (s.modLot (LotMap.leaveQueue a)).lot.queues[m] :=
    fun m h => ((mem_leaveQueue s.lot m).mp h).2 rfl
  unfold State.leavePlace
  split
  · exact fun h => absent m ((spared_releaseStall _ (.inl absent)).queue m h)
  · exact absent m

theorem leavePlace_stall (h : s.lot.stallHeldBy a = some i) :
    (s.leavePlace a).lot.occupants[i].map Occupant.slot ≠ some a := by
  unfold State.leavePlace
  rw [h]
  exact releaseStall_leaves (.inl fun m h => ((mem_leaveQueue s.lot m).mp h).2 rfl)

/-! ## A lane is freed (R50, R51, R56) -/

theorem freeLane_gate (n : Fin 4) (s : State) :
    (s.freeLane n).gate = { s.gate with lanes := upd s.gate.lanes n (Lane.free s.gate.stuckTime) } := by
  unfold State.freeLane State.announcePresent
  split <;> rfl

/-- All that the freeing of a lane keeps: everything but the gate and the booth port. -/
theorem freeLane_kept (n : Fin 4) (s : State) : (s.freeLane n).mem = s.mem ∧ (s.freeLane n).lot = s.lot ∧
    (s.freeLane n).ords = s.ords ∧ (s.freeLane n).posts = s.posts ∧ (s.freeLane n).doms = s.doms ∧
    (s.freeLane n).sys = s.sys ∧ (s.freeLane n).pending = s.pending := by
  unfold State.freeLane State.announcePresent
  split <;> exact ⟨rfl, rfl, rfl, rfl, rfl, rfl, rfl⟩

/-- The lane at rest with nothing bound. -/
structure Freed (l k : Lane) : Prop where
  bound : k.bound = none
  raise : k.raise = false
  cause : k.cause = none
  faultedFrom : k.faultedFrom = none
  voidTimer : k.voidTimer = none
  returnTimer : k.returnTimer = none
  barrierTimer : k.barrierTimer = none
  state : k.state = if l.loopA.level then .present else .idle

theorem endFault_kept (stuckTime : Nat) (l : Lane) :
    (l.endFault stuckTime).cause = none ∧ (l.endFault stuckTime).faultedFrom = none := by
  unfold Lane.endFault
  dsimp only
  split <;> exact ⟨rfl, rfl⟩

theorem freed_free (stuckTime : Nat) {l : Lane} (h : l.role ≠ .unused) : Freed l (l.free stuckTime) := by
  obtain ⟨cause, faultedFrom⟩ := endFault_kept stuckTime l
  exact {
    bound := rfl
    raise := rfl
    cause := cause
    faultedFrom := faultedFrom
    voidTimer := rfl
    returnTimer := rfl
    barrierTimer := rfl
    state := if_neg h }

/-! ## The departure (R46, R51, R56) -/

/-- An admission leaves its place and its lane, and retires. -/
def departed (n : Fin 4) (a : Fin 1024) (s : State) : State :=
  ((s.leavePlace a).freeLane n).retireAdm a (s.lot.screenOf a)

/-- The slot is retired, and the live count of its screen is one lower. -/
def counted (a : Fin 1024) (m : Option (Fin 6)) (s : State) : State :=
  match m with
  | some m => (s.retireAdmSlot a).modGate fun g => { g with live := upd g.live m (· - 1) }
  | none => s.retireAdmSlot a

theorem retireAdm_showFrame (a : Fin 1024) (m : Option (Fin 6)) (s : State) :
    (counted a m s).showFrame (s.retireAdm a m) := by
  cases m with
  | none => exact examineClose_showFrame _
  | some m => exact showFrame_trans (examineEnded_showFrame _ m) (examineClose_showFrame _)

theorem counted_mem (a : Fin 1024) (m : Option (Fin 6)) (s : State) :
    (counted a m s).mem = (s.retireAdmSlot a).mem := by
  cases m <;> rfl

theorem counted_kept (a : Fin 1024) (m : Option (Fin 6)) (s : State) : (counted a m s).lot = s.lot ∧
    (counted a m s).ords = s.ords ∧ (counted a m s).posts = s.posts ∧ (counted a m s).doms = s.doms ∧
    (counted a m s).sys = s.sys ∧ (counted a m s).pending = s.pending ∧
    (counted a m s).gate.lanes = s.gate.lanes := by
  have slot := retireAdmSlot_readFrame s a
  have kept : (s.retireAdmSlot a).lot = s.lot ∧ (s.retireAdmSlot a).ords = s.ords ∧
      (s.retireAdmSlot a).posts = s.posts ∧ (s.retireAdmSlot a).doms = s.doms ∧ (s.retireAdmSlot a).sys = s.sys ∧
      (s.retireAdmSlot a).pending = s.pending ∧ (s.retireAdmSlot a).gate.lanes = s.gate.lanes :=
    ⟨readFrame_lot slot, readFrame_ords slot, readFrame_posts slot, readFrame_doms slot, readFrame_sys slot,
      readFrame_pending slot, congrArg Gate.lanes (readFrame_gate slot)⟩
  cases m <;> exact kept

theorem counted_live (a : Fin 1024) (m : Fin 6) (s : State) :
    (counted a (some m) s).gate.live[m] = s.gate.live[m] - 1 := by
  show (upd (s.retireAdmSlot a).gate.live m (· - 1))[m] = _
  rw [readFrame_gate (retireAdmSlot_readFrame s a)]
  exact upd_get_same _ _ _

theorem free_counts (stuckTime : Nat) (l : Lane) :
    (l.free stuckTime).passes = l.passes ∧ (l.free stuckTime).voids = l.voids := by
  unfold Lane.free Lane.endFault
  dsimp only
  split <;> exact ⟨rfl, rfl⟩

section

variable (n : Fin 4) (a : Fin 1024) (s : State)

/-- The state in which the slot of the admission is retired. -/
def left : State := (s.leavePlace a).freeLane n

theorem left_gate : (left n a s).gate = { s.gate with lanes := upd s.gate.lanes n (Lane.free s.gate.stuckTime) } := by
  rw [left, freeLane_gate, lotFrame_gate (spared_leavePlace a s).frame]

theorem left_kept : (left n a s).mem = (s.leavePlace a).mem ∧ (left n a s).lot = (s.leavePlace a).lot ∧
    (left n a s).ords = s.ords ∧ (left n a s).posts = s.posts ∧ (left n a s).doms = s.doms ∧
    (left n a s).sys = s.sys ∧ (left n a s).pending = s.pending := by
  have place := (spared_leavePlace a s).frame
  obtain ⟨mem, lot, ords, posts, doms, sys, pending⟩ := freeLane_kept n (s.leavePlace a)
  exact ⟨mem, lot, ords.trans (lotFrame_ords place), posts.trans (lotFrame_posts place),
    doms.trans (lotFrame_doms place), sys.trans (lotFrame_sys place), pending.trans (lotFrame_pending place)⟩

theorem departed_showFrame : (counted a (s.lot.screenOf a) (left n a s)).showFrame (departed n a s) :=
  retireAdm_showFrame a _ _

theorem departed_mem : (departed n a s).mem = ((left n a s).retireAdmSlot a).mem :=
  (showFrame_mem (departed_showFrame n a s)).trans (counted_mem _ _ _)

theorem departed_lot : (departed n a s).lot = (s.leavePlace a).lot := by
  rw [showFrame_lot (departed_showFrame n a s), (counted_kept a _ _).1, (left_kept n a s).2.1]

theorem departed_lanes : (departed n a s).gate.lanes = upd s.gate.lanes n (Lane.free s.gate.stuckTime) := by
  obtain ⟨-, -, -, -, -, -, lanes⟩ := counted_kept a (s.lot.screenOf a) (left n a s)
  rw [showFrame_gate (departed_showFrame n a s), lanes, left_gate]

theorem departed_live {m : Fin 6} (h : s.lot.screenOf a = some m) :
    (departed n a s).gate.live[m] = s.gate.live[m] - 1 := by
  have gate := showFrame_gate (departed_showFrame n a s)
  rw [h] at gate
  rw [gate, counted_live, left_gate]

theorem departed_kept : (departed n a s).ords = { s.ords with windows := (departed n a s).ords.windows } ∧
    (departed n a s).posts = s.posts ∧ (departed n a s).doms = s.doms ∧ (departed n a s).sys = s.sys ∧
    (departed n a s).pending = s.pending := by
  obtain ⟨-, -, ords, posts, doms, sys, pending⟩ := left_kept n a s
  obtain ⟨-, ords', posts', doms', sys', pending', -⟩ := counted_kept a (s.lot.screenOf a) (left n a s)
  have after := departed_showFrame n a s
  have windows := showFrame_ords after
  rw [ords', ords] at windows
  exact ⟨windows, by rw [showFrame_posts after, posts', posts], by rw [showFrame_doms after, doms', doms],
    by rw [showFrame_sys after, sys', sys], by rw [showFrame_pending after, pending', pending]⟩

theorem departed_gen : (departed n a s).mem.admGen[a] = s.mem.admGen[a] + 1 := by
  rw [departed_mem, Retiring.retireAdmSlot_gen, (left_kept n a s).1, (spared_leavePlace a s).admGen]
  exact upd_get_same _ _ _

theorem departed_live_false : (departed n a s).admLive a = false :=
  Retiring.not_admLive_of_mem (by rw [departed_mem, Retiring.retireAdmSlot_free]; simp)

end

theorem gone_departed {s : State} (role : s.gate.lanes[n].role ≠ .unused) : s.gone (departed n a s) n a := by
  have freed := freed_free s.gate.stuckTime role
  obtain ⟨ords, posts, doms, sys, pending⟩ := departed_kept n a s
  refine ⟨?lane, fun m hm => ?other, departed_live_false n a s, departed_gen n a s,
    fun m hm => departed_live n a s hm, fun i hi => ?stall, fun m => ?queue, posts, doms, sys, pending,
    ords⟩
  case lane =>
    have lane : (departed n a s).gate.lanes[n] = s.gate.lanes[n].free s.gate.stuckTime := by
      rw [departed_lanes]
      exact upd_get_same _ _ _
    rw [lane]
    exact ⟨freed.bound, freed.raise, freed.cause, freed.faultedFrom, freed.voidTimer, freed.returnTimer,
      freed.barrierTimer, freed.state⟩
  case other =>
    rw [departed_lanes]
    exact upd_get_other _ _ _ _ hm.symm
  case stall =>
    rw [departed_lot]
    exact leavePlace_stall hi
  case queue =>
    rw [departed_lot]
    exact leavePlace_queues m

/-- A departure is one whatever the counts of the lane are then. -/
theorem gone_counts {f : Lane → Lane} (gone : s.gone t n a)
    (h : ∀ l : Lane, (f l).bound = l.bound ∧ (f l).raise = l.raise ∧ (f l).cause = l.cause ∧
      (f l).faultedFrom = l.faultedFrom ∧ (f l).voidTimer = l.voidTimer ∧ (f l).returnTimer = l.returnTimer ∧
      (f l).barrierTimer = l.barrierTimer ∧ (f l).state = l.state) : s.gone (t.modLane n f) n a := by
  obtain ⟨lane, others, rest⟩ := gone
  refine ⟨?_, fun m hm => (modLane_other hm f t).trans (others m hm), rest⟩
  obtain ⟨bound, raise, cause, faultedFrom, voidTimer, returnTimer, barrierTimer, state⟩ := h t.gate.lanes[n]
  rw [modLane_lane, bound, raise, cause, faultedFrom, voidTimer, returnTimer, barrierTimer, state]
  exact lane

/-- A departure from a state is one from the state before a change of the lane that keeps the level of loop A. -/
theorem gone_of_modLane {f : Lane → Lane} (gone : (s.modLane n f).gone t n a)
    (h : (f s.gate.lanes[n]).loopA.level = s.gate.lanes[n].loopA.level) : s.gone t n a := by
  obtain ⟨lane, others, rest⟩ := gone
  rw [modLane_lane, h] at lane
  exact ⟨lane, fun m hm => (others m hm).trans (modLane_other hm f s), rest⟩

end Sys2Proof.Lanes
end

section
/-!
SUPPORT. The faults of a lane, its timers, and the void of an admission (R42 to R44, R49, R51, R57).
-/

namespace Sys2Proof.Lanes

open Sys2Proof Sys2Proof.Machine Sys2Proof.Orders Sys2Proof.Invariants

variable {s t u : State} {n : Fin 4} {a : Fin 1024}

/-! ## Faults (R42 to R44) -/

/-- A change of a lane, and then its fault, which keeps the state that the change left. -/
theorem faultLane_modLane {st : LaneState} {f : Lane → Lane} (c : LaneFault) (h : (f s.gate.lanes[n]).state = st) :
    (s.modLane n f).faultLane n c =
      (s.modLane n fun l => { (f l).dropRaise with
        state := .faulted, cause := some c, faultedFrom := some st, voidTimer := none
        returnTimer := none }).raiseBooth .laneFault := by
  subst h
  exact congrArg (State.raiseBooth .laneFault) ((modLane_modLane f (Lane.fault c) s).trans (modLane_congr rfl))

theorem timerFault_faulted (c : LaneFault) (h : s.gate.lanes[n].state = .faulted) : s.timerFault n c = s := if_pos h

theorem timerFault_faults (c : LaneFault) (h : s.gate.lanes[n].state ≠ .faulted) : s.timerFault n c = s.faultLane n c :=
  if_neg h

section

variable (running : s.sys.phase = .running)

include running

theorem exec_barrierTimerExpiry (timer : s.gate.lanes[n].barrierTimer ≠ none) : exec (.barrierTimerExpiry n) s =
    .next ((s.modLane n fun l => { l with barrierTimer := none }).timerFault n .barrier) :=
  congrArg Host.Outcome.next ((whileRunning_running _ _ running).trans (if_pos (Shows.isSome_of_ne_none timer)))

theorem exec_stuckTimerExpiry (timer : s.gate.lanes[n].stuckTimer ≠ none) : exec (.stuckTimerExpiry n) s =
    .next ((s.modLane n fun l => { l with stuckTimer := none }).timerFault n .stuck) :=
  congrArg Host.Outcome.next ((whileRunning_running _ _ running).trans (if_pos (Shows.isSome_of_ne_none timer)))

theorem exec_voidTimerExpiry (timer : s.gate.lanes[n].voidTimer ≠ none) (issued : s.gate.lanes[n].state = .issued)
    (bound : s.gate.lanes[n].bound = some a) : exec (.voidTimerExpiry n) s =
      .next (if s.admMarked a then s.faultLane n .record else s.voidAdm n a) := by
  refine congrArg Host.Outcome.next ((whileRunning_running _ _ running).trans
    ((if_pos ⟨Shows.isSome_of_ne_none timer, issued⟩).trans ?_))
  rw [bound]

end

/-! ## Voids (R51) -/

theorem voidAdm_eq (n : Fin 4) (a : Fin 1024) (s : State) : s.voidAdm n a =
    ((departed n a s).modLane n fun l => { l with voids := countUp l.voids }).raiseBooth .voided := by
  unfold State.voidAdm departed
  rfl

theorem gone_raiseBooth (k : BoothKind) (gone : s.gone t n a) : s.gone (t.raiseBooth k) n a := gone

theorem raised_modLane_lane (k : BoothKind) (f : Lane → Lane) (s : State) :
    ((s.modLane n f).raiseBooth k).gate.lanes[n] = f s.gate.lanes[n] := modLane_lane n f s

theorem voided_raised (s : State) : (s.raiseBooth .voided).booth.attention &&& kindSet 3 ≠ 0 :=
  NightUnit.attention_raise_kindSet_ne_zero (by decide) s.booth

/-- A void: the admission has gone, the count is one higher, and VOIDED is raised. -/
theorem voidAdm_gone (role : s.gate.lanes[n].role ≠ .unused) : s.gone (s.voidAdm n a) n a ∧
    (s.voidAdm n a).gate.lanes[n].voids = min (s.gate.lanes[n].voids + 1) 65535 ∧
    (s.voidAdm n a).booth.attention &&& kindSet 3 ≠ 0 := by
  rw [voidAdm_eq]
  refine ⟨gone_raiseBooth _ (gone_counts (gone_departed role) fun _ => ⟨rfl, rfl, rfl, rfl, rfl, rfl, rfl, rfl⟩), ?_,
    voided_raised _⟩
  rw [raised_modLane_lane, departed_lanes, upd_get, if_pos rfl, (free_counts _ _).2]
  rfl

/-! ## VOID (R51) -/

section

variable {handle : Word16}

theorem voidCommand_stale (hc : s.admCurrent (.ofWord handle) = false) : voidCommand handle s = s.refuse .stale := by
  simp [voidCommand, hc]

theorem voidCommand_damaged (hc : s.admCurrent (.ofWord handle) = true)
    (hr : s.readAdm (AdmHandle.ofWord handle).slot = (none, u)) : voidCommand handle s = u.refuse .damaged := by
  simp [voidCommand, hc, hr]

variable {x : Admission} (hc : s.admCurrent (.ofWord handle) = true)
  (hr : s.readAdm (AdmHandle.ofWord handle).slot = (some x, u))

include hc hr

theorem voidCommand_badState (h : x.state ≠ .issued ∨ u.gate.laneOf (AdmHandle.ofWord handle).slot = none) :
    voidCommand handle s = u.refuse .badState := by
  simp only [voidCommand, hc, hr, Bool.not_true, Bool.false_eq_true, if_false]
  split
  next issued lane =>
    rw [issued, lane] at h
    exact (h.elim (absurd rfl) (nomatch ·))
  next => rfl

theorem voidCommand_voids (issued : x.state = .issued) (lane : u.gate.laneOf (AdmHandle.ofWord handle).slot = some n) :
    voidCommand handle s = (u.voidAdm n (AdmHandle.ofWord handle).slot).ok [] := by
  simp only [voidCommand, hc, hr, issued, lane, Bool.not_true, Bool.false_eq_true, if_false]

end

/-- Settles O24: each timer by the lane's state, and VOID by its checks; what has gone is by the departure. -/
theorem laneTimersAndVoids : Obligations.LaneTimersAndVoids := by
  refine ⟨fun n s running => ⟨fun timer state => ?barrier, fun timer state => ?barrierFaulted,
      fun timer state => ?stuck, fun timer state => ?stuckFaulted⟩,
    fun n a s running timer issued bound role => ⟨fun clear => ?void, fun marked => ?record⟩,
    fun handle s u ht => ⟨fun hc => next_command_of_block ht (voidCommand_stale hc),
      fun hc hr => next_command_of_block ht (voidCommand_damaged hc hr), fun x hc hr =>
        ⟨fun h => next_command_of_block ht (voidCommand_badState hc hr h), fun n issued lane role => ?command⟩⟩⟩
  case barrier =>
    rw [exec_barrierTimerExpiry running timer, timerFault_faults _ (by rwa [modLane_lane]), faultLane_modLane _ rfl]
    exact congrArg (fun v : State => Host.Outcome.next (v.raiseBooth .laneFault)) (modLane_congr rfl)
  case barrierFaulted =>
    rw [exec_barrierTimerExpiry running timer, timerFault_faulted _ (by rwa [modLane_lane])]
  case stuck =>
    rw [exec_stuckTimerExpiry running timer, timerFault_faults _ (by rwa [modLane_lane]), faultLane_modLane _ rfl]
    exact congrArg (fun v : State => Host.Outcome.next (v.raiseBooth .laneFault)) (modLane_congr rfl)
  case stuckFaulted =>
    rw [exec_stuckTimerExpiry running timer, timerFault_faulted _ (by rwa [modLane_lane])]
  case void =>
    have clear : ¬ s.admMarked a = true := ne_true_of_eq_false clear
    rw [exec_voidTimerExpiry running timer issued bound, if_neg clear]
    exact ⟨_, rfl, voidAdm_gone (by rw [role]; decide)⟩
  case record =>
    have marked : s.admMarked a = true := marked
    rw [exec_voidTimerExpiry running timer issued bound, if_pos marked]
    exact congrArg (fun v : State => Host.Outcome.next (v.raiseBooth .laneFault)) (modLane_congr (by rw [← issued]; rfl))
  case command => exact ⟨_, next_command_of_block ht (voidCommand_voids hc hr issued lane), voidAdm_gone (by rw [role]; decide)⟩

end Sys2Proof.Lanes
end

section
/-!
SUPPORT. The passes of ENTRY and EXIT lanes (R50, R56, R57), and what the index store says of a place (R39).
-/

namespace Sys2Proof.Lanes

open Sys2Proof Sys2Proof.Machine Sys2Proof.Orders Sys2Proof.Invariants

variable {s t u : State} {n : Fin 4} {a : Fin 1024}

/-! ## What the index store goes by (R39) -/

section

variable {l m : LotMap} (fields : m.fields = l.fields)

include fields

theorem place_congr (i : Fin 1024) : m.place i = l.place i := by
  unfold LotMap.place
  rw [fields]

theorem stallsInUse_congr : m.stallsInUse = l.stallsInUse := by
  unfold LotMap.stallsInUse LotMap.inUse
  simp only [place_congr fields]

variable (occupants : ∀ i : Fin 1024, m.occupants[i].map Occupant.slot = l.occupants[i].map Occupant.slot)

include occupants

theorem stallHeldBy_congr (a : Fin 1024) : m.stallHeldBy a = l.stallHeldBy a := by
  unfold LotMap.stallHeldBy
  rw [stallsInUse_congr fields]
  simp only [occupants]

variable (queues : m.queues = l.queues)

include queues

theorem screenOf_congr (a : Fin 1024) : m.screenOf a = l.screenOf a := by
  unfold LotMap.screenOf LotMap.queueOf
  rw [stallHeldBy_congr fields occupants, queues]
  simp only [place_congr fields]

end

theorem stallHeldBy_some {l : LotMap} {i : Fin 1024} (h : l.stallHeldBy a = some i) :
    l.occupants[i].map Occupant.slot = some a := by
  have found := List.find?_some h
  exact eq_of_beq found

theorem parkedState_eq (l : LotMap) (a : Fin 1024) :
    l.parkedState a = if l.stallHeldBy a = none then .waiting else .seated := by
  unfold LotMap.parkedState
  cases l.stallHeldBy a <;> rfl

/-! ## An entry pass (R50) -/

/-- `t` differs from `s` at most in the gate, the record memory, the monitor, the ports and the lot map. -/
def GateFrame (s t : State) : Prop :=
  t = { s with gate := t.gate, mem := t.mem, lot := t.lot, mon := t.mon, booth := t.booth, counter := t.counter }

theorem gateFrame_trans (h : GateFrame s t) (k : GateFrame t u) : GateFrame s u := by
  unfold GateFrame at *
  rw [k, h]

theorem gateFrame_of_lotFrame (h : s.lotFrame t) : GateFrame s t := by
  unfold State.lotFrame at h
  unfold GateFrame
  rw [h]

theorem gateFrame_modGate (f : Gate → Gate) (s : State) : GateFrame s (s.modGate f) := rfl

theorem gateFrame_freeLane (n : Fin 4) (s : State) : GateFrame s (s.freeLane n) := by
  unfold State.freeLane State.announcePresent
  split <;> rfl

theorem upd_self {α : Type} {n : Nat} (v : Vector α n) {i : Fin n} {f : α → α} (h : f v[i] = v[i]) : upd v i f = v := by
  ext j hj
  rw [upd_getElem]
  split
  next same =>
    rw [h]
    subst same
    rfl
  next => rfl

theorem updateAdm_marked (f : Admission → Admission) (h : s.mem.admissions[a].marked = true) : s.updateAdm a f = s := by
  unfold State.updateAdm
  rw [readAdm_marked h]
  exact congrArg (fun admissions => s.modMem fun m => { m with admissions }) (upd_self _ (if_pos h))

theorem updateAdm_clean (f : Admission → Admission) (h : s.admClean a) :
    (s.updateAdm a f).adm a = f (s.adm a) := by
  obtain ⟨marked, -⟩ := id h
  have unmarked : ¬ s.mem.admissions[a].marked = true := ne_true_of_eq_false marked
  unfold State.updateAdm
  rw [readAdm_clean h]
  show (upd s.mem.admissions a _)[a].content = _
  rw [upd_get, if_pos rfl, if_neg unmarked]
  rfl

/-- The stall held by an admission becomes OCCUPIED; one that holds none changes nothing. -/
def occupy (a : Fin 1024) (s : State) : State :=
  match s.lot.stallHeldBy a with
  | some i => s.holdStall i a .occupation
  | none => s

theorem occupy_occupants {i : Fin 1024} (h : s.lot.stallHeldBy a = some i) :
    (occupy a s).lot.occupants = upd s.lot.occupants i fun _ => some { slot := a, hold := .occupation } := by
  unfold occupy
  rw [h]
  exact setOccupant_occupants _ _ _ _

theorem occupy_kept (a : Fin 1024) (s : State) : s.lotFrame (occupy a s) ∧ (occupy a s).mem = s.mem ∧
    (occupy a s).lot.fields = s.lot.fields ∧ (occupy a s).lot.queues = s.lot.queues := by
  unfold occupy
  split
  · exact ⟨holdStall_lotFrame s _ a _, rfl, (Lot.recount_keeps _ _ _).1, setOccupant_queues _ _ _ _⟩
  · exact ⟨lotFrame_refl s, rfl, rfl, rfl⟩

theorem occupy_slots (i : Fin 1024) :
    (occupy a s).lot.occupants[i].map Occupant.slot = s.lot.occupants[i].map Occupant.slot := by
  cases h : s.lot.stallHeldBy a with
  | none =>
    unfold occupy
    rw [h]
  | some j =>
    rw [occupy_occupants h, upd_get]
    split
    next same =>
      subst same
      exact (stallHeldBy_some h).symm
    next => rfl

/-- The admitted count of the screen of an admission goes up. -/
def countAdmitted (a : Fin 1024) (s : State) : State :=
  match s.lot.screenOf a with
  | some m => s.modGate fun g => { g with admitted := upd g.admitted m countUp }
  | none => s

theorem countAdmitted_kept (a : Fin 1024) (s : State) : (countAdmitted a s).lot = s.lot ∧ (countAdmitted a s).mem = s.mem ∧
    (countAdmitted a s).gate = { s.gate with admitted := (countAdmitted a s).gate.admitted } := by
  unfold countAdmitted
  split <;> exact ⟨rfl, rfl, rfl⟩

theorem freeLane_modLane_gate (n : Fin 4) (f : Lane → Lane) (s : State) : ((s.modLane n f).freeLane n).gate =
    { s.gate with lanes := upd s.gate.lanes n fun l => (f l).free s.gate.stuckTime } := by
  rw [freeLane_gate]
  exact congrArg (fun lanes => { s.gate with lanes }) (Lot.upd_upd s.gate.lanes n f _)

/-- The admission parked at its pass: its record is SEATED or WAITING. -/
def parked (a : Fin 1024) (s : State) : State := s.updateAdm a fun x => { x with state := s.lot.parkedState a }

theorem parked_readFrame (a : Fin 1024) (s : State) : s.readFrame (parked a s) := updateAdm_readFrame s a _

/-- The state in which the lane of an entry pass is freed, but for its count of passes. -/
def entered (a : Fin 1024) (s : State) : State := countAdmitted a (occupy a (parked a s))

theorem entryPass_eq (n : Fin 4) (a : Fin 1024) (s : State) : s.entryPass n a =
    ((entered a s).modLane n fun l => { l with passes := countUp l.passes }).freeLane n := by
  unfold State.entryPass entered countAdmitted occupy parked
  cases held : (s.updateAdm a fun x => { x with state := s.lot.parkedState a }).lot.stallHeldBy a with
  | none =>
    cases shown : (s.updateAdm a fun x => { x with state := s.lot.parkedState a }).lot.screenOf a <;>
      simp only [held, shown]
  | some i =>
    cases shown : ((s.updateAdm a fun x => { x with state := s.lot.parkedState a }).holdStall i a
      .occupation).lot.screenOf a <;> simp only [held, shown]

section

variable (a : Fin 1024) (s : State)

theorem parked_lot : (parked a s).lot = s.lot := readFrame_lot (parked_readFrame a s)

theorem gateFrame_countAdmitted : GateFrame s (countAdmitted a s) := by
  unfold countAdmitted
  split <;> rfl

theorem entered_gate : (entered a s).gate = { s.gate with admitted := (entered a s).gate.admitted } := by
  have occupied := (occupy_kept a (parked a s)).1
  obtain ⟨-, -, gate⟩ := countAdmitted_kept a (occupy a (parked a s))
  rw [lotFrame_gate occupied, readFrame_gate (parked_readFrame a s)] at gate
  unfold entered
  exact gate

theorem entered_mem : (entered a s).mem = (parked a s).mem := by
  rw [entered, (countAdmitted_kept a _).2.1, (occupy_kept a _).2.1]

theorem entered_frame : GateFrame s (entered a s) :=
  gateFrame_trans (gateFrame_of_lotFrame (readFrame_lotFrame (parked_readFrame a s)))
    (gateFrame_trans (gateFrame_of_lotFrame (occupy_kept a _).1) (gateFrame_countAdmitted a _))

theorem entered_queues : (entered a s).lot.queues = s.lot.queues := by
  obtain ⟨-, -, -, queues⟩ := occupy_kept a (parked a s)
  rw [entered, (countAdmitted_kept a _).1, queues, parked_lot]

theorem entered_occupants {i : Fin 1024} (h : s.lot.stallHeldBy a = some i) :
    (entered a s).lot.occupants = upd s.lot.occupants i fun _ => some { slot := a, hold := .occupation } := by
  rw [← parked_lot a s] at h
  rw [entered, (countAdmitted_kept a _).1, occupy_occupants h, parked_lot]

theorem entered_admitted {m : Fin 6} (h : s.lot.screenOf a = some m) :
    (entered a s).gate.admitted = upd s.gate.admitted m countUp := by
  obtain ⟨frame, -, fields, queues⟩ := occupy_kept a (parked a s)
  have same := screenOf_congr fields (occupy_slots (a := a) (s := parked a s)) queues a
  rw [parked_lot, h] at same
  unfold entered countAdmitted
  rw [same, modGate_gate, lotFrame_gate frame, readFrame_gate (parked_readFrame a s)]

variable (n : Fin 4)

/-- What an entry pass leaves beside its lane: all that stood when the lane was freed. -/
theorem entryPass_kept : (s.entryPass n a).mem = (entered a s).mem ∧ (s.entryPass n a).lot = (entered a s).lot := by
  rw [entryPass_eq]
  obtain ⟨mem, lot, -⟩ := freeLane_kept n ((entered a s).modLane n fun l => { l with passes := countUp l.passes })
  exact ⟨mem.trans (modGate_mem _ _), lot.trans (modGate_lot _ _)⟩

theorem entryPass_gate : (s.entryPass n a).gate = { s.gate with
    admitted := (entered a s).gate.admitted
    lanes := upd s.gate.lanes n fun l => { l with passes := countUp l.passes }.free s.gate.stuckTime } := by
  rw [entryPass_eq, freeLane_modLane_gate, entered_gate]

theorem entryPass_frame : GateFrame s (s.entryPass n a) := by
  rw [entryPass_eq]
  exact gateFrame_trans (entered_frame a s) (gateFrame_trans (gateFrame_modGate _ _) (gateFrame_freeLane n _))

end

/-! ## Exit passes (R56, R57) -/

theorem exitPass_marked (h : s.mem.admissions[a].marked = true) : s.exitPass n a = s.faultLane n .record := if_pos h

theorem exitPass_leaves (h : s.mem.admissions[a].marked = false) : s.exitPass n a =
    (departed n a s).modLane n fun l => { l with passes := countUp l.passes } := by
  unfold State.exitPass departed
  exact if_neg (ne_true_of_eq_false h)

theorem exitPass_gone (role : s.gate.lanes[n].role ≠ .unused) (h : s.mem.admissions[a].marked = false) :
    s.gone (s.exitPass n a) n a ∧
      (s.exitPass n a).gate.lanes[n].passes = min (s.gate.lanes[n].passes + 1) 65535 := by
  rw [exitPass_leaves h]
  refine ⟨gone_counts (gone_departed role) fun _ => ⟨rfl, rfl, rfl, rfl, rfl, rfl, rfl, rfl⟩, ?_⟩
  rw [modLane_lane, departed_lanes, upd_get, if_pos rfl, (free_counts _ _).1]
  rfl

/-! ## Loop B clears in PASSING (R43, R50, R56) -/

/-- The lane takes the level of loop B, and its stuck timer stops. -/
def Cleared (l : Lane) : Lane :=
  { l with loopB := { l.loopB with level := l.loopB.raw, timer := none }, stuckTimer := none }

theorem exec_presenceTimerExpiry_passing (running : s.sys.phase = .running) (timer : s.gate.lanes[n].loopB.timer ≠ none)
    (raw : s.gate.lanes[n].loopB.raw = false) (passing : s.gate.lanes[n].state = .passing)
    (bound : s.gate.lanes[n].bound = some a) (role : s.gate.lanes[n].role ≠ .unused) :
    exec (.presenceTimerExpiry n .b) s = .next (if s.gate.lanes[n].role = .entry then (s.modLane n Cleared).entryPass n a
      else (s.modLane n Cleared).exitPass n a) := by
  have merged : (qualified n .b s).modLane n (fun l => { l with stuckTimer := none }) = s.modLane n Cleared :=
    modLane_modLane _ _ s
  have event := exec_presenceTimerExpiry (n := n) (loop := .b) running timer
  rw [event, loopEvent_bClear (by rwa [qualified_role]) ((qualified_loopB s).trans raw),
    loopBClears_passing ((qualified_state .b s).trans passing) ((qualified_bound .b s).trans bound), qualified_role,
    merged]

/-- Settles O23: the entry pass by what it leaves of the lane, the lot and the record; the exit pass by the
departure. -/
theorem lanePasses : Obligations.LanePasses := by
  refine fun n a s running timer raw passing bound => ⟨fun role => ?entry, fun role clear => ?exit,
    fun role marked => ?marked⟩
  case entry =>
    have event := exec_presenceTimerExpiry_passing running timer raw passing bound (by rw [role]; decide)
    rw [if_pos role] at event
    obtain ⟨mem, lot⟩ := entryPass_kept a (s.modLane n Cleared) n
    have gate := entryPass_gate a (s.modLane n Cleared) n
    have lane : ((s.modLane n Cleared).entryPass n a).gate.lanes[n] =
        { Cleared s.gate.lanes[n] with passes := countUp s.gate.lanes[n].passes }.free s.gate.stuckTime := by
      rw [gate]
      refine (upd_get_same _ _ _).trans ?_
      rw [modLane_lane]
      rfl
    have used : ({ Cleared s.gate.lanes[n] with passes := countUp s.gate.lanes[n].passes } : Lane).role ≠ .unused := by
      show s.gate.lanes[n].role ≠ .unused
      rw [role]
      decide
    have freed := freed_free s.gate.stuckTime used
    rw [← lane] at freed
    refine ⟨_, event, freed.bound, freed.raise, freed.state, ?passes, fun m hm => ?others, fun i held => ?stall, ?queues,
      ?live, fun m screen => ?admitted, fun clean => ?record, fun marked => ?kept, ?frame⟩
    case passes =>
      rw [lane, (free_counts _ _).1]
      rfl
    case others =>
      rw [gate]
      exact (upd_get_other _ _ _ _ hm.symm).trans (modLane_other hm Cleared s)
    case stall =>
      rw [lot, entered_occupants a (s.modLane n Cleared) held]
      exact ⟨upd_get_same _ _ _, fun j hj => upd_get_other _ _ _ _ hj.symm⟩
    case queues => rw [lot, entered_queues, modLane_lot]
    case live => rw [gate]; rfl
    case admitted =>
      have counted := entered_admitted a (s.modLane n Cleared) (m := m) screen
      rw [gate]
      dsimp only
      rw [counted]
      rfl
    case record =>
      have written := updateAdm_clean (s := s.modLane n Cleared)
        (fun x => { x with state := s.lot.parkedState a }) clean
      have same : ((s.modLane n Cleared).entryPass n a).adm a = (parked a (s.modLane n Cleared)).adm a := by
        rw [State.adm, mem, entered_mem]
        rfl
      rw [same]
      refine written.trans ?_
      rw [parkedState_eq]
      rfl
    case kept =>
      rw [mem, entered_mem]
      have same : parked a (s.modLane n Cleared) = s.modLane n Cleared := updateAdm_marked _ marked
      rw [same, modLane_mem]
    case frame => exact gateFrame_trans (gateFrame_modGate _ s) (entryPass_frame a (s.modLane n Cleared) n)
  case exit =>
    have used : s.gate.lanes[n].role ≠ .unused := by rw [role]; decide
    have event := exec_presenceTimerExpiry_passing running timer raw passing bound used
    rw [if_neg (by rw [role]; decide)] at event
    obtain ⟨gone, passes⟩ := exitPass_gone (s := s.modLane n Cleared) (n := n) (by rw [modLane_lane]; exact used) clear
    rw [modLane_lane] at passes
    exact ⟨_, event, gone_of_modLane gone rfl, passes⟩
  case marked =>
    have event := exec_presenceTimerExpiry_passing running timer raw passing bound (by rw [role]; decide)
    rw [if_neg (by rw [role]; decide), exitPass_marked (s := s.modLane n Cleared) marked, faultLane_modLane _ (show _ = LaneState.passing from passing)] at event
    refine event.trans (congrArg (fun v : State => Host.Outcome.next (v.raiseBooth .laneFault)) (modLane_congr ?_))
    simp only [Cleared, Lane.dropRaise, raw]

end Sys2Proof.Lanes
end

section
/-!
SUPPORT. The returns of an EXIT lane and the tab clears (R33, R54, R55, R143, R150).
-/

namespace Sys2Proof.Lanes

open Sys2Proof Sys2Proof.Machine Sys2Proof.Orders Sys2Proof.Invariants

variable {s t u : State} {n : Fin 4} {a : Fin 1024}

/-! ## The offer of a stall to an admission that returned (R33) -/

theorem spared_searchStalls (a : Fin 1024) (l : List (Fin 1024)) (s : State) : Spared a s (s.searchStalls l).2 := by
  induction l generalizing s with
  | nil => exact spared_refl a s
  | cons i rest ih =>
    have read := spared_readStall a i s
    unfold State.searchStalls
    generalize s.readStall i = r at *
    obtain ⟨x, u⟩ := r
    dsimp only
    split
    · exact read
    · exact spared_trans read (ih u)

theorem spared_searchField (a : Fin 1024) (m : Fin 6) (c : VehicleClass) (s : State) :
    Spared a s (s.searchField m c).2 := by
  have search := spared_searchStalls a
  unfold State.searchField
  cases c with
  | tall => exact search _ s
  | car =>
    have first : Spared a s (s.searchKinds m [.front, .standard]).2 := search _ s
    generalize s.searchKinds m [.front, .standard] = r at *
    obtain ⟨x, u⟩ := r
    cases x with
    | none => exact spared_trans first (search _ u)
    | some i => exact first

theorem writeAdm_adm (f : Admission → Admission) : (s.writeAdm a f).adm a = s.adm a ∨ (s.writeAdm a f).adm a = f (s.adm a) := by
  show (upd s.mem.admissions a _)[a].content = _ ∨ (upd s.mem.admissions a _)[a].content = _
  rw [upd_get, if_pos rfl]
  split
  · exact .inl rfl
  · exact .inr rfl

theorem giveStall_slots (i b : Fin 1024) (x : Admission) (s : State) : SlotsKept s (s.giveStall i b x) := by
  unfold State.giveStall
  cases x.state <;> exact ⟨rfl, rfl, rfl, rfl, rfl⟩

/-- An offer leaves the record as it was, or SEATED in the stall offered. -/
theorem offerReturn_adm (a : Fin 1024) (s : State) : SlotsKept s (s.offerReturn a) ∧
    ((s.offerReturn a).adm a = s.adm a ∨
      ∃ k, (s.offerReturn a).adm a = { s.adm a with stall := k, state := .seated }) := by
  unfold State.offerReturn
  split
  · exact ⟨slotsKept_refl s, .inl rfl⟩
  next m _ =>
    have read := spared_readAdm a a s
    generalize s.readAdm a = r at *
    obtain ⟨x, u⟩ := r
    cases x with
    | none => exact ⟨read.toSlotsKept, .inl read.record⟩
    | some x =>
      have found := spared_trans read (spared_searchField a m x.cls u)
      dsimp only at found ⊢
      generalize u.searchField m x.cls = q at *
      obtain ⟨i, v⟩ := q
      cases i with
      | none => exact ⟨found.toSlotsKept, .inl found.record⟩
      | some i =>
        refine ⟨slotsKept_trans found.toSlotsKept (giveStall_slots i a _ v), ?_⟩
        dsimp only at found ⊢
        rw [Lot.giveStall_waiting rfl, ← found.record]
        exact (writeAdm_adm (s := (v.modLot (LotMap.leaveQueue a)).holdStall i a .occupation)
          (fun y => { y with stall := some (v.lot.numberOf i), state := .seated })).imp_right fun h => ⟨_, h⟩

/-! ## A return (R54, R55) -/

/-- The record and the lane of a return, before a stall is offered. -/
def returned (n : Fin 4) (a : Fin 1024) (s : State) : State :=
  (s.writeAdm a fun x => { x with state := s.lot.parkedState a, exitLane := none }).modLane n fun l =>
    { l.dropRaise with
      state := .idle, bound := none, voidTimer := none, returnTimer := none, voids := countUp l.voids }

theorem returnAdm_eq (n : Fin 4) (a : Fin 1024) (s : State) : s.returnAdm n a =
    if s.lot.parkedState a = .waiting then (returned n a s).offerReturn a else returned n a s := by
  unfold State.returnAdm returned
  rfl

theorem returned_clean (h : s.admClean a) : (returned n a s).adm a =
    { s.adm a with state := s.lot.parkedState a, exitLane := none } := by
  have written := updateAdm_clean (fun x => { x with state := s.lot.parkedState a, exitLane := none }) h
  unfold State.updateAdm at written
  rw [readAdm_clean h] at written
  exact written

theorem returned_slots (n : Fin 4) (a : Fin 1024) (s : State) : SlotsKept s (returned n a s) := by
  unfold returned
  generalize s.lot.parkedState a = st
  exact ⟨rfl, rfl, rfl, rfl, rfl⟩

theorem returned_frame (n : Fin 4) (a : Fin 1024) (s : State) : GateFrame s (returned n a s) := by
  unfold returned
  generalize s.lot.parkedState a = st
  rfl

theorem parkedState_or (l : LotMap) (a : Fin 1024) : l.parkedState a = .seated ∨ l.parkedState a = .waiting := by
  rw [parkedState_eq]
  split
  · exact .inr rfl
  · exact .inl rfl

theorem returnAdm_slots (n : Fin 4) (a : Fin 1024) (s : State) : SlotsKept s (s.returnAdm n a) := by
  rw [returnAdm_eq]
  split
  · exact slotsKept_trans (returned_slots n a s) (offerReturn_adm a _).1
  · exact returned_slots n a s

theorem returnAdm_frame (n : Fin 4) (a : Fin 1024) (s : State) : GateFrame s (s.returnAdm n a) := by
  have before := returned_frame n a s
  rw [returnAdm_eq]
  split
  · exact gateFrame_trans before (gateFrame_of_lotFrame (offerReturn_lotFrame _ a))
  · exact before

theorem returnAdm_adm (h : s.admClean a) : ((s.returnAdm n a).adm a).exitLane = none ∧
    (((s.returnAdm n a).adm a).state = .seated ∨ ((s.returnAdm n a).adm a).state = .waiting) := by
  have record := returned_clean (n := n) h
  rw [returnAdm_eq]
  split
  next waiting =>
    obtain ⟨-, same | ⟨k, seated⟩⟩ := offerReturn_adm a (returned n a s)
    · rw [same, record]
      dsimp only
      exact ⟨rfl, .inr waiting⟩
    · rw [seated, record]
      exact ⟨rfl, .inl rfl⟩
  next =>
    rw [record]
    dsimp only
    exact ⟨rfl, parkedState_or _ _⟩

theorem returnAdm_held (h : s.admClean a) (held : s.lot.stallHeldBy a ≠ none) :
    (s.returnAdm n a).adm a = { s.adm a with state := .seated, exitLane := none } ∧ (s.returnAdm n a).lot = s.lot := by
  have seated : s.lot.parkedState a = .seated := by rw [parkedState_eq, if_neg held]
  have record := returned_clean (n := n) h
  rw [returnAdm_eq, seated, if_neg (by decide), record, seated]
  exact ⟨rfl, rfl⟩

/-- The lane that a return leaves. -/
theorem returnAdm_lane (n : Fin 4) (a : Fin 1024) (s : State) : (s.returnAdm n a).gate.lanes[n] =
    { s.gate.lanes[n] with
      state := .idle, bound := none, raise := false, barrierTimer := none, voidTimer := none
      returnTimer := none, voids := min (s.gate.lanes[n].voids + 1) 65535 } := by
  rw [returnAdm_gate]
  exact upd_get_same _ _ _

theorem returnAdm_other {m : Fin 4} (h : m ≠ n) (a : Fin 1024) (s : State) :
    (s.returnAdm n a).gate.lanes[m] = s.gate.lanes[m] := by
  rw [returnAdm_gate]
  exact upd_get_other _ _ _ _ h.symm

/-! ## COLLECT (R143) -/

section

variable {j k : Fin 256} {f : Order → Order}

theorem readOrder_order (j k : Fin 256) (s : State) : (s.readOrder j).2.order k = s.order k := by
  unfold State.readOrder
  dsimp only
  split
  · rfl
  · split
    · rfl
    · exact upd_content (by exact fun _ => rfl)
    · exact upd_content (by exact fun _ => rfl)

theorem readOrder_other (h : j ≠ k) (s : State) : (s.readOrder j).2.mem.orders[k] = s.mem.orders[k] := by
  unfold State.readOrder
  dsimp only
  split
  · rfl
  · split
    · rfl
    · exact upd_get_other _ _ _ _ h
    · exact upd_get_other _ _ _ _ h

theorem writeOrder_other (h : j ≠ k) (f : Order → Order) (s : State) :
    (s.writeOrder j f).mem.orders[k] = s.mem.orders[k] := upd_get_other _ _ _ _ h

theorem writeOrder_order (f : Order → Order) (s : State) :
    (s.writeOrder k f).order k = s.order k ∨ (s.writeOrder k f).order k = f (s.order k) := by
  show (upd s.mem.orders k _)[k].content = _ ∨ (upd s.mem.orders k _)[k].content = _
  rw [upd_get, if_pos rfl]
  split
  · exact .inl rfl
  · exact .inr rfl

theorem writeOrder_unmarked (f : Order → Order) (h : s.mem.orders[k].marked = false) :
    (s.writeOrder k f).order k = f (s.order k) := by
  show (upd s.mem.orders k _)[k].content = _
  rw [upd_get, if_pos rfl, if_neg (ne_true_of_eq_false h)]
  rfl

theorem updateOrder_other (h : j ≠ k) (f : Order → Order) (s : State) :
    (s.updateOrder j f).mem.orders[k] = s.mem.orders[k] := (writeOrder_other h f _).trans (readOrder_other h s)

theorem updateOrder_order (j : Fin 256) (f : Order → Order) (s : State) :
    (s.updateOrder j f).order k = s.order k ∨ (s.updateOrder j f).order k = f (s.order k) := by
  by_cases same : j = k
  · subst same
    rw [← readOrder_order j j s]
    exact writeOrder_order f _
  · exact .inl (congrArg Slot.content (updateOrder_other same f s))

theorem updateOrder_clean (f : Order → Order) (h : s.orderClean k) : (s.updateOrder k f).order k = f (s.order k) := by
  unfold State.updateOrder
  rw [readOrder_clean h]
  exact writeOrder_unmarked f h.1

/-- COLLECT cleared. -/
def uncollected (x : Order) : Order := { x with collect := false }

theorem clearCollect_cons (h : OrderHandle) (rest : List OrderHandle) (s : State) :
    s.clearCollect (h :: rest) = (s.updateOrder h.slot uncollected).clearCollect rest := rfl

theorem clearCollect_order (l : List OrderHandle) (s : State) :
    (s.clearCollect l).order k = s.order k ∨ (s.clearCollect l).order k = uncollected (s.order k) := by
  induction l generalizing s with
  | nil => exact .inl rfl
  | cons h rest ih =>
    rw [clearCollect_cons]
    obtain later | later := ih (s.updateOrder h.slot uncollected) <;> rw [later]
    · exact updateOrder_order h.slot uncollected s
    · obtain now | now := updateOrder_order (k := k) h.slot uncollected s <;> rw [now] <;> exact .inr rfl

theorem clearCollect_clean {h : OrderHandle} {l : List OrderHandle} (hl : h ∈ l) (clean : s.orderClean h.slot) :
    (s.clearCollect l).order h.slot = uncollected (s.order h.slot) := by
  induction l generalizing s with
  | nil => cases hl
  | cons g rest ih =>
    rw [clearCollect_cons]
    by_cases same : g.slot = h.slot
    · have now : (s.updateOrder g.slot uncollected).order h.slot = uncollected (s.order h.slot) := by
        rw [same]
        exact updateOrder_clean uncollected clean
      obtain later | later := clearCollect_order (k := h.slot) rest (s.updateOrder g.slot uncollected) <;>
        rw [later, now]
      rfl
    · have slot := updateOrder_other same uncollected s
      have rest : h ∈ rest := (List.mem_cons.mp hl).resolve_left fun eq => same (congrArg OrderHandle.slot eq.symm)
      rw [ih rest (by unfold State.orderClean; rw [slot]; exact clean)]
      exact congrArg (fun x : Slot Order => uncollected x.content) slot

end

theorem clearCollect_readFrame (l : List OrderHandle) (s : State) : s.readFrame (s.clearCollect l) :=
  each_readFrame (fun _ _ => updateOrder_readFrame _ _ _) l s

/-! ## Loop A clears in PAYING (R54, R143) -/

/-- The state in which the admission is returned from the window. -/
def windowLeft (a : Fin 1024) (s : State) : State :=
  let (x, u) := s.readAdm a
  let (orders, v) := u.ordersOf a x
  v.clearCollect orders

theorem leaveWindow_eq (n : Fin 4) (a : Fin 1024) (s : State) : s.leaveWindow n a = (windowLeft a s).returnAdm n a := by
  unfold State.leaveWindow windowLeft
  rfl

theorem ordersOf_readFrame (a : Fin 1024) (x : Option Admission) (s : State) : s.readFrame (s.ordersOf a x).2 := by
  cases x with
  | none => exact readOrders_readFrame _ s
  | some x => exact readFrame_refl s

theorem windowLeft_readFrame (a : Fin 1024) (s : State) : s.readFrame (windowLeft a s) := by
  have read := readAdm_readFrame s a
  unfold windowLeft
  generalize s.readAdm a = r at *
  obtain ⟨x, u⟩ := r
  have orders := readFrame_trans read (ordersOf_readFrame a x u)
  dsimp only at orders ⊢
  generalize u.ordersOf a x = q at *
  obtain ⟨l, v⟩ := q
  exact readFrame_trans orders (clearCollect_readFrame l v)

theorem windowLeft_clean (h : s.admClean a) : windowLeft a s = s.clearCollect (s.adm a).orders := by
  unfold windowLeft
  rw [readAdm_clean h]
  rfl

theorem clearCollect_admissions (l : List OrderHandle) (s : State) :
    (s.clearCollect l).mem.admissions = s.mem.admissions := by
  induction l generalizing s with
  | nil => rfl
  | cons h rest ih =>
    rw [clearCollect_cons, ih]
    show (s.readOrder h.slot).2.mem.admissions = _
    unfold State.readOrder
    dsimp only
    split
    · rfl
    · split <;> rfl

theorem leaveWindow_gate (n : Fin 4) (a : Fin 1024) (s : State) : (s.leaveWindow n a).gate = { s.gate with
    lanes := upd s.gate.lanes n fun l => { l with
      state := .idle, bound := none, raise := false, barrierTimer := none, voidTimer := none
      returnTimer := none, voids := min (l.voids + 1) 65535 } } := by
  rw [leaveWindow_eq, returnAdm_gate, readFrame_gate (windowLeft_readFrame a s)]
  rfl

theorem leaveWindow_frame (n : Fin 4) (a : Fin 1024) (s : State) : GateFrame s (s.leaveWindow n a) := by
  rw [leaveWindow_eq]
  exact gateFrame_trans (gateFrame_of_lotFrame (readFrame_lotFrame (windowLeft_readFrame a s))) (returnAdm_frame n a _)

theorem leaveWindow_records (n : Fin 4) (h : s.tabClean a) : ((s.leaveWindow n a).adm a).exitLane = none ∧
    (((s.leaveWindow n a).adm a).state = .seated ∨ ((s.leaveWindow n a).adm a).state = .waiting) ∧
    ∀ h ∈ (s.adm a).orders, (s.leaveWindow n a).order h.slot = { s.order h.slot with collect := false } := by
  obtain ⟨adm, orders⟩ := h
  have kept := clearCollect_admissions (s.adm a).orders s
  have clean : (s.clearCollect (s.adm a).orders).admClean a := by
    unfold State.admClean
    rw [kept]
    exact adm
  rw [leaveWindow_eq, windowLeft_clean adm]
  obtain ⟨lane, state⟩ := returnAdm_adm (n := n) clean
  refine ⟨lane, state, fun h mem => ?_⟩
  have same := congrArg (fun v => v[h.slot].content) (returnAdm_slots n a (s.clearCollect (s.adm a).orders)).orders
  exact same.trans (clearCollect_clean mem (orders h mem))

/-! ## Tab clears (R54, R150) -/

theorem exec_returnTimerExpiry (running : s.sys.phase = .running) (timer : s.gate.lanes[n].returnTimer ≠ none)
    (leaving : s.gate.lanes[n].state = .leaving) (bound : s.gate.lanes[n].bound = some a) :
    exec (.returnTimerExpiry n) s = .next ((s.readAdm a).2.returnAdm n a) := by
  refine congrArg Host.Outcome.next ((whileRunning_running _ _ running).trans
    ((if_pos ⟨Shows.isSome_of_ne_none timer, leaving⟩).trans ?_))
  rw [bound]

variable {h : AdmHandle}

/-- The oldest tab clear of a lane. -/
theorem find?_oldest {before after : List (Fin 4 × AdmHandle)} (other : ∀ c ∈ before, c.1 ≠ n) :
    (before ++ (n, h) :: after).find? (fun c => c.1 = n) = some (n, h) := by
  rw [List.find?_append, List.find?_eq_none.mpr fun c hc => by simpa using other c hc]
  simp

theorem erase_oldest {before after : List (Fin 4 × AdmHandle)} (other : ∀ c ∈ before, c.1 ≠ n) :
    (before ++ (n, h) :: after).erase (n, h) = before ++ after := by
  rw [List.erase_append_right _ fun mem => other _ mem rfl, List.erase_cons_head]

theorem exec_tabClear {before after : List (Fin 4 × AdmHandle)} (running : s.sys.phase = .running)
    (clears : s.ords.tabClears = before ++ (n, h) :: after) (other : ∀ c ∈ before, c.1 ≠ n) :
    exec (.tabClear n) s =
      .next (({ s with ords := { s.ords with tabClears := before ++ after } } : State).takeTabClear n h) := by
  refine congrArg Host.Outcome.next ((whileRunning_running _ _ running).trans ?_)
  dsimp only
  rw [clears, find?_oldest other]
  dsimp only [State.modOrds]
  rw [clears, erase_oldest other]

theorem takeTabClear_takes (h : AdmHandle) (paying : s.gate.lanes[n].state = .paying)
    (bound : s.gate.lanes[n].bound = some h.slot) (gen : s.mem.admGen[h.slot] = h.gen) : s.takeTabClear n h =
      ((s.updateAdm h.slot fun x => { x with state := .leaving }).modLane n fun l => { l with
        state := .leaving, raise := true
        barrierTimer := if l.up then none else some (s.gate.barrierTime * 1000) }).raiseBooth .exitCleared :=
  if_pos ⟨paying, bound, gen⟩

/-- Settles O25: each return by its record and its lane, and the tab clear by the lane that it reaches. -/
theorem returnsAndTabClear : Obligations.ReturnsAndTabClear := by
  refine ⟨fun n a s running timer leaving bound => ⟨_, exec_returnTimerExpiry running timer leaving bound, ?timer⟩,
    fun n a s running timer raw role paying bound => ?window,
    fun n h before after s running clears other => ⟨fun paying bound gen => ?takes, fun ignored => ?ignores⟩⟩
  case timer =>
    have read := readAdm_readFrame s a
    have lane := returnAdm_lane n a (s.readAdm a).2
    rw [readFrame_gate read] at lane
    refine ⟨lane, fun m hm => (returnAdm_other hm a _).trans (by rw [readFrame_gate read]), fun clean => ?_,
      fun clean held => ?_, gateFrame_trans (gateFrame_of_lotFrame (readFrame_lotFrame read)) (returnAdm_frame n a _)⟩
    · rw [readAdm_clean clean]
      exact returnAdm_adm clean
    · rw [readAdm_clean clean]
      exact returnAdm_held clean held
  case window =>
    have event := exec_presenceTimerExpiry (n := n) (loop := .a) running timer
    rw [loopEvent_aClear (by rw [qualified_role, role]; decide) ((qualified_loopA s).trans raw),
      loopAClears_paying ((qualified_state .a s).trans paying) ((qualified_bound .a s).trans bound)] at event
    have gate := leaveWindow_gate n a (qualified n .a s)
    refine ⟨_, event, ?_, fun m hm => ?_, fun clean => leaveWindow_records n (s := qualified n .a s) clean,
      gateFrame_trans (gateFrame_modGate _ s) (leaveWindow_frame n a _)⟩
    · rw [gate]
      refine (upd_get_same _ _ _).trans ?_
      rw [qualified_lane, ← raw]
      rfl
    · rw [gate]
      exact (upd_get_other _ _ _ _ hm.symm).trans (modLane_other hm _ s)
  case takes =>
    rw [exec_tabClear running clears other]
    exact congrArg Host.Outcome.next (takeTabClear_takes h paying bound gen)
  case ignores =>
    rw [exec_tabClear running clears other]
    exact congrArg Host.Outcome.next (if_neg ignored)

end Sys2Proof.Lanes
end

section
/-!
SUPPORT. ADMIT (R47, R48): its checks in order, and what it does.
-/

namespace Sys2Proof.Lanes

open Sys2Proof Sys2Proof.Machine Sys2Proof.Orders Sys2Proof.Invariants

variable {s t u : State} {l : Fin 4} {n : Fin 6} {a : Fin 1024}

/-! ## Checks in order -/

/-- The refusal by the first check that fails, and else what is done. -/
def checked (checks : List (Bool × Status)) (s : State) (done : Reply) : Reply :=
  ((firstFailing checks).map s.refuse).getD done

theorem checked_nil (s : State) (done : Reply) : checked [] s done = done := rfl

theorem checked_cons (fails : Bool) (status : Status) (checks : List (Bool × Status)) (s : State) (done : Reply) :
    checked ((fails, status) :: checks) s done = if fails then s.refuse status else checked checks s done := by
  unfold checked
  rw [firstFailing_cons]
  cases fails <;> rfl

theorem checked_refused {checks : List (Bool × Status)} {status : Status} (done : Reply)
    (h : firstFailing checks = some status) : checked checks s done = s.refuse status := by
  unfold checked
  rw [h]
  rfl

theorem checked_passed {checks : List (Bool × Status)} (done : Reply) (h : firstFailing checks = none) :
    checked checks s done = done := by
  unfold checked
  rw [h]
  rfl

/-! ## The checks of ADMIT (R47) -/

theorem takesCars_iff (st : ShowState) : st.takesCars = false ↔ st = .dark ∨ st = .ended := by
  cases st <;> simp [ShowState.takesCars]

theorem active_iff (d : Fin 8) (s : State) : s.active d = true ↔ s.doms.domains[d].state = .active := decide_eq_true_iff

/-- The checks of ADMIT at lane `l` for screen `n`. -/
def admitChecks (s : State) (l : Fin 4) (n : Fin 6) : List (Bool × Status) :=
  let r := s.gate.lanes[l]
  [(decide (s.night.state ≠ .opened), .closed), (decide (r.role ≠ .entry), .badState),
    (decide (r.bound ≠ none), .busy), (decide (r.state ≠ .present), .noVehicle),
    (decide (r.passes = 65535), .full),
    (decide (s.lot.fields[n] = none ∨ s.shows.screens[n].state = .dark ∨
      s.shows.screens[n].state = .ended), .closed),
    (decide (s.doms.domains[screenDomain n].state ≠ .active ∨ s.doms.domains[gates].state ≠ .active),
      .domainDown),
    (decide (s.mem.admFree = []), .full)]

/-- What ADMIT does once a stall, a place in the queue, or neither is found. -/
def admitted (a : Fin 1024) (l : Fin 4) (n : Fin 6) (c : VehicleClass) : Allocation × State → Reply
  | (.refused status, u) => u.refuse status
  | (x, u) => (u.admitIn a l n c x).ok (u.admitAnswer a n x)

theorem admitCommand_badParam {lane screen cls : Byte} (stall : Word16)
    (h : numbered 4 lane = none ∨ numbered 6 screen = none ∨ VehicleClass.ofByte cls = none) :
    admitCommand lane screen cls stall s = s.refuse .badParam := by
  unfold admitCommand
  split
  next hl hn hc =>
    rw [hl, hn, hc] at h
    exact (h.elim nofun (·.elim nofun nofun))
  next => rfl

section

variable {lane screen cls : Byte} {c : VehicleClass} (stall : Word16) (hl : numbered 4 lane = some l)
  (hn : numbered 6 screen = some n) (hc : VehicleClass.ofByte cls = some c)

include hl hn hc

theorem admitCommand_full (free : s.mem.admFree = []) :
    admitCommand lane screen cls stall s = checked (admitChecks s l n) s (s.refuse .full) := by
  simp only [admitCommand, hl, hn, hc, admitChecks, checked_cons, checked_nil, decide_eq_true_eq,
    Option.isSome_iff_ne_none, Option.isNone_iff_eq_none, takesCars_iff, active_iff, not_and_or, ne_eq,
    Config.countLimit, free, if_true]

theorem admitCommand_free {rest : List (Fin 1024)} (free : s.mem.admFree = a :: rest) :
    admitCommand lane screen cls stall s =
      checked (admitChecks s l n) s (admitted a l n c (s.allocate screen n stall c)) := by
  simp only [admitCommand, hl, hn, hc, admitChecks, checked_cons, checked_nil, decide_eq_true_eq,
    Option.isSome_iff_ne_none, Option.isNone_iff_eq_none, takesCars_iff, active_iff, not_and_or, ne_eq,
    Config.countLimit, free, reduceCtorEq, if_false]
  generalize s.allocate screen n stall c = r
  obtain ⟨x, u⟩ := r
  cases x <;> rfl

theorem admitCommand_refused {status : Status} (h : firstFailing (admitChecks s l n) = some status) :
    admitCommand lane screen cls stall s = s.refuse status := by
  cases free : s.mem.admFree with
  | nil => rw [admitCommand_full stall hl hn hc free, checked_refused _ h]
  | cons a rest => rw [admitCommand_free stall hl hn hc free, checked_refused _ h]

theorem admitCommand_passed {rest : List (Fin 1024)} (h : firstFailing (admitChecks s l n) = none)
    (free : s.mem.admFree = a :: rest) :
    admitCommand lane screen cls stall s = admitted a l n c (s.allocate screen n stall c) := by
  rw [admitCommand_free stall hl hn hc free, checked_passed _ h]

end

/-! ## The effects of ADMIT (R48) -/

theorem allocate_lotFrame (screen : Byte) (n : Fin 6) (stall : Word16) (c : VehicleClass) (s : State) :
    s.lotFrame (s.allocate screen n stall c).2 := by
  unfold State.allocate
  split
  · have search := searchField_lotFrame n c s
    generalize s.searchField n c = r at *
    obtain ⟨i, u⟩ := r
    cases i <;> exact search
  · split
    · exact lotFrame_refl s
    · exact readStall_lotFrame s _

/-- The record of a new admission, as the state of the command has it. -/
theorem newAdm_eq (frame : s.lotFrame u) (n : Fin 6) (c : VehicleClass) (l : Fin 4) (k : Option Nat) :
    u.newAdm n c l k =
      { state := .issued, cls := c, screen := n, stall := k, entryLane := l, entryTime := s.night.clock
        exitLane := none, owed := 0, orders := [] } := by
  rw [State.newAdm, lotFrame_night frame]

theorem ticketChannel_eq (frame : s.lotFrame u) (n : Fin 6) : u.ticketChannel n =
    match s.chans.sounds[n].sound with
    | .live k => byte1 (k.val + 1)
    | .announce _ k _ => byte1 (k.val + 1)
    | .off | .failed => 0 := by
  rw [State.ticketChannel, lotFrame_chans frame]
  cases s.chans.sounds[n].sound <;> rfl

/-- Settles O26: the checks by their order, and the effects by what the allocation found. -/
theorem admitsCars : Obligations.Admit := by
  refine fun lane screen cls stall s ht => ⟨fun bad => next_command_of_block ht (admitCommand_badParam stall bad),
    fun l n c hl hn hc => ⟨fun status h => next_command_of_block ht (admitCommand_refused stall hl hn hc h),
      fun h a rest u free => ?_⟩⟩
  have passed := admitCommand_passed stall hl hn hc h free
  refine ⟨fun status hr => ?refused, fun i hr => ?stall, fun hr => ?queued⟩
  all_goals
    have frame := allocate_lotFrame screen n stall c s
    rw [hr] at frame passed
  case refused => exact next_command_of_block ht passed
  case stall | queued =>
    have answered := next_command_of_block ht passed
    dsimp only [admitted, State.admitIn, State.admitAnswer] at answered
    rw [newAdm_eq frame, ticketChannel_eq frame, lotFrame_gate frame] at answered
    exact answered

end Sys2Proof.Lanes
end

section
/-!
SUPPORT. The retirement of orders off the list of their admission (R126, R142, R143, R151): what it leaves of the record
memory, and the order table's part of EXIT.
-/

namespace Sys2Proof.TabOrders

open Sys2Proof Sys2Proof.Machine Sys2Proof.Orders Sys2Proof.Retiring

variable {s t u : State} {a : Fin 1024} {k : Fin 256} {c d : List (Fin 256)}

/-! ## Orders dropped off a list -/

/-- From `s` to `t` the orders of `c` were retired in turn and taken off the list of admission slot `a`. -/
structure Dropped (a : Fin 1024) (c : List (Fin 256)) (s t : State) : Prop where
  slot : ∀ k ∈ c, t.mem.orders[k].content = Order.freePattern ∧ t.mem.orders[k].marked = false ∧
    t.mem.orderGen[k] = s.mem.orderGen[k] + 1
  other : ∀ k, k ∉ c → t.mem.orders[k] = s.mem.orders[k] ∧ t.mem.orderGen[k] = s.mem.orderGen[k]
  free : t.mem.orderFree = s.mem.orderFree ++ c
  marked : t.mem.admissions[a].marked = s.mem.admissions[a].marked
  record : s.mem.admissions[a].marked = false →
    t.adm a = { s.adm a with orders := (s.adm a).orders.filter fun h => h.slot ∉ c }
  admissions : ∀ b : Fin 1024, b ≠ a → t.mem.admissions[b] = s.mem.admissions[b]
  admFree : t.mem.admFree = s.mem.admFree
  admGen : t.mem.admGen = s.mem.admGen
  stalls : t.mem.stalls = s.mem.stalls

theorem dropped_nil (a : Fin 1024) (s : State) : Dropped a [] s s where
  slot _ h := by cases h
  other _ _ := ⟨rfl, rfl⟩
  free := (List.append_nil _).symm
  marked := rfl
  record _ := by simp
  admissions _ _ := rfl
  admFree := rfl
  admGen := rfl
  stalls := rfl

theorem dropped_trans (h : Dropped a c s t) (g : Dropped a d t u) (apart : ∀ k ∈ c, k ∉ d) : Dropped a (c ++ d) s u where
  slot k hk := by
    obtain hc | hd := List.mem_append.mp hk
    · obtain ⟨slot, gen⟩ := g.other k (apart k hc)
      rw [slot, gen]
      exact h.slot k hc
    · have before := (h.other k fun hc => apart k hc hd).2
      rw [← before]
      exact g.slot k hd
  other k hk := by
    obtain ⟨hc, hd⟩ := not_or.mp (mt List.mem_append.mpr hk)
    obtain ⟨slot, gen⟩ := g.other k hd
    rw [slot, gen]
    exact h.other k hc
  free := by rw [g.free, h.free, List.append_assoc]
  marked := g.marked.trans h.marked
  record clear := by
    rw [g.record (h.marked.trans clear), h.record clear]
    simp only [List.filter_filter, List.mem_append, not_or, Bool.decide_and, Bool.and_comm]
  admissions b hb := (g.admissions b hb).trans (h.admissions b hb)
  admFree := g.admFree.trans h.admFree
  admGen := g.admGen.trans h.admGen
  stalls := g.stalls.trans h.stalls

/-- Only the record memory counts. -/
theorem dropped_of_mem (h : Dropped a c s t) (mem : u.mem = t.mem) : Dropped a c s u := by
  obtain ⟨slot, other, free, marked, record, admissions, admFree, admGen, stalls⟩ := h
  unfold State.adm at record
  rw [← mem] at slot other free marked record admissions admFree admGen stalls
  exact ⟨slot, other, free, marked, record, admissions, admFree, admGen, stalls⟩

theorem dropped_slot (a : Fin 1024) (k : Fin 256) (s : State) : Dropped a [k] s ((s.leaveList a k).retireOrderSlot k) := by
  obtain ⟨admissions, admFree, admGen, stalls⟩ : ((s.leaveList a k).retireOrderSlot k).mem.admissions =
      (s.leaveList a k).mem.admissions ∧ ((s.leaveList a k).retireOrderSlot k).mem.admFree = s.mem.admFree ∧
      ((s.leaveList a k).retireOrderSlot k).mem.admGen = s.mem.admGen ∧
      ((s.leaveList a k).retireOrderSlot k).mem.stalls = s.mem.stalls := by
    unfold State.retireOrderSlot State.unmarkOrder
    split <;> exact ⟨rfl, rfl, rfl, rfl⟩
  have gen := retireOrderSlot_gen k (s.leaveList a k)
  refine {
    slot := fun j hj => ?_, other := fun j hj => ?_, free := retireOrderSlot_free k _, marked := ?_, record := fun clear => ?_
    admissions := fun b hb => ?_, admFree, admGen, stalls }
  · rw [List.mem_singleton] at hj
    subst hj
    rw [retireOrderSlot_slot, gen]
    exact ⟨rfl, rfl, upd_get_same _ _ _⟩
  · have hj : j ≠ k := mt List.mem_singleton.mpr hj
    rw [retireOrderSlot_other hj, gen]
    exact ⟨rfl, upd_get_other _ _ _ _ hj.symm⟩
  · rw [admissions]
    show (upd s.mem.admissions a _)[a].marked = _
    rw [upd_get, if_pos rfl]
    split <;> rfl
  · show ((s.leaveList a k).retireOrderSlot k).mem.admissions[a].content = _
    rw [admissions, leaveList_eq]
    show (upd s.mem.admissions a _)[a].content = _
    rw [upd_get, if_pos rfl, if_neg (ne_true_of_eq_false clear)]
    simp only [List.mem_singleton]
    rfl
  · rw [admissions]
    exact upd_get_other _ _ _ _ hb.symm

theorem examineClose_mem (s : State) : s.examineClose.mem = s.mem := showFrame_mem (examineClose_showFrame s)

theorem retireOrder_mem (k : Fin 256) (s : State) : (s.retireOrder k).mem = (s.retireOrderSlot k).mem := by
  rw [retireOrder_eq, examineClose_mem]

theorem dropped_retireOrder (a : Fin 1024) (k : Fin 256) (s : State) :
    Dropped a [k] s ((s.leaveList a k).retireOrder k) := dropped_of_mem (dropped_slot a k s) (retireOrder_mem k _)

/-- Orders of distinct slots, each dropped in turn. -/
theorem dropped_each {f : Fin 256 × Order → State → State} (h : ∀ o s, Dropped a [o.1] s (f o s))
    {l : List (Fin 256 × Order)} (nodup : (l.map Prod.fst).Nodup) (s : State) :
    Dropped a (l.map Prod.fst) s (s.each l f) := by
  induction l generalizing s with
  | nil => exact dropped_nil a s
  | cons o rest ih =>
    obtain ⟨fresh, rest⟩ := List.nodup_cons.mp nodup
    exact dropped_trans (h o s) (ih rest (f o s)) fun k hk => by
      rw [List.mem_singleton] at hk
      subst hk
      exact fresh

end Sys2Proof.TabOrders
end

section
/-!
SUPPORT. The order table's part of EXIT: PLACED orders cancelled, COLLECT on the rest (R142, R143).
-/

namespace Sys2Proof.TabOrders

open Sys2Proof Sys2Proof.Machine Sys2Proof.Orders Sys2Proof.Retiring

variable {s t u : State} {a : Fin 1024} {k : Fin 256} {c d : List (Fin 256)}

/-! ## Orders written -/

theorem each_cons {α : Type} (o : α) (rest : List α) (f : α → State → State) (s : State) :
    s.each (o :: rest) f = (f o s).each rest f := rfl

/-- A write of orders changes the order slots and nothing else. -/
theorem writeOrders_eq (f : Order → Order) (l : List (Fin 256 × Order)) (s : State) :
    s.each l (fun o s => s.writeOrder o.1 f) =
      { s with mem := { s.mem with orders := (s.each l fun o s => s.writeOrder o.1 f).mem.orders } } := by
  induction l generalizing s with
  | nil => rfl
  | cons o rest ih =>
    rw [each_cons]
    exact ih (s.writeOrder o.1 f)

theorem writeOrders_other (f : Order → Order) {l : List (Fin 256 × Order)} (h : k ∉ l.map Prod.fst) (s : State) :
    (s.each l fun o s => s.writeOrder o.1 f).mem.orders[k] = s.mem.orders[k] := by
  induction l generalizing s with
  | nil => rfl
  | cons o rest ih =>
    obtain ⟨first, later⟩ := not_or.mp (mt List.mem_cons.mpr h)
    exact (ih later (s.writeOrder o.1 f)).trans (Lanes.writeOrder_other (Ne.symm first) f s)

theorem writeOrder_marked (j k : Fin 256) (f : Order → Order) (s : State) :
    (s.writeOrder j f).mem.orders[k].marked = s.mem.orders[k].marked := by
  show (upd s.mem.orders j _)[k].marked = _
  rw [upd_get]
  split
  next same =>
    subst same
    split <;> rfl
  next => rfl

/-- A list of orders written by a change that may as well be made twice. -/
theorem writeOrders_order {f : Order → Order} (again : ∀ x, f (f x) = f x) {l : List (Fin 256 × Order)}
    (h : k ∈ l.map Prod.fst) (clear : s.mem.orders[k].marked = false) :
    (s.each l fun o s => s.writeOrder o.1 f).order k = f (s.order k) := by
  induction l generalizing s with
  | nil => cases h
  | cons o rest ih =>
    have still : (s.writeOrder o.1 f).mem.orders[k].marked = false := (writeOrder_marked o.1 k f s).trans clear
    rw [each_cons]
    by_cases same : k = o.1
    · subst same
      have first := Lanes.writeOrder_unmarked f clear
      by_cases later : o.1 ∈ rest.map Prod.fst
      · rw [ih later still, first, again]
      · exact (congrArg Slot.content (writeOrders_other f later _)).trans first
    · have slot := Lanes.writeOrder_other (Ne.symm same) f s
      rw [ih ((List.mem_cons.mp h).resolve_left same) still]
      exact congrArg (fun x : Slot Order => f x.content) slot

/-! ## Orders cancelled (R142) -/

/-- From `s` to `t` the orders of `c` left the kitchen queue and their runners. -/
structure LeftKitchen (c : List (Fin 256)) (s t : State) : Prop where
  kitchen : t.ords.kitchen = s.ords.kitchen.filter fun k => k ∉ c
  runners : ∀ r : Fin 12, (∀ k ∈ c, k ∉ s.ords.runners[r].carried) → t.ords.runners[r] = s.ords.runners[r]
  frame : t = { s with mem := t.mem, ords := { s.ords with kitchen := t.ords.kitchen, runners := t.ords.runners } }

theorem leftKitchen_nil (s : State) : LeftKitchen [] s s where
  kitchen := by simp
  runners _ _ := rfl
  frame := rfl

theorem leftKitchen_trans (h : LeftKitchen c s t) (g : LeftKitchen d t u) : LeftKitchen (c ++ d) s u where
  kitchen := by
    rw [g.kitchen, h.kitchen]
    simp only [List.filter_filter, List.mem_append, not_or, Bool.decide_and, Bool.and_comm]
  runners r hr := by
    have before := h.runners r fun k hk => hr k (List.mem_append_left d hk)
    rw [← before]
    exact g.runners r fun k hk => by
      rw [before]
      exact hr k (List.mem_append_right c hk)
  frame := by
    have frame := g.frame
    rw [h.frame] at frame
    exact frame

theorem examineClose_live (h : s.mem.admFree.length ≠ 1024) : s.examineClose = s :=
  examineClose_kept fun closes => h closes.2.1

theorem dropped_cancelPlaced (a : Fin 1024) (k : Fin 256) (s : State) : Dropped a [k] s (s.cancelPlaced a k) := by
  refine dropped_of_mem (dropped_slot a k s) ((retireOrder_mem k _).trans ?_)
  rw [retireOrderSlot_of_mem (s := s.leaveList a k) (by rfl) k]

theorem leftKitchen_cancelPlaced (a : Fin 1024) (k : Fin 256) (h : s.mem.admFree.length ≠ 1024) :
    LeftKitchen [k] s (s.cancelPlaced a k) := by
  have open_ := (dropped_cancelPlaced a k s).admFree
  unfold State.cancelPlaced at open_ ⊢
  rw [retireOrder_eq, examineClose_mem] at open_
  rw [retireOrder_eq, examineClose_live (by rw [open_]; exact h)]
  have slot := retireOrderSlot_eq k ((s.leaveKitchen k).leaveList a k)
  refine { kitchen := ?_, runners := fun r hr => ?_, frame := ?_ }
  · show (s.ords.kitchen.filter _).filter _ = _
    simp only [List.filter_filter, List.mem_singleton, bne, beq_eq_decide, decide_not, ne_eq, Bool.and_self]
  · show (s.ords.runners.map _)[r] = _
    have clear := hr k (List.mem_singleton_self k)
    rw [Fin.getElem_fin, Vector.getElem_map]
    exact if_neg clear
  · rw [slot]
    rfl

theorem cancelled_each (h : s.mem.admFree.length ≠ 1024) (l : List (Fin 256 × Order)) :
    LeftKitchen (l.map Prod.fst) s (s.each l fun o s => s.cancelPlaced a o.1) := by
  induction l generalizing s with
  | nil => exact leftKitchen_nil s
  | cons o rest ih =>
    have later : (s.cancelPlaced a o.1).mem.admFree.length ≠ 1024 := by
      rw [(dropped_cancelPlaced a o.1 s).admFree]
      exact h
    exact leftKitchen_trans (leftKitchen_cancelPlaced a o.1 h) (ih later)

/-! ## The order table's part of EXIT (R143) -/

/-- The PLACED orders of a tab, which an exit cancels. -/
def placedSlots (orders : List (Fin 256 × Order)) : List (Fin 256) :=
  (orders.filter fun o => o.2.state = .placed).map Prod.fst

/-- The orders of a tab that an exit leaves. -/
def keptSlots (orders : List (Fin 256 × Order)) : List (Fin 256) :=
  (orders.filter fun o => o.2.state ≠ .placed).map Prod.fst

/-- COLLECT set. -/
def collected (x : Order) : Order := { x with collect := true }

variable {orders : List (Fin 256 × Order)} {o : Fin 256 × Order}

theorem mem_placedSlots (h : o ∈ orders) (placed : o.2.state = .placed) : o.1 ∈ placedSlots orders :=
  List.mem_map_of_mem (List.mem_filter.mpr ⟨h, decide_eq_true placed⟩)

theorem mem_keptSlots (h : o ∈ orders) (placed : o.2.state ≠ .placed) : o.1 ∈ keptSlots orders :=
  List.mem_map_of_mem (List.mem_filter.mpr ⟨h, decide_eq_true placed⟩)

theorem placedSlots_subset (h : k ∈ placedSlots orders) : k ∈ orders.map Prod.fst :=
  (List.filter_sublist.map Prod.fst).subset h

theorem keptSlots_subset (h : k ∈ keptSlots orders) : k ∈ orders.map Prod.fst :=
  (List.filter_sublist.map Prod.fst).subset h

theorem placedSlots_apart (nodup : (orders.map Prod.fst).Nodup) (h : k ∈ placedSlots orders) : k ∉ keptSlots orders := by
  intro kept
  obtain ⟨o, ho, rfl⟩ := List.mem_map.mp h
  obtain ⟨p, hp, same⟩ := List.mem_map.mp kept
  obtain ⟨ho, placed⟩ := List.mem_filter.mp ho
  obtain ⟨hp, left⟩ := List.mem_filter.mp hp
  have eq := List.inj_on_of_nodup_map nodup hp ho same
  subst eq
  exact of_decide_eq_true left (of_decide_eq_true placed)

theorem nodup_filter_slots (nodup : (orders.map Prod.fst).Nodup) (p : Fin 256 × Order → Bool) :
    ((orders.filter p).map Prod.fst).Nodup := nodup.sublist (List.filter_sublist.map Prod.fst)

/-- The state after the cancels of an exit. -/
def cancelledAll (a : Fin 1024) (orders : List (Fin 256 × Order)) (s : State) : State :=
  s.each (orders.filter fun o => o.2.state = .placed) fun o s => s.cancelPlaced a o.1

theorem exitOrders_eq (a : Fin 1024) (orders : List (Fin 256 × Order)) (s : State) : s.exitOrders a orders =
    (cancelledAll a orders s).each (orders.filter fun o => o.2.state ≠ .placed) fun o s =>
      s.writeOrder o.1 collected := rfl

theorem exitOrders_kept (a : Fin 1024) (orders : List (Fin 256 × Order)) (s : State) : s.exitOrders a orders =
    { cancelledAll a orders s with mem :=
      { (cancelledAll a orders s).mem with orders := (s.exitOrders a orders).mem.orders } } := by
  rw [exitOrders_eq]
  exact writeOrders_eq collected _ _

theorem dropped_cancelledAll (nodup : (orders.map Prod.fst).Nodup) (s : State) :
    Dropped a (placedSlots orders) s (cancelledAll a orders s) :=
  dropped_each (fun o s => dropped_cancelPlaced a o.1 s) (nodup_filter_slots nodup _) s

theorem exitOrders_placed (nodup : (orders.map Prod.fst).Nodup) (h : k ∈ placedSlots orders) :
    (s.exitOrders a orders).mem.orders[k] = (cancelledAll a orders s).mem.orders[k] := by
  rw [exitOrders_eq]
  exact writeOrders_other collected (placedSlots_apart nodup h) _

theorem exitOrders_left (nodup : (orders.map Prod.fst).Nodup) (h : k ∈ keptSlots orders)
    (clear : s.mem.orders[k].marked = false) : (s.exitOrders a orders).order k = { s.order k with collect := true } := by
  have slot := ((dropped_cancelledAll (a := a) nodup s).other k fun placed => placedSlots_apart nodup placed h).1
  rw [exitOrders_eq, writeOrders_order (f := collected) (fun _ => rfl) h (by rw [slot]; exact clear)]
  exact congrArg (fun x : Slot Order => collected x.content) slot

theorem exitOrders_absent (nodup : (orders.map Prod.fst).Nodup) (h : k ∉ orders.map Prod.fst) :
    (s.exitOrders a orders).mem.orders[k] = s.mem.orders[k] ∧
      (cancelledAll a orders s).mem.orderGen[k] = s.mem.orderGen[k] := by
  obtain ⟨slot, gen⟩ := (dropped_cancelledAll (a := a) nodup s).other k fun placed => h (placedSlots_subset placed)
  refine ⟨?_, gen⟩
  rw [exitOrders_eq, writeOrders_other collected fun kept => h (keptSlots_subset kept)]
  exact slot

end Sys2Proof.TabOrders
end

section
/-!
SUPPORT. EXIT and CLEAR_LANE (R53, R58), and the examination for tab clear (R150).
-/

namespace Sys2Proof.Lanes

open Sys2Proof Sys2Proof.Machine Sys2Proof.Orders Sys2Proof.Invariants Sys2Proof.TabOrders

variable {s t u v : State} {n : Fin 4} {a : Fin 1024} {lane : Byte}

/-! ## EXIT (R53) -/

section

variable {handle : Word16}

theorem exitCommand_stale (lane : Byte) (hc : s.admCurrent (.ofWord handle) = false) :
    exitCommand lane handle s = s.refuse .stale := by
  simp [exitCommand, hc]

variable (hc : s.admCurrent (.ofWord handle) = true)

include hc

theorem exitCommand_badParam (hn : numbered 4 lane = none) : exitCommand lane handle s = s.refuse .badParam := by
  simp [exitCommand, hc, hn]

/-- The checks of EXIT at lane `n`. -/
def exitChecks (s : State) (n : Fin 4) (a : Fin 1024) : List (Bool × Status) :=
  let l := s.gate.lanes[n]
  [(decide (l.role ≠ .exit), .badState), (decide (s.gate.laneOf a ≠ none), .busy),
    (decide (l.bound ≠ none), .busy), (decide (l.state ≠ .present), .noVehicle),
    (decide (l.passes = 65535), .full), (decide (s.doms.domains[gates].state ≠ .active), .domainDown)]

/-- The orders of a tab that an exit leaves, counted. -/
def leftCount (orders : List (Fin 256 × Order)) : Nat := (orders.filter fun o => o.2.state ≠ .placed).length

/-- An exit with the tab as read. -/
def exitDone (n : Fin 4) (a : Fin 1024) : Option (Admission × List (Fin 256 × Order)) × State → Reply
  | (none, u) => u.refuse .damaged
  | (some (x, orders), u) =>
    { state := (u.exitOrders a orders).bindExit n a (decide (x.owed = 0 ∧ leftCount orders = 0))
      status := if x.owed = 0 ∧ leftCount orders = 0 then .ok else .tabOpen
      data := bytes3 x.owed ++ [byte1 (leftCount orders)] }

theorem exitCommand_checked (hn : numbered 4 lane = some n) : exitCommand lane handle s =
    checked (exitChecks s n (AdmHandle.ofWord handle).slot) s
      (exitDone n (AdmHandle.ofWord handle).slot (s.readTab (AdmHandle.ofWord handle).slot)) := by
  simp only [exitCommand, hc, hn, exitChecks, checked_cons, checked_nil, decide_eq_true_eq, Option.isSome_iff_ne_none,
    Bool.not_eq_true', ← Bool.not_eq_true, active_iff, ne_eq, Config.countLimit, not_true, if_false]
  generalize s.readTab (AdmHandle.ofWord handle).slot = r
  obtain ⟨x, u⟩ := r
  cases x with
  | none => rfl
  | some x =>
    obtain ⟨x, orders⟩ := x
    simp only [exitDone, leftCount, ne_eq]
    rfl

end

/-! ## The admission bound to its EXIT lane (R53) -/

theorem bindExit_clear (n : Fin 4) (a : Fin 1024) (v : State) : v.bindExit n a true =
    (v.writeAdm a fun y => { y with exitLane := some n, state := .leaving }).modLane n fun y => { y with
      state := .leaving, bound := some a, raise := true
      barrierTimer := if y.up then none else some (v.gate.barrierTime * 1000) } := rfl

theorem bindExit_open (n : Fin 4) (a : Fin 1024) (v : State) : v.bindExit n a false =
    ((v.writeAdm a fun y => { y with exitLane := some n, state := .paying }).modLane n fun y => { y with
      state := .paying, bound := some a }).raiseCounter .tabOpen := rfl

/-! ## CLEAR_LANE (R58) -/

theorem clearLane_badParam (hn : numbered 4 lane = none) : clearLane lane s = s.refuse .badParam := by
  simp only [clearLane, hn]

theorem clearLane_badState (hn : numbered 4 lane = some n) (h : s.gate.lanes[n].state ≠ .faulted) :
    clearLane lane s = s.refuse .badState := by
  simp only [clearLane, hn]
  exact if_pos h

theorem clearLane_faulted (hn : numbered 4 lane = some n) (h : s.gate.lanes[n].state = .faulted) :
    clearLane lane s = (s.resumeLane n).ok [byte1 (s.resumeLane n).gate.lanes[n].state.number] := by
  simp only [clearLane, hn]
  exact if_neg (not_not_intro h)

/-- The lane that resumes issued or leaving. -/
def resumed (g : Gate) (st : LaneState) (l : Lane) : Lane :=
  { l with
    state := if l.loopB.level then .passing else st, cause := none, faultedFrom := none, raise := true
    barrierTimer := if l.up then none else some (g.barrierTime * 1000)
    stuckTimer := if l.loopB.level then some (g.stuckTime * 1000) else none
    voidTimer := if st = .issued ∧ l.loopA.level = false ∧ l.loopB.level = false then
      some (g.voidTime * 1000) else l.voidTimer
    returnTimer := if st = .leaving ∧ l.loopA.level = false ∧ l.loopB.level = false then
      some (g.voidTime * 1000) else l.returnTimer }

theorem resume_endFault (g : Gate) {st : LaneState} {l : Lane} (hst : st = .issued ∨ st = .leaving)
    (h : l.state = .faulted) : (l.endFault g.stuckTime).resume g st = resumed g st l := by
  unfold Lane.endFault Lane.resume resumed
  dsimp only
  rw [if_pos h]
  cases hb : l.loopB.level <;> cases ha : l.loopA.level <;> obtain rfl | rfl := hst <;>
    simp [Lane.assertRaise, Lane.restartStuck, seconds, Config.second, ha, hb]

theorem endFault_faulted (stuckTime : Nat) {l : Lane} (h : l.state = .faulted) : l.endFault stuckTime =
    { l with
      cause := none, faultedFrom := none
      stuckTimer := if l.loopB.level then some (stuckTime * 1000) else none } := by
  unfold Lane.endFault
  exact if_pos h

section

variable (faulted : s.gate.lanes[n].state = .faulted)

include faulted

theorem resume_lane {st : LaneState} (hst : st = .issued ∨ st = .leaving) :
    (s.modLane n (Lane.endFault s.gate.stuckTime)).modLane n (Lane.resume s.gate st) =
      s.modLane n (resumed s.gate st) :=
  (modLane_modLane _ _ s).trans (modLane_congr (resume_endFault s.gate hst faulted))

/-- A bound lane that was ISSUED, or passing an entry. -/
theorem resumeLane_issued (bound : s.gate.lanes[n].bound ≠ none)
    (h : s.gate.lanes[n].faultedFrom = some .issued ∨
      s.gate.lanes[n].faultedFrom = some .passing ∧ s.gate.lanes[n].role = .entry) :
    s.resumeLane n = s.modLane n (resumed s.gate .issued) := by
  obtain ⟨a, ha⟩ := Option.ne_none_iff_exists'.mp bound
  rw [← resume_lane faulted (.inl rfl)]
  unfold State.resumeLane
  dsimp only
  obtain h | ⟨h, role⟩ := h
  · rw [ha, h]
  · rw [ha, h]
    dsimp only
    rw [if_pos role]

/-- A bound lane that was LEAVING, or passing an exit. -/
theorem resumeLane_leaving (bound : s.gate.lanes[n].bound ≠ none)
    (h : s.gate.lanes[n].faultedFrom = some .leaving ∨
      s.gate.lanes[n].faultedFrom = some .passing ∧ s.gate.lanes[n].role = .exit) :
    s.resumeLane n = s.modLane n (resumed s.gate .leaving) := by
  obtain ⟨a, ha⟩ := Option.ne_none_iff_exists'.mp bound
  rw [← resume_lane faulted (.inr rfl)]
  unfold State.resumeLane
  dsimp only
  obtain h | ⟨h, role⟩ := h
  · rw [ha, h]
  · rw [ha, h]
    dsimp only
    rw [if_neg (by rw [role]; decide)]

/-- A lane back at the window. -/
def repaying (stuckTime : Nat) (l : Lane) : Lane :=
  { l with
    state := .paying, cause := none, faultedFrom := none
    stuckTimer := if l.loopB.level then some (stuckTime * 1000) else none }

theorem resumeLane_paying (bound : s.gate.lanes[n].bound = some a) (h : s.gate.lanes[n].faultedFrom = some .paying) :
    s.resumeLane n = if s.gate.lanes[n].loopA.level then (s.modLane n (repaying s.gate.stuckTime)).examineTab a
      else (s.modLane n (repaying s.gate.stuckTime)).leaveWindow n a := by
  have back : (s.modLane n (Lane.endFault s.gate.stuckTime)).modLane n (fun l => { l with state := .paying }) =
      s.modLane n (repaying s.gate.stuckTime) :=
    (modLane_modLane _ _ s).trans (modLane_congr (by rw [endFault_faulted _ faulted]; rfl))
  unfold State.resumeLane
  dsimp only
  rw [bound, h]
  dsimp only
  rw [back]

omit faulted in
theorem resumeLane_unbound (bound : s.gate.lanes[n].bound = none) : s.resumeLane n = s.freeLane n := by
  unfold State.resumeLane
  dsimp only
  rw [bound]

end

/-! ## The examination for tab clear (R150) -/

theorem examineTab_damaged (h : s.readAdm a = (none, u)) : s.examineTab a = u := by
  unfold State.examineTab
  rw [h]

theorem examineTab_clears {x : Admission} (h : s.readAdm a = (some x, u)) (lane : x.exitLane = some n)
    (paying : x.state = .paying) (owed : x.owed = 0) (orders : x.orders = []) :
    s.examineTab a = { u with ords := { u.ords with tabClears := u.ords.tabClears ++ [(n, u.admHandle a)] } } := by
  unfold State.examineTab
  rw [h]
  dsimp only
  rw [lane]
  exact if_pos ⟨paying, owed, List.isEmpty_iff.mpr orders⟩

theorem examineTab_waits {x : Admission} (h : s.readAdm a = (some x, u))
    (hx : x.exitLane = none ∨ x.state ≠ .paying ∨ x.owed ≠ 0 ∨ x.orders ≠ []) : s.examineTab a = u := by
  unfold State.examineTab
  rw [h]
  dsimp only
  split
  next n lane =>
    refine if_neg fun ⟨paying, owed, orders⟩ => ?_
    rw [List.isEmpty_iff] at orders
    exact hx.elim (by rw [lane]; nofun) (·.elim (· paying) (·.elim (· owed) (· orders)))
  next => rfl

theorem leftKitchen_frame {c : List (Fin 256)} (left : LeftKitchen c s u) (h : t = { u with mem := t.mem }) :
    t = { s with mem := t.mem, ords := { s.ords with kitchen := t.ords.kitchen, runners := t.ords.runners } } := by
  have ords : t.ords = u.ords := by rw [h]
  rw [left.frame] at h
  rw [ords]
  exact h

theorem freeLane_frame (n : Fin 4) (s : State) :
    s.freeLane n = { s with gate := (s.freeLane n).gate, booth := (s.freeLane n).booth } := by
  unfold State.freeLane State.announcePresent
  split <;> rfl

theorem leaveWindow_idle (n : Fin 4) (a : Fin 1024) (s : State) : (s.leaveWindow n a).gate.lanes[n].state = .idle := by
  rw [leaveWindow_gate]
  dsimp only
  rw [upd_get, if_pos rfl]

theorem resumed_number (g : Gate) (st : LaneState) (l : Lane) :
    byte1 (resumed g st l).state.number = if l.loopB.level then 4 else byte1 st.number := by
  unfold resumed
  dsimp only
  cases l.loopB.level <;> rfl

theorem resumed_answer {st : LaneState} {d : Byte} (number : byte1 st.number = d) (same : u = v) :
    (.next ((u.ok [byte1 st.number]).state.answer .booth 0x13 (u.ok [byte1 st.number]).status
      (u.ok [byte1 st.number]).data) : Host.Outcome State Fault Refusal) = .next (v.answer .booth 0x13 .ok [d]) := by
  rw [number, same]
  rfl

/-- Settles O27: EXIT and CLEAR_LANE by their checks, the orders of an exit by the cancels, and the return and the
examination by their records. -/
theorem exitAndClearLane : Obligations.ExitAndClearLane := by
  refine ⟨fun lane handle s ht => ⟨fun hc => next_command_of_block ht (exitCommand_stale lane hc),
      fun hc hn => next_command_of_block ht (exitCommand_badParam hc hn), fun n hc hn => ⟨fun status h => ?refused,
        fun h => ⟨fun u hr => ?damaged, fun x orders u hr => ?exits⟩⟩⟩,
    fun lane s ht => ⟨fun hn => next_command_of_block ht (clearLane_badParam hn), fun n hn =>
      ⟨fun state => next_command_of_block ht (clearLane_badState hn state), fun faulted bound role => ?unbound,
        fun faulted bound => ⟨fun h => ?issued, fun h => ?leaving⟩, fun a faulted bound h => ?paying⟩⟩,
    fun a orders s nodup live => ?orders,
    fun a n s => ⟨leaveWindow_gate n a s, leaveWindow_records n, leaveWindow_frame n a s⟩,
    fun a s u => ⟨examineTab_damaged, fun x hr => ⟨fun n => examineTab_clears hr, examineTab_waits hr⟩⟩⟩
  case refused => exact next_command_of_block ht ((exitCommand_checked hc hn).trans (checked_refused _ h))
  case damaged =>
    have done := (exitCommand_checked hc hn).trans (checked_passed _ h)
    rw [hr] at done
    exact next_command_of_block ht done
  case exits =>
    have done := (exitCommand_checked hc hn).trans (checked_passed _ h)
    rw [hr] at done
    have answered := next_command_of_block ht done
    dsimp only [exitDone] at answered
    refine ⟨fun clear => ?_, fun owing => ?_⟩
    · have clear : x.owed = 0 ∧ leftCount orders = 0 := clear
      obtain ⟨owed, left⟩ := id clear
      rw [decide_eq_true clear, if_pos clear, bindExit_clear, owed, left] at answered
      exact answered
    · have owing : ¬ (x.owed = 0 ∧ leftCount orders = 0) := owing
      rw [decide_eq_false owing, if_neg owing, bindExit_open] at answered
      exact answered
  case unbound =>
    have freed := freed_free s.gate.stuckTime role
    have gate := freeLane_gate n s
    have lane : (s.freeLane n).gate.lanes[n] = s.gate.lanes[n].free s.gate.stuckTime := by
      rw [gate]
      exact upd_get_same _ _ _
    rw [← lane] at freed
    have answered := next_command_of_block ht (clearLane_faulted hn faulted)
    rw [resumeLane_unbound bound, freed.state] at answered
    refine ⟨_, answered.trans ?_, freed.state, freed.cause, freed.faultedFrom, freed.raise, fun m hm => ?_, ?_⟩
    · cases s.gate.lanes[n].loopA.level <;> rfl
    · rw [gate]
      exact upd_get_other _ _ _ _ hm.symm
    · exact freeLane_frame n s
  case issued =>
    have answered := next_command_of_block ht (clearLane_faulted hn faulted)
    rw [resumeLane_issued faulted bound h, modLane_lane] at answered
    exact answered.trans (resumed_answer (resumed_number _ _ _) (modLane_congr rfl))
  case leaving =>
    have answered := next_command_of_block ht (clearLane_faulted hn faulted)
    rw [resumeLane_leaving faulted bound h, modLane_lane] at answered
    exact answered.trans (resumed_answer (resumed_number _ _ _) (modLane_congr rfl))
  case paying =>
    have answered := next_command_of_block ht (clearLane_faulted hn faulted)
    rw [resumeLane_paying faulted bound h] at answered
    cases level : s.gate.lanes[n].loopA.level with
    | true =>
      rw [level, if_pos rfl, orderFrame_gate (examineTab_orderFrame a _), modLane_lane] at answered
      exact answered
    | false =>
      rw [level, if_neg Bool.false_ne_true, leaveWindow_idle] at answered
      dsimp only [ok_state, ok_status, ok_data] at answered ⊢
      rw [if_neg Bool.false_ne_true]
      exact answered
  case orders =>
    have dropped := dropped_cancelledAll (a := a) nodup s
    have left : LeftKitchen (placedSlots orders) s (cancelledAll a orders s) := cancelled_each live _
    have kept := exitOrders_kept a orders s
    refine ⟨fun o ho placed => ?_, fun o ho placed => ⟨?_, exitOrders_left nodup (mem_keptSlots ho placed)⟩,
      fun k hk => ?_, ?_, ?_, fun r hr => ?_, fun clear => ?_, fun b hb => ?_, ?_, ?_, ?_, ?_⟩
    · have slot := exitOrders_placed (a := a) (s := s) nodup (mem_placedSlots ho placed)
      rw [slot, kept]
      exact dropped.slot o.1 (mem_placedSlots ho placed)
    · rw [kept]
      exact (dropped.other o.1 fun h => placedSlots_apart nodup h (mem_keptSlots ho placed)).2
    · obtain ⟨slot, gen⟩ := exitOrders_absent (a := a) (s := s) nodup hk
      refine ⟨slot, ?_⟩
      rw [kept]
      exact gen
    · rw [kept]
      exact dropped.free
    · rw [kept]
      exact left.kitchen
    · rw [kept]
      exact left.runners r hr
    · rw [kept]
      exact dropped.record clear
    · rw [kept]
      exact dropped.admissions b hb
    · rw [kept]
      exact dropped.admFree
    · rw [kept]
      exact dropped.admGen
    · rw [kept]
      exact dropped.stalls
    · refine leftKitchen_frame left ?_
      rw [kept]

end Sys2Proof.Lanes
end

section
/-!
SUPPORT. MOVE (R30, R61, R145): its checks in order, and what it leaves of the record, the lot and the live counts.
-/

namespace Sys2Proof.Lanes

open Sys2Proof Sys2Proof.Machine Sys2Proof.Orders Sys2Proof.Invariants Sys2Proof.TabOrders

variable {s t u v : State} {n m : Fin 6} {a i : Fin 1024}

/-! ## The stall left behind -/

/-- The occupant of a stall is as it was. -/
def SameOccupant (j : Fin 1024) (s t : State) : Prop := t.lot.occupants[j] = s.lot.occupants[j]

variable {j : Fin 1024}

theorem sameOccupant_trans (h : SameOccupant j s t) (g : SameOccupant j t u) : SameOccupant j s u := Eq.trans g h

theorem sameOccupant_of_lot (h : t.lot = s.lot) : SameOccupant j s t := by
  unfold SameOccupant
  rw [h]

theorem sameOccupant_of_occupants (h : t.lot.occupants = s.lot.occupants) : SameOccupant j s t := by
  unfold SameOccupant
  rw [h]

theorem sameOccupant_holdStall (h : j ≠ i) (b : Fin 1024) (hold : Hold) (s : State) :
    SameOccupant j s (s.holdStall i b hold) := by
  show (LotMap.setOccupant i _ _ _).occupants[j] = _
  rw [setOccupant_occupants]
  exact upd_get_other _ _ _ _ h.symm

theorem sameOccupant_giveStall (h : j ≠ i) (b : Fin 1024) (x : Admission) (s : State) :
    SameOccupant j s (s.giveStall i b x) := by
  have held := fun hold => sameOccupant_holdStall h b hold (s.modLot (LotMap.leaveQueue b))
  unfold State.giveStall
  cases x.state <;> exact held _

theorem sameOccupant_examineQueue (h : j ≠ i) (kind : StallKind) (l : List (Fin 1024)) (s : State) :
    SameOccupant j s (s.examineQueue i kind l) := by
  induction l generalizing s with
  | nil => rfl
  | cons b rest ih =>
    have read : SameOccupant j s (s.readAdm b).2 := sameOccupant_of_lot (readFrame_lot (readAdm_readFrame s b))
    unfold State.examineQueue
    generalize s.readAdm b = r at *
    obtain ⟨x, u⟩ := r
    cases x with
    | none => exact sameOccupant_trans read (ih u)
    | some x =>
      dsimp only
      split
      · exact sameOccupant_trans read (sameOccupant_giveStall h b x u)
      · exact sameOccupant_trans read (ih u)

/-- A release changes the occupant of no other stall. -/
theorem sameOccupant_releaseStall (h : j ≠ i) (s : State) : SameOccupant j s (s.releaseStall i) := by
  have cleared : SameOccupant j s (s.modLot fun l => { l with occupants := upd l.occupants i fun _ => none }) :=
    upd_get_other _ _ _ _ h.symm
  have read : ∀ u : State, SameOccupant j u (u.readStall i).2 := fun u =>
    sameOccupant_of_occupants (Lot.readStall_lotKeeps i u).2.1
  have written : ∀ (f : Stall → Stall) (u : State), SameOccupant j u (u.writeStall i f) := fun f u =>
    sameOccupant_of_occupants (Lot.writeStall_occupants i u f)
  have found := sameOccupant_trans cleared (read _)
  unfold State.releaseStall
  dsimp only
  split
  · exact sameOccupant_trans found (written _ _)
  · split
    · exact found
    · exact sameOccupant_trans found (sameOccupant_trans (written _ _) (sameOccupant_examineQueue h _ _ _))

/-- The stall that a moved admission held is released. -/
def vacated (old : Option (Fin 1024)) (s : State) : State :=
  match old with
  | some j => s.releaseStall j
  | none => s

theorem spared_vacated (old : Option (Fin 1024)) (seated : (s.adm a).state = .seated) : Spared a s (vacated old s) := by
  cases old with
  | none => exact spared_refl a s
  | some j => exact spared_releaseStall j (.inr seated)

theorem sameOccupant_vacated {old : Option (Fin 1024)} (h : old ≠ some i) (s : State) :
    SameOccupant i s (vacated old s) := by
  cases old with
  | none => rfl
  | some j => exact sameOccupant_releaseStall (fun same => h (congrArg some same.symm)) s

theorem vacated_leaves {j : Fin 1024} (seated : (s.adm a).state = .seated) :
    (vacated (some j) s).lot.occupants[j].map Occupant.slot ≠ some a := releaseStall_leaves (.inr seated)

/-! ## The live counts (R46) -/

/-- The live counts move from the old screen to the new. -/
def rehomed (old : Option (Fin 6)) (n : Fin 6) (s : State) : State :=
  match old with
  | some m => if m = n then s else (s.addLive n).dropLive m
  | none => s

theorem rehomed_same (n : Fin 6) (s : State) : rehomed (some n) n s = s := if_pos rfl

theorem dropLive_gate (m : Fin 6) (s : State) : (s.dropLive m).gate = { s.gate with live := upd s.gate.live m (· - 1) } :=
  showFrame_gate (examineEnded_showFrame _ m)

theorem dropLive_kept (m : Fin 6) (s : State) : (s.dropLive m).mem = s.mem ∧ (s.dropLive m).lot = s.lot ∧
    (s.dropLive m).gate.lanes = s.gate.lanes ∧ (s.dropLive m).posts = s.posts ∧ (s.dropLive m).doms = s.doms := by
  have frame := examineEnded_showFrame (s.modGate fun g => { g with live := upd g.live m (· - 1) }) m
  unfold State.dropLive
  rw [showFrame_mem frame, showFrame_lot frame, showFrame_gate frame, showFrame_posts frame, showFrame_doms frame]
  exact ⟨rfl, rfl, rfl, rfl, rfl⟩

theorem rehomed_live (h : m ≠ n) (s : State) : (rehomed (some m) n s).gate.live[n] = s.gate.live[n] + 1 ∧
    (rehomed (some m) n s).gate.live[m] = s.gate.live[m] - 1 := by
  have gate : (rehomed (some m) n s).gate = { s.gate with live := upd (upd s.gate.live n (· + 1)) m (· - 1) } := by
    unfold rehomed
    dsimp only
    rw [if_neg h, dropLive_gate]
    rfl
  rw [gate]
  dsimp only
  exact ⟨(upd_get_other _ _ _ _ h).trans (upd_get_same _ _ _),
    (upd_get_same _ _ _).trans (congrArg (· - 1) (upd_get_other _ _ _ _ (Ne.symm h)))⟩

theorem rehomed_kept (old : Option (Fin 6)) (n : Fin 6) (s : State) : (rehomed old n s).mem = s.mem ∧
    (rehomed old n s).lot = s.lot ∧ (rehomed old n s).gate.lanes = s.gate.lanes ∧
    (rehomed old n s).posts = s.posts ∧ (rehomed old n s).doms = s.doms := by
  cases old with
  | none => exact ⟨rfl, rfl, rfl, rfl, rfl⟩
  | some m =>
    unfold rehomed
    dsimp only
    split
    · exact ⟨rfl, rfl, rfl, rfl, rfl⟩
    · exact dropLive_kept m (s.addLive n)

/-! ## The new stall (R30, R145) -/

/-- The new stall OCCUPIED, and the record and the orders of the tab naming it. -/
def renamed (a i : Fin 1024) (n : Fin 6) (number : Nat) (orders : List (Fin 256 × Order)) (s : State) : State :=
  ((s.holdStall i a .occupation).writeAdm a fun x => { x with screen := n, stall := some number }).each orders
    fun o s => s.writeOrder o.1 fun x => { x with screen := n, stall := number }

theorem moveTo_eq (a i : Fin 1024) (n : Fin 6) (number : Nat) (orders : List (Fin 256 × Order)) (s : State) :
    s.moveTo a i n number orders =
      rehomed (s.lot.screenOf a) n (vacated (s.lot.stallHeldBy a) (renamed a i n number orders s)) := by
  unfold State.moveTo renamed vacated rehomed
  cases held : s.lot.stallHeldBy a <;> cases shown : s.lot.screenOf a <;> simp only [held, shown]

section

variable (number : Nat) (orders : List (Fin 256 × Order))

theorem renamed_eq (s : State) : renamed a i n number orders s =
    { ((s.holdStall i a .occupation).writeAdm a fun x => { x with screen := n, stall := some number }) with
      mem := { s.mem with
        admissions := ((s.holdStall i a .occupation).writeAdm a fun x =>
          { x with screen := n, stall := some number }).mem.admissions
        orders := (renamed a i n number orders s).mem.orders } } :=
  writeOrders_eq (fun x => { x with screen := n, stall := number }) orders _

theorem renamed_kept (s : State) : (renamed a i n number orders s).lot = (s.holdStall i a .occupation).lot ∧
    (renamed a i n number orders s).gate = s.gate ∧ (renamed a i n number orders s).posts = s.posts ∧
    (renamed a i n number orders s).doms = s.doms := by
  rw [renamed_eq]
  exact ⟨rfl, rfl, rfl, rfl⟩

theorem renamed_occupant (s : State) :
    (renamed a i n number orders s).lot.occupants[i] = some { slot := a, hold := .occupation } := by
  have held : (s.holdStall i a .occupation).lot.occupants[i] = some { slot := a, hold := .occupation } := by
    show (LotMap.setOccupant i _ _ _).occupants[i] = _
    rw [setOccupant_occupants]
    exact upd_get_same _ _ _
  exact (sameOccupant_of_lot (s := s.holdStall i a .occupation) (renamed_kept number orders s).1).trans held

theorem renamed_adm (clear : s.mem.admissions[a].marked = false) :
    (renamed a i n number orders s).adm a = { s.adm a with screen := n, stall := some number } := by
  have written : ((s.holdStall i a .occupation).writeAdm a fun x =>
      { x with screen := n, stall := some number }).adm a = { s.adm a with screen := n, stall := some number } := by
    show (upd s.mem.admissions a _)[a].content = _
    rw [upd_get, if_pos rfl, if_neg (ne_true_of_eq_false clear)]
    rfl
  rw [renamed_eq]
  exact written

theorem renamed_order {k : Fin 256} (h : k ∈ orders.map Prod.fst) (clear : s.mem.orders[k].marked = false) :
    (renamed a i n number orders s).order k = { s.order k with screen := n, stall := number } :=
  writeOrders_order (f := fun x => { x with screen := n, stall := number }) (fun _ => rfl) h clear

variable {number orders}

/-- What a move leaves, for a SEATED admission that goes to a stall that nothing holds. -/
theorem moveTo_leaves {old : Option (Fin 1024)} {from_ : Option (Fin 6)} (seated : (s.adm a).state = .seated)
    (clear : s.mem.admissions[a].marked = false) (empty : s.lot.occupants[i] = none)
    (hold : s.lot.stallHeldBy a = old) (screen : s.lot.screenOf a = from_) :
    (s.moveTo a i n number orders).adm a = { s.adm a with screen := n, stall := some number } ∧
    (s.moveTo a i n number orders).lot.occupants[i] = some { slot := a, hold := .occupation } ∧
    (∀ k ∈ orders.map Prod.fst, s.mem.orders[k].marked = false →
      (s.moveTo a i n number orders).order k = { s.order k with screen := n, stall := number }) ∧
    (∀ j, old = some j → ((s.moveTo a i n number orders).lot.occupants[j].map Occupant.slot) ≠ some a) := by
  have elsewhere : old ≠ some i := by
    intro same
    have held := stallHeldBy_some (hold.trans same)
    rw [empty] at held
    cases held
  have adm := renamed_adm (i := i) (n := n) number orders clear
  have still : ((renamed a i n number orders s).adm a).state = .seated := by
    rw [adm]
    exact seated
  have spared := spared_vacated old still
  obtain ⟨mem, lot, -⟩ := rehomed_kept from_ n (vacated old (renamed a i n number orders s))
  rw [moveTo_eq, hold, screen]
  unfold State.adm State.order at *
  rw [mem, lot]
  refine ⟨spared.record.trans adm, ?_, fun k hk unmarked => ?_, fun j hj => ?_⟩
  · exact (sameOccupant_vacated elsewhere _).trans (renamed_occupant number orders s)
  · have slot := congrArg (fun v => v[k].content) spared.orders
    exact slot.trans (renamed_order number orders hk unmarked)
  · subst hj
    exact vacated_leaves still

end

/-! ## What a move leaves beside (R46) -/

theorem vacated_lotFrame (old : Option (Fin 1024)) (s : State) : s.lotFrame (vacated old s) := by
  cases old with
  | none => exact lotFrame_refl s
  | some j => exact releaseStall_lotFrame s j

section

variable (number : Nat) (orders : List (Fin 256 × Order))

theorem vacated_kept (old : Option (Fin 1024)) (s : State) :
    (vacated old (renamed a i n number orders s)).gate = s.gate ∧
      (vacated old (renamed a i n number orders s)).posts = s.posts ∧
      (vacated old (renamed a i n number orders s)).doms = s.doms := by
  have frame := vacated_lotFrame old (renamed a i n number orders s)
  obtain ⟨-, gate, posts, doms⟩ := renamed_kept (a := a) (i := i) (n := n) number orders s
  exact ⟨(lotFrame_gate frame).trans gate, (lotFrame_posts frame).trans posts, (lotFrame_doms frame).trans doms⟩

theorem moveTo_kept (a i : Fin 1024) (n : Fin 6) (number : Nat) (orders : List (Fin 256 × Order)) (s : State) :
    (s.moveTo a i n number orders).gate.lanes = s.gate.lanes ∧ (s.moveTo a i n number orders).posts = s.posts ∧
      (s.moveTo a i n number orders).doms = s.doms := by
  obtain ⟨gate, posts, doms⟩ := vacated_kept (a := a) (i := i) (n := n) number orders (s.lot.stallHeldBy a) s
  rw [moveTo_eq]
  obtain ⟨-, -, lanes, posts', doms'⟩ := rehomed_kept (s.lot.screenOf a) n
    (vacated (s.lot.stallHeldBy a) (renamed a i n number orders s))
  exact ⟨lanes.trans (congrArg Gate.lanes gate), posts'.trans posts, doms'.trans doms⟩

theorem moveTo_live (h : s.lot.screenOf a = some m) (other : m ≠ n) (i : Fin 1024) (number : Nat)
    (orders : List (Fin 256 × Order)) : (s.moveTo a i n number orders).gate.live[n] = s.gate.live[n] + 1 ∧
      (s.moveTo a i n number orders).gate.live[m] = s.gate.live[m] - 1 := by
  obtain ⟨up, down⟩ := rehomed_live other (vacated (s.lot.stallHeldBy a) (renamed a i n number orders s))
  rw [(vacated_kept number orders _ s).1] at up down
  rw [moveTo_eq, h]
  exact ⟨up, down⟩

theorem moveTo_stays (h : s.lot.screenOf a = some n) : (s.moveTo a i n number orders).gate = s.gate := by
  rw [moveTo_eq, h, rehomed_same, (vacated_kept number orders _ s).1]

end

/-! ## MOVE (R61) -/

theorem notActive_iff (d : Fin 8) (s : State) : (!s.active d) = true ↔ ¬ s.doms.domains[d].state = .active := by
  rw [← active_iff, Bool.not_eq_true', Bool.not_eq_true]

/-- The checks of MOVE to a stall of screen `n`. -/
def moveChecks (u : State) (n : Fin 6) : List (Bool × Status) :=
  [(decide (u.night.state ≠ .opened ∨ u.shows.screens[n].state = .dark ∨
      u.shows.screens[n].state = .ended), .closed),
    (decide (u.doms.domains[screenDomain n].state ≠ .active), .domainDown)]

section

variable {handle : Word16} {screen : Byte} {stall : Word16}

theorem moveCommand_stale (hc : s.admCurrent (.ofWord handle) = false) :
    moveCommand handle screen stall s = s.refuse .stale := by
  simp [moveCommand, hc]

variable (hc : s.admCurrent (.ofWord handle) = true)

include hc

theorem moveCommand_damaged (hr : s.readTab (AdmHandle.ofWord handle).slot = (none, u)) :
    moveCommand handle screen stall s = u.refuse .damaged := by
  simp [moveCommand, hc, hr]

variable {x : Admission} {orders : List (Fin 256 × Order)}
  (hr : s.readTab (AdmHandle.ofWord handle).slot = (some (x, orders), u))

include hr

theorem moveCommand_badState (h : x.state ≠ .seated) : moveCommand handle screen stall s = u.refuse .badState := by
  simp [moveCommand, hc, hr, h]

variable (seated : x.state = .seated)

include seated

theorem moveCommand_badName {status : Status} (hn : u.lot.named screen stall = .error status) :
    moveCommand handle screen stall s = u.refuse status := by
  simp [moveCommand, hc, hr, seated, hn]

/-- MOVE to stall `i` as read. -/
def moveDone (a i : Fin 1024) (n : Fin 6) (number : Nat) (x : Admission) (orders : List (Fin 256 × Order)) :
    Stall × State → Reply
  | (y, v) =>
    if y.state v.lot.occupants[i] = .free ∧ x.cls.fits y.kind = true then
      (v.moveTo a i n number orders).ok (bytes2 number ++ [(v.moveTo a i n number orders).ticketChannel n])
    else v.refuse .badParam

theorem moveCommand_checked (hn : u.lot.named screen stall = .ok (n, i)) : moveCommand handle screen stall s =
    checked (moveChecks u n) u
      (moveDone (AdmHandle.ofWord handle).slot i n stall.toNat x orders (u.readStall i)) := by
  simp only [moveCommand, hc, hr, seated, hn, moveChecks, checked_cons, checked_nil, decide_eq_true_eq,
    takesCars_iff, notActive_iff, Bool.not_true, Bool.false_eq_true, ne_eq, not_true, if_false, moveDone]

end

theorem readStall_records (i : Fin 1024) (s : State) : (s.readStall i).2.mem.admissions = s.mem.admissions ∧
    (s.readStall i).2.mem.orders = s.mem.orders := by
  unfold State.readStall
  dsimp only
  split <;> exact ⟨rfl, rfl⟩

/-- Settles O28: the checks by their order, and the effects by what the move leaves. -/
theorem move : Obligations.Move := by
  refine fun handle screen stall s ht => ⟨fun hc => next_command_of_block ht (moveCommand_stale hc),
    fun u hc hr => next_command_of_block ht (moveCommand_damaged hc hr), fun x orders u hc hr =>
      ⟨fun h => next_command_of_block ht (moveCommand_badState hc hr h),
        fun status seated hn => next_command_of_block ht (moveCommand_badName hc hr seated hn),
        fun n i seated hn => ⟨fun status h => ?refused, fun y v h hy => ⟨fun unfit => ?unfit,
          fun empty fits clean => ?moves⟩⟩⟩⟩
  all_goals have block := moveCommand_checked hc hr seated hn
  case refused => exact next_command_of_block ht (block.trans (checked_refused _ h))
  all_goals
    have done := block.trans (checked_passed _ h)
    rw [hy] at done
    unfold moveDone at done
  case unfit => exact next_command_of_block ht (done.trans (if_neg unfit))
  case moves =>
    have answered := next_command_of_block ht (done.trans (if_pos ⟨empty, fits⟩))
    dsimp only [ok_state, ok_status, ok_data] at answered
    rw [readTab_clean clean] at hr
    simp only [Prod.mk.injEq, Option.some.injEq] at hr
    obtain ⟨⟨rfl, rfl⟩, rfl⟩ := hr
    obtain ⟨clear, ordersClean⟩ := clean
    obtain ⟨admissions, orders⟩ := readStall_records i s
    obtain ⟨fields, occupants, queues⟩ := Lot.readStall_lotKeeps i s
    have frame := readStall_lotFrame s i
    rw [hy] at admissions orders fields occupants queues frame
    dsimp only at admissions orders fields occupants queues frame
    have adm : v.adm (AdmHandle.ofWord handle).slot = s.adm (AdmHandle.ofWord handle).slot :=
      congrArg (fun w => w[(AdmHandle.ofWord handle).slot].content) admissions
    have order : ∀ k : Fin 256, v.mem.orders[k] = s.mem.orders[k] := fun k => by rw [orders]
    have hold := stallHeldBy_congr fields (fun j => congrArg (fun w => w[j].map Occupant.slot) occupants)
      (AdmHandle.ofWord handle).slot
    have home := screenOf_congr fields (fun j => congrArg (fun w => w[j].map Occupant.slot) occupants) queues
      (AdmHandle.ofWord handle).slot
    obtain ⟨record, stall', listed, leaves⟩ := moveTo_leaves (n := n) (number := stall.toNat)
      (orders := s.tabOrders (AdmHandle.ofWord handle).slot) (by rw [adm]; exact seated)
      (by rw [admissions]; exact clear.1) (Lot.state_free empty) hold home
    obtain ⟨lanes, posts, doms⟩ := moveTo_kept (AdmHandle.ofWord handle).slot i n stall.toNat
      (s.tabOrders (AdmHandle.ofWord handle).slot) v
    refine ⟨_, answered, record.trans (by rw [adm]), stall', fun k hk => ?_, leaves, fun m hm hmn => ?_, fun hm => ?_,
      lanes.trans (congrArg Gate.lanes (lotFrame_gate frame)), posts.trans (lotFrame_posts frame),
      doms.trans (lotFrame_doms frame)⟩
    · have slot := order k.slot
      have named : k.slot ∈ (s.tabOrders (AdmHandle.ofWord handle).slot).map Prod.fst := by
        unfold State.tabOrders
        rw [List.map_map]
        exact List.mem_map_of_mem (f := OrderHandle.slot) hk
      refine (listed k.slot named (by rw [slot]; exact (ordersClean k hk).1)).trans ?_
      unfold State.order
      rw [slot]
    · rw [← home] at hm
      obtain ⟨up, down⟩ := moveTo_live hm hmn i stall.toNat (s.tabOrders (AdmHandle.ofWord handle).slot)
      rw [up, down, lotFrame_gate frame]
      exact ⟨rfl, rfl⟩
    · rw [← home] at hm
      rw [moveTo_stays _ _ hm, lotFrame_gate frame]

end Sys2Proof.Lanes
end

section
/-!
SUPPORT. The totals of the night through a closing examination (R162, R165), and what FORCE_RETIRE does to the orders of
an admission (R63).
-/

namespace Sys2Proof.TabOrders

open Sys2Proof Sys2Proof.Machine Sys2Proof.Orders Sys2Proof.NightUnit Sys2Proof.Retiring

variable {s t u : State} {a : Fin 1024} {k : Fin 256} {c d : List (Fin 256)}

/-! ## Totals (R162, R165) -/

/-- The night is as it was, but that it may have closed. -/
def SameTotals (s t : State) : Prop :=
  t.night = { s.night with state := t.night.state, secondTimer := t.night.secondTimer }

theorem sameTotals_trans (h : SameTotals s t) (g : SameTotals t u) : SameTotals s u := by
  unfold SameTotals at *
  rw [g, h]

theorem sameTotals_of_night (h : t.night = s.night) : SameTotals s t := by
  unfold SameTotals
  rw [h]

theorem examineClose_totals (s : State) : SameTotals s s.examineClose := by
  unfold State.examineClose
  split
  · unfold SameTotals
    rw [closeNight_night]
  · rfl

theorem goDark_totals (n : Fin 6) (s : State) : SameTotals s (s.goDark n) := by
  rw [goDark_eq]
  exact sameTotals_trans (sameTotals_of_night (wanted_kept n s).1) (examineClose_totals _)

theorem examineEnded_totals (n : Fin 6) (s : State) : SameTotals s (s.examineEnded n) := by
  unfold State.examineEnded
  split
  · exact goDark_totals n s
  · rfl

theorem retireAdm_totals (a : Fin 1024) (n : Option (Fin 6)) (s : State) : SameTotals s (s.retireAdm a n) := by
  have slot : SameTotals s (s.retireAdmSlot a) := sameTotals_of_night (readFrame_night (retireAdmSlot_readFrame s a))
  cases n with
  | none => exact sameTotals_trans slot (examineClose_totals _)
  | some n =>
    exact sameTotals_trans (sameTotals_trans slot (sameTotals_of_night (by rfl)))
      (sameTotals_trans (examineEnded_totals n _) (examineClose_totals _))

theorem retireOrder_totals (k : Fin 256) (s : State) : SameTotals s (s.retireOrder k) := by
  have left : SameTotals s ((s.leaveKitchen k).leaveRunner k) := rfl
  have slot := readFrame_night (retireOrderSlot_readFrame ((s.leaveKitchen k).leaveRunner k) k)
  exact sameTotals_trans left (sameTotals_trans (sameTotals_of_night slot) (examineClose_totals _))

/-! ## Orders force-retired (R63, R156) -/

theorem unpaid_eq (x : Order) : x.unpaid = if x.state ≠ .placed ∧ x.paid = false then x.amount else 0 := by
  have charged : x.state.charged = true ↔ x.state ≠ .placed := by cases x.state <;> simp [OrderState.charged]
  simp only [Order.unpaid, charged]

/-- What the write-off takes of an order slot: the amount of a readable order that is charged and not PAID. -/
def writtenOff (s : State) (k : Fin 256) : Nat :=
  if s.mem.orders[k].marked = false ∧ s.mem.orders[k].health ≠ .double ∧
    (s.order k).state ≠ .placed ∧ (s.order k).paid = false then (s.order k).amount else 0

theorem writtenOff_readable (marked : s.mem.orders[k].marked = false) (health : s.mem.orders[k].health ≠ .double) :
    writtenOff s k = (s.order k).unpaid := by
  rw [unpaid_eq]
  exact if_congr ⟨fun h => ⟨h.2.2.1, h.2.2.2⟩, fun h => ⟨marked, health, h.1, h.2⟩⟩ rfl rfl

theorem readOrder_unpaid (k : Fin 256) (s : State) : (((s.readOrder k).1).map Order.unpaid).getD 0 = writtenOff s k := by
  cases marked : s.mem.orders[k].marked with
  | true =>
    rw [readOrder_marked marked, writtenOff, marked, if_neg fun h => Bool.noConfusion h.1]
    rfl
  | false =>
    cases health : s.mem.orders[k].health with
    | clean =>
      rw [readOrder_clean ⟨marked, health⟩]
      exact (writtenOff_readable marked (by rw [health]; nofun)).symm
    | single =>
      rw [Records.readOrder_single marked health]
      exact (writtenOff_readable marked (by rw [health]; nofun)).symm
    | double =>
      rw [Records.readOrder_double marked health, writtenOff, health, if_neg fun h => h.2.1 rfl]
      rfl

/-- From `s` to `t` the orders of `c` were read and retired in turn. -/
structure Forced (c : List (Fin 256)) (s t : State) : Prop where
  frame : s.orderFrame t
  totals : SameTotals s t
  admissions : t.mem.admissions = s.mem.admissions
  admGen : t.mem.admGen = s.mem.admGen
  orderFree : t.mem.orderFree = s.mem.orderFree ++ c
  other : ∀ k, k ∉ c → t.mem.orders[k] = s.mem.orders[k]

theorem forced_nil (s : State) : Forced [] s s where
  frame := rfl
  totals := rfl
  admissions := rfl
  admGen := rfl
  orderFree := (List.append_nil _).symm
  other _ _ := rfl

theorem forced_trans (h : Forced c s t) (g : Forced d t u) : Forced (c ++ d) s u where
  frame := orderFrame_trans h.frame g.frame
  totals := sameTotals_trans h.totals g.totals
  admissions := g.admissions.trans h.admissions
  admGen := g.admGen.trans h.admGen
  orderFree := by rw [g.orderFree, h.orderFree, List.append_assoc]
  other k hk := (g.other k fun hd => hk (List.mem_append_right c hd)).trans
    (h.other k fun hc => hk (List.mem_append_left d hc))

theorem readOrder_slots (k : Fin 256) (s : State) : (s.readOrder k).2.mem.admissions = s.mem.admissions ∧
    (s.readOrder k).2.mem.admGen = s.mem.admGen ∧ (s.readOrder k).2.mem.orderFree = s.mem.orderFree := by
  unfold State.readOrder
  dsimp only
  split
  · exact ⟨rfl, rfl, rfl⟩
  · split <;> exact ⟨rfl, rfl, rfl⟩

theorem retireOrderSlot_slots (k : Fin 256) (s : State) : (s.retireOrderSlot k).mem.admissions = s.mem.admissions ∧
    (s.retireOrderSlot k).mem.admGen = s.mem.admGen := by
  unfold State.retireOrderSlot State.unmarkOrder
  split <;> exact ⟨rfl, rfl⟩

theorem forced_one (k : Fin 256) (s : State) : Forced [k] s ((s.readOrder k).2.retireOrder k) := by
  have read := readOrder_readFrame s k
  have mem := retireOrder_mem k (s.readOrder k).2
  obtain ⟨admissions, admGen, orderFree⟩ := readOrder_slots k s
  obtain ⟨admissions', admGen'⟩ := retireOrderSlot_slots k (s.readOrder k).2
  refine {
    frame := orderFrame_trans (readFrame_orderFrame read) (retireOrder_orderFrame k _)
    totals := sameTotals_trans (sameTotals_of_night (readFrame_night read)) (retireOrder_totals k _)
    admissions := by rw [mem, admissions', admissions]
    admGen := by rw [mem, admGen', admGen]
    orderFree := by rw [mem, retireOrderSlot_free, orderFree]
    other := fun j hj => ?_ }
  have hj : j ≠ k := mt List.mem_singleton.mpr hj
  rw [mem, retireOrderSlot_other hj]
  exact Lanes.readOrder_other hj.symm s

theorem forceOrders_cons (k : Fin 256) (rest : List (Fin 256)) (s : State) : s.forceOrders (k :: rest) =
    ((((s.readOrder k).1).map Order.unpaid).getD 0 + (((s.readOrder k).2.retireOrder k).forceOrders rest).1,
      (((s.readOrder k).2.retireOrder k).forceOrders rest).2) := rfl

/-- Distinct orders force-retired: what is written off, and what is left. -/
theorem forceOrders_forced {orders : List (Fin 256)} (nodup : orders.Nodup) (s : State) :
    (s.forceOrders orders).1 = (orders.map (writtenOff s)).sum ∧ Forced orders s (s.forceOrders orders).2 := by
  induction orders generalizing s with
  | nil => exact ⟨rfl, forced_nil s⟩
  | cons k rest ih =>
    obtain ⟨fresh, rest'⟩ := List.nodup_cons.mp nodup
    have first := forced_one k s
    obtain ⟨sum, later⟩ := ih rest' ((s.readOrder k).2.retireOrder k)
    rw [forceOrders_cons]
    refine ⟨?_, forced_trans first later⟩
    have same : ∀ j ∈ rest, writtenOff ((s.readOrder k).2.retireOrder k) j = writtenOff s j := fun j hj => by
      have slot := first.other j fun h => fresh (List.mem_singleton.mp h ▸ hj)
      unfold writtenOff State.order
      rw [slot]
    rw [readOrder_unpaid, sum, List.map_congr_left same]
    rfl

end Sys2Proof.TabOrders
end

section
/-!
SUPPORT. REPAIR and FORCE_RETIRE of an admission (R62, R63).
-/

namespace Sys2Proof.Lanes

open Sys2Proof Sys2Proof.Machine Sys2Proof.Orders Sys2Proof.Invariants Sys2Proof.TabOrders

variable {s t u v : State} {a : Fin 1024} {h : AdmHandle} {handle : Word16}

/-! ## Orders read one by one (R8, R12) -/

theorem readOrder_some {k : Fin 256} {x : Order} (hr : s.readOrder k = (some x, u)) : x = s.order k := by
  unfold State.readOrder at hr
  dsimp only at hr
  split at hr
  · cases hr
  · split at hr
    · exact (Option.some.inj (Prod.mk.inj hr).1).symm
    · exact (Option.some.inj (Prod.mk.inj hr).1).symm
    · cases hr

/-- A list of orders that were all readable: their contents, in the order of the list. -/
theorem readOrders_all {l : List (Fin 256)} {xs : List (Fin 256 × Order)} (hr : s.readOrders l = (xs, true, u)) :
    xs = l.map fun k => (k, s.order k) := by
  induction l generalizing s xs u with
  | nil =>
    obtain ⟨rfl, -⟩ := Prod.mk.inj hr
    rfl
  | cons k rest ih =>
    unfold State.readOrders at hr
    cases first : s.readOrder k with
    | mk x v =>
      cases later : v.readOrders rest with
      | mk ys r =>
        obtain ⟨good, w⟩ := r
        simp only [first, later] at hr
        cases x with
        | none =>
          obtain ⟨-, bad⟩ := Prod.mk.inj hr
          exact nomatch (Prod.mk.inj bad).1
        | some x =>
          obtain ⟨rfl, all⟩ := Prod.mk.inj hr
          obtain ⟨rfl, -⟩ := Prod.mk.inj all
          have contents : ∀ j, v.order j = s.order j := fun j => by
            rw [← readOrder_order k j s, first]
          rw [ih later, readOrder_some first, List.map_cons]
          simp only [contents]

theorem readOrders_admissions (l : List (Fin 256)) (s : State) :
    (s.readOrders l).2.2.mem.admissions = s.mem.admissions := by
  induction l generalizing s with
  | nil => rfl
  | cons k rest ih =>
    have first := (readOrder_slots k s).1
    unfold State.readOrders
    generalize s.readOrder k = r at *
    obtain ⟨x, v⟩ := r
    have later := (ih v).trans first
    dsimp only at later ⊢
    generalize v.readOrders rest = q at *
    obtain ⟨ys, good, w⟩ := q
    cases x <;> exact later

/-! ## The orders that name an admission, by placed time (R62) -/

/-- Placed earlier, or within the same second in a lower slot. -/
def Earlier (p q : Fin 256 × Order) : Prop :=
  p.2.placed < q.2.placed ∨ p.2.placed = q.2.placed ∧ p.1 < q.1

/-- An order put before the first of later slots that was not placed before it. -/
theorem earlier_orderedInsert {p : Fin 256 × Order} {l : List (Fin 256 × Order)} (sorted : l.Pairwise Earlier)
    (lower : ∀ q ∈ l, p.1 < q.1) : (l.orderedInsert (fun x y => x.2.placed ≤ y.2.placed) p).Pairwise Earlier := by
  induction l with
  | nil => exact List.pairwise_singleton _ _
  | cons q rest ih =>
    obtain ⟨first, tail⟩ := List.pairwise_cons.mp sorted
    rw [List.orderedInsert_cons]
    split
    next before =>
      have later : ∀ r ∈ q :: rest, p.2.placed ≤ r.2.placed := fun r hr => by
        obtain rfl | hr := List.mem_cons.mp hr
        · exact before
        · obtain earlier | ⟨same, -⟩ := first r hr <;> omega
      refine List.pairwise_cons.mpr ⟨fun r hr => ?_, sorted⟩
      obtain earlier | same := Nat.lt_or_eq_of_le (later r hr)
      · exact .inl earlier
      · exact .inr ⟨same, lower r hr⟩
    next after =>
      refine List.pairwise_cons.mpr ⟨fun r hr => ?_, ih tail fun r hr => lower r (List.mem_cons_of_mem q hr)⟩
      obtain rfl | hr := (List.mem_orderedInsert _).mp hr
      · exact .inl (Nat.lt_of_not_le after)
      · exact first r hr

theorem earlier_insertionSort {l : List (Fin 256 × Order)} (ascending : l.Pairwise fun p q => p.1 < q.1) :
    (l.insertionSort fun x y => x.2.placed ≤ y.2.placed).Pairwise Earlier := by
  induction l with
  | nil => exact .nil
  | cons p rest ih =>
    obtain ⟨first, rest⟩ := List.pairwise_cons.mp ascending
    rw [List.insertionSort_cons]
    exact earlier_orderedInsert (ih rest) fun q hq => first q ((List.mem_insertionSort _).mp hq)

theorem liveOrders_ascending (s : State) : s.liveOrders.Pairwise (· < ·) :=
  (List.pairwise_lt_finRange 256).filter _

theorem ordersNaming_earlier {f : Fin 256 → Order} (h : AdmHandle) (s : State) :
    (ordersNaming h (s.liveOrders.map fun k => (k, f k))).Pairwise Earlier := by
  refine earlier_insertionSort (List.Pairwise.filter _ ?_)
  exact List.pairwise_map.mpr (liveOrders_ascending s)

theorem mem_ordersNaming {xs : List (Fin 256 × Order)} {o : Fin 256 × Order} :
    o ∈ ordersNaming h xs ↔ o ∈ xs ∧ o.2.admission = h := by
  rw [ordersNaming, List.mem_insertionSort, List.mem_filter, decide_eq_true_iff]

/-! ## What the index store says of an admission (R13, R62) -/

theorem laneOf_eq (g : Gate) (a : Fin 1024) :
    g.laneOf a = (List.finRange 4).find? fun n => decide (g.lanes[n].bound = some a) := by
  simp only [Gate.laneOf, beq_eq_decide]

theorem exitState_eq (l : Lane) : l.exitState =
    if (if l.state = .faulted then l.faultedFrom else some l.state) = some .leaving ∨
        (if l.state = .faulted then l.faultedFrom else some l.state) = some .passing then .leaving
    else .paying := by
  unfold Lane.exitState
  by_cases faulted : l.state = .faulted
  · simp only [if_pos faulted]
    cases l.faultedFrom <;> simp
  · simp [faulted]

theorem indexState_eq (a : Fin 1024) (s : State) : s.indexState a =
    match s.gate.laneOf a with
    | some n =>
      let y := s.gate.lanes[n]
      let held := if y.state = .faulted then y.faultedFrom else some y.state
      if y.role = .entry then .issued
      else if held = some .leaving ∨ held = some .passing then .leaving else .paying
    | none => match s.lot.stallHeldBy a with
      | some i => if s.lot.occupants[i] = some { slot := a, hold := .reservation } then .issued else .seated
      | none => .waiting := by
  unfold State.indexState
  cases hl : s.gate.laneOf a with
  | some n =>
    dsimp only
    rw [exitState_eq]
  | none =>
    dsimp only
    cases hs : s.lot.stallHeldBy a with
    | none => rfl
    | some i =>
      dsimp only
      have held := stallHeldBy_some hs
      cases ho : s.lot.occupants[i] with
      | none =>
        rw [ho] at held
        cases held
      | some o =>
        rw [ho] at held
        obtain ⟨slot, hold⟩ := o
        cases Option.some.inj held
        cases hold <;> simp

/-! ## REPAIR (R62) -/

/-- The checks of REPAIR. -/
def repairChecks (s : State) (h : AdmHandle) (cls lane : Byte) (time : Word24) : List (Bool × Status) :=
  [(!s.admCurrent h, .stale), (!s.mem.admissions[h.slot].marked, .badState),
    (decide (VehicleClass.ofByte cls = none ∨ numbered 4 lane = none ∨ 86399 < time.toNat), .badParam)]

variable {cls lane : Byte} {time : Word24}

theorem repair_refused {status : Status} (hf : firstFailing (repairChecks s (.ofWord handle) cls lane time) = some status) :
    repair handle cls lane time s = s.refuse status := by
  simp only [repairChecks, firstFailing_cons, firstFailing_nil, decide_eq_true_eq] at hf
  unfold repair
  dsimp only
  split at hf
  next stale =>
    cases hf
    exact if_pos stale
  next current =>
    rw [if_neg current]
    split at hf
    next readable =>
      cases hf
      exact if_pos readable
    next marked =>
      have marked : ¬ (!s.admMarked (AdmHandle.ofWord handle).slot) = true := marked
      rw [if_neg marked]
      split at hf
      next bad =>
        cases hf
        split
        next hc hl =>
          rw [hc, hl] at bad
          exact if_pos ((bad.resolve_left nofun).resolve_left nofun)
        next => rfl
      next => cases hf

section

variable {c : VehicleClass} {l : Fin 4} (hf : firstFailing (repairChecks s (.ofWord handle) cls lane time) = none)
  (hc : VehicleClass.ofByte cls = some c) (hl : numbered 4 lane = some l)

include hf

theorem repairChecks_pass : s.admCurrent (.ofWord handle) = true ∧
    s.mem.admissions[(AdmHandle.ofWord handle).slot].marked = true ∧ ¬ 86399 < time.toNat := by
  simp only [repairChecks, firstFailing_cons, firstFailing_nil, decide_eq_true_eq] at hf
  split at hf
  next => cases hf
  next current =>
    split at hf
    next => cases hf
    next marked =>
      split at hf
      next => cases hf
      next good =>
        exact ⟨by simpa using current, by simpa using marked, fun late => good (.inr (.inr late))⟩

include hc hl

theorem repair_reads : repair handle cls lane time s = match s.readOrders s.liveOrders with
    | (_, false, u) => u.refuse .damaged
    | (xs, true, u) =>
      let x := u.repaired (.ofWord handle) c l time.toNat xs
      (((u.modAdmSlot (AdmHandle.ofWord handle).slot (Slot.write x)).unmarkAdm (AdmHandle.ofWord handle).slot).examineTab
        (AdmHandle.ofWord handle).slot).ok (x.bytes (.ofWord handle)) := by
  obtain ⟨current, marked, time'⟩ := repairChecks_pass hf
  have marked : s.admMarked (AdmHandle.ofWord handle).slot = true := marked
  have time' : ¬ Config.lastSecond < time.toNat := time'
  simp only [repair, current, marked, hc, hl, Bool.not_true, Bool.false_eq_true, if_false, if_neg time'] <;> rfl

theorem repair_damaged {xs : List (Fin 256 × Order)} (hr : s.readOrders s.liveOrders = (xs, false, u)) :
    repair handle cls lane time s = u.refuse .damaged := by
  rw [repair_reads hf hc hl, hr]

end

/-- A marked slot rewritten, with its mark cleared. -/
theorem rewritten_eq (x : Admission) (marked : u.mem.admissions[a].marked = true) :
    (u.modAdmSlot a (Slot.write x)).unmarkAdm a = { u with mem := { u.mem with
      admissions := upd u.mem.admissions a fun y =>
        { y with content := x, health := y.flaws.headD .clean, flaws := y.flaws.tail, marked := false }
      admMarks := u.mem.admMarks - 1 } } := by
  have still : (u.modAdmSlot a (Slot.write x)).admMarked a = true := by
    show (upd u.mem.admissions a _)[a].marked = true
    rw [upd_get, if_pos rfl]
    exact marked
  have slots := Lot.upd_upd u.mem.admissions a (Slot.write x) Slot.unmark
  unfold State.unmarkAdm
  rw [if_pos still]
  exact congrArg (fun admissions => { u with mem := { u.mem with admissions, admMarks := u.mem.admMarks - 1 } }) slots

/-- The record that REPAIR writes, by what each field goes by. -/
theorem repaired_eq (h : AdmHandle) (c : VehicleClass) (l : Fin 4) (time : Nat) (xs : List (Fin 256 × Order)) (u : State) :
    let mine := ordersNaming h xs
    let bound := (List.finRange 4).find? fun n => decide (u.gate.lanes[n].bound = some h.slot)
    let place := u.lot.stallHeldBy h.slot
    u.repaired h c l time xs =
      { state := match bound with
          | some n =>
            let y := u.gate.lanes[n]
            let held := if y.state = .faulted then y.faultedFrom else some y.state
            if y.role = .entry then .issued
            else if held = some .leaving ∨ held = some .passing then .leaving else .paying
          | none => match place with
            | some i => if u.lot.occupants[i] = some { slot := h.slot, hold := .reservation } then .issued
              else .seated
            | none => .waiting
        cls := c, screen := (u.lot.screenOf h.slot).getD 0, stall := place.map u.lot.numberOf
        entryLane := (bound.filter fun n => u.gate.lanes[n].role = .entry).getD l, entryTime := time
        exitLane := bound.filter fun n => u.gate.lanes[n].role = .exit
        owed := (mine.map fun o => if o.2.state ≠ .placed ∧ o.2.paid = false then o.2.amount else 0).sum
        orders := mine.map fun o => u.orderHandle o.1 } := by
  intro mine bound place
  have unpaid : (mine.map fun o => o.2.unpaid) =
      mine.map fun o => if o.2.state ≠ .placed ∧ o.2.paid = false then o.2.amount else 0 :=
    List.map_congr_left fun o _ => unpaid_eq o.2
  unfold State.repaired
  dsimp only
  rw [indexState_eq, State.boundLane, State.boundLane, laneOf_eq, unpaid]

end Sys2Proof.Lanes
end

section
/-!
SUPPORT. FORCE_RETIRE of an admission (R63), and the statement about it and REPAIR.
-/

namespace Sys2Proof.Lanes

open Sys2Proof Sys2Proof.Machine Sys2Proof.Orders Sys2Proof.Invariants Sys2Proof.TabOrders

variable {s t u v : State} {a : Fin 1024} {h : AdmHandle} {handle : Word16} {m : Fin 4}

/-! ## The orders of a forced retirement (R63) -/

theorem ordersToForce_read {x : Admission} (hr : s.readAdm h.slot = (some x, u)) :
    s.ordersToForce h = (some (x.orders.map OrderHandle.slot), u) := by
  simp only [State.ordersToForce, hr]

theorem ordersToForce_damaged {xs : List (Fin 256 × Order)} (hr : s.readAdm h.slot = (none, u))
    (hx : u.readOrders u.liveOrders = (xs, false, v)) : s.ordersToForce h = (none, v) := by
  simp only [State.ordersToForce, hr, hx]

theorem ordersToForce_found {xs : List (Fin 256 × Order)} (hr : s.readAdm h.slot = (none, u))
    (hx : u.readOrders u.liveOrders = (xs, true, v)) :
    s.ordersToForce h = (some ((xs.filter fun o => o.2.admission = h).map Prod.fst), v) := by
  simp only [State.ordersToForce, hr, hx]

theorem readAdm_slots (a : Fin 1024) (s : State) : (s.readAdm a).2.mem.admGen = s.mem.admGen :=
  (spared_readAdm a a s).admGen

theorem readOrders_admGen (l : List (Fin 256)) (s : State) : (s.readOrders l).2.2.mem.admGen = s.mem.admGen := by
  induction l generalizing s with
  | nil => rfl
  | cons k rest ih =>
    have first := (readOrder_slots k s).2.1
    unfold State.readOrders
    generalize s.readOrder k = r at *
    obtain ⟨x, v⟩ := r
    have later := (ih v).trans first
    dsimp only at later ⊢
    generalize v.readOrders rest = q at *
    obtain ⟨ys, good, w⟩ := q
    cases x <;> exact later

theorem ordersToForce_kept (h : AdmHandle) (s : State) : s.readFrame (s.ordersToForce h).2 ∧
    (s.ordersToForce h).2.mem.admGen = s.mem.admGen := by
  have read := readAdm_readFrame s h.slot
  have gen := readAdm_slots h.slot s
  unfold State.ordersToForce
  generalize s.readAdm h.slot = r at *
  obtain ⟨x, u⟩ := r
  cases x with
  | some x => exact ⟨read, gen⟩
  | none =>
    have orders := readFrame_trans read (readOrders_readFrame u.liveOrders u)
    have same := (readOrders_admGen u.liveOrders u).trans gen
    dsimp only at orders same ⊢
    generalize u.readOrders u.liveOrders = q at *
    obtain ⟨xs, good, v⟩ := q
    cases good <;> exact ⟨orders, same⟩

/-! ## The admission retired (R63) -/

theorem unbind_kept (a : Fin 1024) (s : State) : (s.unbind a).mem = s.mem ∧ (s.unbind a).lot = s.lot ∧
    (s.unbind a).night = s.night := by
  unfold State.unbind
  split <;> exact ⟨rfl, rfl, rfl⟩

theorem unbind_lane (hl : s.gate.laneOf a = some m) :
    (s.unbind a).gate.lanes[m] = s.gate.lanes[m].free s.gate.stuckTime := by
  unfold State.unbind
  rw [hl]
  exact modLane_lane m _ s

/-- The state in which a force-retired admission's slot is retired. -/
def forcedOut (a : Fin 1024) (s : State) : State :=
  ((s.leavePlace a).unbind a).modNight fun n =>
    { n with forced := if (s.boundLane a .entry).isNone then n.forced + 1 else n.forced }

theorem forceAdm_eq (a : Fin 1024) (s : State) :
    s.forceAdm a = (forcedOut a s).retireAdm a (s.lot.screenOf a) := by
  unfold State.forceAdm forcedOut
  rfl

theorem forcedOut_kept (a : Fin 1024) (s : State) : (forcedOut a s).mem = (s.leavePlace a).mem ∧
    (forcedOut a s).lot = (s.leavePlace a).lot ∧
    (forcedOut a s).gate = ((s.leavePlace a).unbind a).gate ∧
    (forcedOut a s).night = { s.night with
      forced := if s.boundLane a .entry = none then s.night.forced + 1 else s.night.forced } := by
  obtain ⟨mem, lot, night⟩ := unbind_kept a (s.leavePlace a)
  rw [lotFrame_night (spared_leavePlace a s).frame] at night
  have forced : (forcedOut a s).night = { s.night with
      forced := if s.boundLane a .entry = none then s.night.forced + 1 else s.night.forced } := by
    rw [forcedOut, modNight_night, night]
    simp only [Option.isNone_iff_eq_none]
  exact ⟨(modNight_mem _ _).trans mem, (modNight_lot _ _).trans lot, modNight_gate _ _, forced⟩

theorem retireAdmSlot_orderFree (a : Fin 1024) (s : State) : (s.retireAdmSlot a).mem.orderFree = s.mem.orderFree := by
  unfold State.retireAdmSlot State.unmarkAdm
  split <;> rfl

theorem retireAdm_mem (a : Fin 1024) (n : Option (Fin 6)) (s : State) :
    (s.retireAdm a n).mem = (s.retireAdmSlot a).mem :=
  (showFrame_mem (retireAdm_showFrame a n s)).trans (counted_mem a n s)

theorem retireAdm_lanes (a : Fin 1024) (n : Option (Fin 6)) (s : State) :
    (s.retireAdm a n).gate.lanes = s.gate.lanes ∧ (s.retireAdm a n).lot = s.lot := by
  obtain ⟨lot, -, -, -, -, -, lanes⟩ := counted_kept a n s
  have frame := retireAdm_showFrame a n s
  exact ⟨(congrArg Gate.lanes (showFrame_gate frame)).trans lanes, (showFrame_lot frame).trans lot⟩

/-- What FORCE_RETIRE leaves of the admission and of its lane. -/
theorem forceAdm_leaves (a : Fin 1024) (s : State) : (s.forceAdm a).admLive a = false ∧
    (s.forceAdm a).mem.admGen[a] = s.mem.admGen[a] + 1 ∧ (s.forceAdm a).mem.admissions[a].marked = false ∧
    (s.forceAdm a).mem.orderFree = s.mem.orderFree ∧ (∀ m : Fin 6, a ∉ (s.forceAdm a).lot.queues[m]) ∧
    ∀ m : Fin 4, s.gate.laneOf a = some m →
      (s.forceAdm a).gate.lanes[m] = s.gate.lanes[m].free s.gate.stuckTime := by
  obtain ⟨mem, lot, gate, -⟩ := forcedOut_kept a s
  have place := spared_leavePlace a s
  have slots := retireAdm_mem a (s.lot.screenOf a) (forcedOut a s)
  obtain ⟨lanes, lot'⟩ := retireAdm_lanes a (s.lot.screenOf a) (forcedOut a s)
  rw [forceAdm_eq]
  refine ⟨Retiring.not_admLive_of_mem ?_, ?_, ?_, ?_, fun m => ?_, fun m hm => ?_⟩
  · rw [slots, Retiring.retireAdmSlot_free]
    simp
  · rw [slots, Retiring.retireAdmSlot_gen, mem, place.admGen]
    exact upd_get_same _ _ _
  · rw [slots, Retiring.retireAdmSlot_slot]
    rfl
  · rw [slots, retireAdmSlot_orderFree, mem, place.orderFree]
  · rw [lot', lot]
    exact leavePlace_queues m
  · have same := lotFrame_gate place.frame
    rw [← same] at hm
    rw [lanes, gate, unbind_lane hm, same]

theorem forceAdm_totals (a : Fin 1024) (s : State) : (s.forceAdm a).night.writeOffs = s.night.writeOffs ∧
    (s.forceAdm a).night.forced = if s.boundLane a .entry = none then s.night.forced + 1 else s.night.forced := by
  obtain ⟨-, -, -, night⟩ := forcedOut_kept a s
  have totals := retireAdm_totals a (s.lot.screenOf a) (forcedOut a s)
  unfold SameTotals at totals
  rw [night] at totals
  rw [forceAdm_eq, totals]
  exact ⟨rfl, rfl⟩

/-! ## FORCE_RETIRE (R63) -/

theorem forceRetireAdm_stale (hc : s.admCurrent (.ofWord handle) = false) :
    forceRetireAdm handle s = s.refuse .stale := by
  simp [forceRetireAdm, hc]

theorem forceRetireAdm_damaged (hc : s.admCurrent (.ofWord handle) = true)
    (ho : s.ordersToForce (.ofWord handle) = (none, u)) : forceRetireAdm handle s = u.refuse .damaged := by
  simp [forceRetireAdm, hc, ho]

/-- The state that FORCE_RETIRE leaves. -/
def forceRetired (a : Fin 1024) (orders : List (Fin 256)) (u : State) : State :=
  ((u.forceOrders orders).2.writeOff (u.forceOrders orders).1).forceAdm a

theorem forceRetireAdm_retires {orders : List (Fin 256)} (hc : s.admCurrent (.ofWord handle) = true)
    (ho : s.ordersToForce (.ofWord handle) = (some orders, u)) : forceRetireAdm handle s =
      (forceRetired (AdmHandle.ofWord handle).slot orders u).ok (bytes3 (u.forceOrders orders).1) := by
  simp only [forceRetireAdm, hc, ho, Bool.not_true, Bool.false_eq_true, if_false, forceRetired]

theorem boundLane_congr (h : t.gate = s.gate) (a : Fin 1024) (role : LaneRole) :
    t.boundLane a role = s.boundLane a role := by
  unfold State.boundLane
  rw [h]

theorem writeOff_mem (n : Nat) (s : State) : (s.writeOff n).mem = s.mem := modNight_mem _ s

/-- Settles O29: REPAIR by the record it writes; FORCE_RETIRE by its orders, its admission and the totals. -/
theorem repairAndForceRetire : Obligations.RepairAndForceRetire := by
  refine ⟨fun handle cls lane time s ht => ⟨fun status hf => next_command_of_block ht (repair_refused hf),
      fun c l hf hc hl => ⟨fun xs u hr => next_command_of_block ht (repair_damaged hf hc hl hr),
        fun xs u hr => ⟨readOrders_all hr, ordersNaming (.ofWord handle) xs, ?earlier, fun o => mem_ordersNaming, ?repairs⟩⟩⟩,
    fun handle s ht => ⟨fun hc => next_command_of_block ht (forceRetireAdm_stale hc),
      fun u hc ho => next_command_of_block ht (forceRetireAdm_damaged hc ho), fun orders u hc ho nodup => ?forces,
      fun x u => ordersToForce_read, fun u hr => ⟨fun xs v => ordersToForce_damaged hr,
        fun xs v => ordersToForce_found hr⟩⟩⟩
  case earlier =>
    rw [readOrders_all hr]
    exact ordersNaming_earlier _ s
  case repairs =>
    have marked : u.mem.admissions[(AdmHandle.ofWord handle).slot].marked = true := by
      have same := readOrders_admissions s.liveOrders s
      rw [hr] at same
      dsimp only at same
      rw [same]
      exact (repairChecks_pass hf).2.1
    have done := repair_reads hf hc hl
    rw [hr] at done
    dsimp only at done
    rw [rewritten_eq _ marked, repaired_eq] at done
    have answered := next_command_of_block ht done
    dsimp only [ok_state, ok_status, ok_data] at answered ⊢
    generalize ((List.finRange 4).find? fun n => decide (u.gate.lanes[n].bound = some (AdmHandle.ofWord handle).slot)) =
      bound at answered ⊢
    generalize u.lot.stallHeldBy (AdmHandle.ofWord handle).slot = place at answered ⊢
    cases bound <;> cases place <;> exact answered
  case forces =>
    obtain ⟨read, gen⟩ := ordersToForce_kept (.ofWord handle) s
    rw [ho] at read gen
    obtain ⟨sum, forced⟩ := forceOrders_forced nodup u
    have gate : ((u.forceOrders orders).2.writeOff (u.forceOrders orders).1).gate = s.gate :=
      (orderFrame_gate forced.frame).trans (readFrame_gate read)
    obtain ⟨live, gen', marked, free, queues, lanes⟩ := forceAdm_leaves (AdmHandle.ofWord handle).slot
      ((u.forceOrders orders).2.writeOff (u.forceOrders orders).1)
    obtain ⟨writeOffs, count⟩ := forceAdm_totals (AdmHandle.ofWord handle).slot
      ((u.forceOrders orders).2.writeOff (u.forceOrders orders).1)
    have answered := next_command_of_block ht (forceRetireAdm_retires hc ho)
    have night : u.night = s.night := readFrame_night read
    have totals := forced.totals
    unfold SameTotals at totals
    have amount : (orders.map fun k =>
        if u.mem.orders[k].marked = false ∧ u.mem.orders[k].health ≠ .double ∧
            (u.order k).state ≠ .placed ∧ (u.order k).paid = false then (u.order k).amount else 0).sum =
        (u.forceOrders orders).1 := sum.symm
    dsimp only [ok_state, ok_status, ok_data, forceRetired] at answered ⊢
    rw [amount]
    refine ⟨_, answered, live, ?gen, marked, fun k hk => ?order, queues, fun m hm => ?lane, ?writeOffs, ?count⟩
    case gen =>
      refine gen'.trans ?_
      rw [writeOff_mem, forced.admGen, gen]
    case order =>
      refine Retiring.not_orderLive_of_mem ?_
      rw [free, writeOff_mem, forced.orderFree]
      exact List.mem_append_right _ hk
    case lane =>
      rw [← gate] at hm
      rw [lanes m hm]
      exact ⟨rfl, rfl, rfl, rfl⟩
    case writeOffs =>
      rw [writeOffs, State.writeOff, modNight_night, totals, night]
      rfl
    case count =>
      rw [count, boundLane_congr gate, State.writeOff, modNight_night, totals, night]

end Sys2Proof.Lanes
end

section
/-!
SUPPORT. SETTLE (R151, R152): its checks in order, and what it leaves of the tab and the takings.
-/

namespace Sys2Proof.TabOrders

open Sys2Proof Sys2Proof.Machine Sys2Proof.Orders Sys2Proof.Retiring Sys2Proof.Lanes

variable {s t u : State} {a : Fin 1024} {k : Fin 256} {orders : List (Fin 256 × Order)}

/-! ## The list of an admission that loses orders -/

/-- Orders dropped in turn, in whatever slots: what is left of the record. -/
theorem each_record {f : Fin 256 × Order → State → State} (h : ∀ o s, Dropped a [o.1] s (f o s))
    (l : List (Fin 256 × Order)) (s : State) :
    (s.each l f).mem.admissions[a].marked = s.mem.admissions[a].marked ∧
      (s.mem.admissions[a].marked = false → (s.each l f).adm a =
        { s.adm a with orders := (s.adm a).orders.filter fun h => h.slot ∉ l.map Prod.fst }) := by
  induction l generalizing s with
  | nil => exact ⟨rfl, fun _ => by simp [State.each]⟩
  | cons o rest ih =>
    obtain ⟨marked, record⟩ := ih (f o s)
    refine ⟨marked.trans (h o s).marked, fun clear => ?_⟩
    rw [each_cons, record ((h o s).marked.trans clear), (h o s).record clear]
    simp only [List.filter_filter, List.map_cons, List.mem_cons, List.not_mem_nil, not_or, or_false, Bool.decide_and,
      Bool.and_comm]

/-! ## A tab paid (R151) -/

/-- The orders of a tab that are DELIVERED. -/
def deliveredSlots (orders : List (Fin 256 × Order)) : List (Fin 256) :=
  (orders.filter fun o => o.2.state = .delivered).map Prod.fst

/-- The state in which the charged orders of a tab are PAID. -/
def paidAll (orders : List (Fin 256 × Order)) (s : State) : State :=
  s.each (orders.filter fun o => o.2.state.charged) fun o s => s.writeOrder o.1 fun x => { x with paid := true }

theorem paidAll_eq (orders : List (Fin 256 × Order)) (s : State) :
    paidAll orders s = { s with mem := { s.mem with orders := (paidAll orders s).mem.orders } } :=
  writeOrders_eq (fun x => { x with paid := true }) _ s

theorem payOrders_eq (a : Fin 1024) (orders : List (Fin 256 × Order)) (s : State) : s.payOrders a orders =
    (paidAll orders s).each (orders.filter fun o => o.2.state = .delivered) fun o s =>
      (s.leaveList a o.1).retireOrder o.1 := rfl

theorem payOrders_record (clear : s.mem.admissions[a].marked = false) :
    (s.payOrders a orders).mem.admissions[a].marked = false ∧ (s.payOrders a orders).adm a =
      { s.adm a with orders := (s.adm a).orders.filter fun h => h.slot ∉ deliveredSlots orders } := by
  obtain ⟨marked, record⟩ := each_record (a := a) (fun o s => dropped_retireOrder a o.1 s)
    (orders.filter fun o => o.2.state = .delivered) (paidAll orders s)
  have slots : (paidAll orders s).mem.admissions = s.mem.admissions := by rw [paidAll_eq]
  have clear' : (paidAll orders s).mem.admissions[a].marked = false := by
    rw [slots]
    exact clear
  have adm : (paidAll orders s).adm a = s.adm a := congrArg (fun v => v[a].content) slots
  rw [adm] at record
  exact ⟨marked.trans clear', record clear'⟩

theorem payOrders_dropped (nodup : (orders.map Prod.fst).Nodup) :
    Dropped a (deliveredSlots orders) (paidAll orders s) (s.payOrders a orders) := by
  rw [payOrders_eq]
  exact dropped_each (fun o s => dropped_retireOrder a o.1 s) (nodup_filter_slots nodup _) _

theorem each_totals {f : Fin 256 × Order → State → State} (h : ∀ o s, SameTotals s (f o s))
    (l : List (Fin 256 × Order)) (s : State) : SameTotals s (s.each l f) := by
  induction l generalizing s with
  | nil => rfl
  | cons o rest ih => exact sameTotals_trans (h o s) (ih (f o s))

theorem payOrders_totals (a : Fin 1024) (orders : List (Fin 256 × Order)) (s : State) :
    SameTotals s (s.payOrders a orders) := by
  have paid : SameTotals s (paidAll orders s) := by
    rw [paidAll_eq]
    rfl
  rw [payOrders_eq]
  refine sameTotals_trans paid (each_totals (fun o s => ?_) _ _)
  exact sameTotals_trans (sameTotals_of_night (readFrame_night (writeAdm_readFrame s a _))) (retireOrder_totals o.1 _)

/-! ## The examination for tab clear leaves the tab -/

theorem examineTab_kept (a : Fin 1024) (s : State) : (s.examineTab a).night = s.night ∧
    (s.examineTab a).mem = (s.readAdm a).2.mem := by
  have read := readFrame_night (readAdm_readFrame s a)
  unfold State.examineTab
  generalize s.readAdm a = r at *
  obtain ⟨x, u⟩ := r
  cases x with
  | none => exact ⟨read, rfl⟩
  | some x =>
    dsimp only at read ⊢
    split
    · split <;> exact ⟨read, rfl⟩
    · exact ⟨read, rfl⟩

theorem examineTab_tab (a : Fin 1024) (s : State) : (s.examineTab a).adm a = s.adm a ∧
    (s.examineTab a).mem.orders = s.mem.orders ∧ (s.examineTab a).mem.orderFree = s.mem.orderFree := by
  have read := spared_readAdm a a s
  have mem := (examineTab_kept a s).2
  refine ⟨?_, by rw [mem, read.orders], by rw [mem, read.orderFree]⟩
  rw [← read.record]
  exact congrArg (fun m : RecordMemory => m.admissions[a].content) mem

/-- The state that SETTLE leaves before it examines the tab. -/
def settled (a : Fin 1024) (orders : List (Fin 256 × Order)) (amount : Nat) (s : State) : State :=
  ((s.payOrders a orders).writeAdm a fun y => { y with owed := 0 }).modNight fun n =>
    { n with takings := addTotal n.takings amount }

theorem settled_record {amount : Nat} (clear : s.mem.admissions[a].marked = false) :
    (settled a orders amount s).adm a = { s.adm a with
      owed := 0, orders := (s.adm a).orders.filter fun h => h.slot ∉ deliveredSlots orders } := by
  obtain ⟨marked, record⟩ := payOrders_record (orders := orders) clear
  show (upd (s.payOrders a orders).mem.admissions a _)[a].content = _
  rw [upd_get, if_pos rfl, if_neg (ne_true_of_eq_false marked)]
  exact congrArg (fun x : Admission => { x with owed := 0 }) record

theorem settled_frame (a : Fin 1024) (orders : List (Fin 256 × Order)) (amount : Nat) (s : State) :
    s.orderFrame (settled a orders amount s) :=
  orderFrame_trans (payOrders_orderFrame a orders s) rfl

theorem settled_totals (a : Fin 1024) (orders : List (Fin 256 × Order)) (amount : Nat) (s : State) :
    (settled a orders amount s).night.takings = min (s.night.takings + amount) 4294967295 ∧
      (settled a orders amount s).night.clock = s.night.clock ∧
      (settled a orders amount s).night.writeOffs = s.night.writeOffs := by
  have totals := payOrders_totals a orders s
  unfold SameTotals at totals
  have night : (settled a orders amount s).night = { (s.payOrders a orders).night with
      takings := addTotal (s.payOrders a orders).night.takings amount } := rfl
  rw [night, totals]
  exact ⟨rfl, rfl, rfl⟩

/-! ## The orders of a settled tab -/

section

variable {amount : Nat} (nodup : (orders.map Prod.fst).Nodup)

theorem settled_orders (a : Fin 1024) (orders : List (Fin 256 × Order)) (amount : Nat) (s : State) :
    (settled a orders amount s).mem.orders = (s.payOrders a orders).mem.orders ∧
      (settled a orders amount s).mem.orderFree = (s.payOrders a orders).mem.orderFree := ⟨rfl, rfl⟩

include nodup

theorem settled_delivered (h : k ∈ deliveredSlots orders) : k ∈ (settled a orders amount s).mem.orderFree := by
  rw [(settled_orders a orders amount s).2, (payOrders_dropped nodup).free]
  exact List.mem_append_right _ h

theorem settled_kept (h : k ∉ deliveredSlots orders) :
    (settled a orders amount s).mem.orders[k] = (paidAll orders s).mem.orders[k] :=
  ((payOrders_dropped (a := a) (s := s) nodup).other k h).1

end

theorem paidAll_uncharged (h : k ∉ (orders.filter fun o => o.2.state.charged).map Prod.fst) :
    (paidAll orders s).mem.orders[k] = s.mem.orders[k] := writeOrders_other _ h s

theorem paidAll_charged (h : k ∈ (orders.filter fun o => o.2.state.charged).map Prod.fst)
    (clear : s.mem.orders[k].marked = false) : (paidAll orders s).order k = { s.order k with paid := true } :=
  writeOrders_order (f := fun x => { x with paid := true }) (fun _ => rfl) h clear

/-- The orders of a tab by a state that goes by their slots. -/
theorem mem_tabOrders_filter {p : OrderState → Bool} {h : OrderHandle} (hh : h ∈ (s.adm a).orders) :
    h.slot ∈ ((s.tabOrders a).filter fun o => p o.2.state).map Prod.fst ↔ p (s.order h.slot).state = true := by
  constructor
  · intro mem
    obtain ⟨o, ho, same⟩ := List.mem_map.mp mem
    obtain ⟨ho, state⟩ := List.mem_filter.mp ho
    obtain ⟨g, -, rfl⟩ := List.mem_map.mp ho
    dsimp only at same state
    rw [← same]
    exact state
  · intro state
    exact List.mem_map.mpr ⟨(h.slot, s.order h.slot),
      List.mem_filter.mpr ⟨List.mem_map.mpr ⟨h, hh, rfl⟩, state⟩, rfl⟩

theorem mem_deliveredSlots {h : OrderHandle} (hh : h ∈ (s.adm a).orders) :
    h.slot ∈ deliveredSlots (s.tabOrders a) ↔ (s.order h.slot).state = .delivered :=
  (mem_tabOrders_filter (p := fun st => decide (st = .delivered)) hh).trans decide_eq_true_iff

theorem charged_iff (st : OrderState) : st.charged = true ↔ st ≠ .placed := by cases st <;> simp [OrderState.charged]

/-! ## SETTLE (R151) -/

section

variable {handle : Word16} {amount : Word24}

/-- The checks of SETTLE that come before its reads. -/
def settleChecks (s : State) (h : AdmHandle) (amount : Word24) : List (Bool × Status) :=
  [(!s.admCurrent h, .stale), (decide (99999 < amount.toNat), .badParam)]

/-- SETTLE with the tab as read. -/
def settleDone (a : Fin 1024) (amount : Word24) : Option (Admission × List (Fin 256 × Order)) × State → Reply
  | (none, u) => u.refuse .damaged
  | (some (x, orders), u) =>
    if amount.toNat ≠ x.owed then
      { state := u, status := .mismatch, data := bytes3 x.owed ++ [byte1 x.orders.length] }
    else
      ((settled a orders amount.toNat u).examineTab a).ok (bytes3 amount.toNat ++
        [byte1 (orders.countP fun o => o.2.state.charged && !o.2.paid),
          byte1 (orders.countP fun o => o.2.state = .delivered),
          byte1 (x.orders.length - orders.countP fun o => o.2.state = .delivered)])

theorem settle_checked (handle : Word16) (amount : Word24) (s : State) : settle handle amount s =
    checked (settleChecks s (.ofWord handle) amount) s
      (settleDone (AdmHandle.ofWord handle).slot amount (s.readTab (AdmHandle.ofWord handle).slot)) := by
  simp only [settle, settleChecks, checked_cons, checked_nil, decide_eq_true_eq, Config.amountLimit]
  generalize s.readTab (AdmHandle.ofWord handle).slot = r
  obtain ⟨x, u⟩ := r
  cases x with
  | none => rfl
  | some x =>
    obtain ⟨x, orders⟩ := x
    rfl

end

theorem count_paid (orders : List (Fin 256 × Order)) : (orders.countP fun o => o.2.state.charged && !o.2.paid) =
    (orders.filter fun o => o.2.state ≠ .placed ∧ o.2.paid = false).length := by
  rw [List.countP_eq_length_filter]
  refine congrArg List.length (List.filter_congr fun o _ => ?_)
  rw [Bool.eq_iff_iff, Bool.and_eq_true, charged_iff, Bool.not_eq_true', decide_eq_true_iff]

/-- What a settled tab keeps of its admission and its orders, when it was read as written. -/
theorem settledTab_record {amount : Nat} (clean : s.tabClean a) :
    (((settled a (s.tabOrders a) amount s).examineTab a).adm a).owed = 0 ∧
    (((settled a (s.tabOrders a) amount s).examineTab a).adm a).state = (s.adm a).state ∧
    (((settled a (s.tabOrders a) amount s).examineTab a).adm a).orders =
      (s.adm a).orders.filter fun k => (s.order k.slot).state ≠ .delivered := by
  rw [(examineTab_tab a _).1, settled_record clean.1.1]
  refine ⟨rfl, rfl, List.filter_congr fun h hh => ?_⟩
  rw [decide_eq_decide, mem_deliveredSlots hh]

theorem settledTab_orders {amount : Nat} (clean : s.tabClean a) (nodup : ((s.adm a).orders.map OrderHandle.slot).Nodup)
    {h : OrderHandle} (hh : h ∈ (s.adm a).orders) :
    ((s.order h.slot).state = .placed →
      ((settled a (s.tabOrders a) amount s).examineTab a).order h.slot = s.order h.slot) ∧
    ((s.order h.slot).state = .delivered →
      ((settled a (s.tabOrders a) amount s).examineTab a).orderLive h.slot = false) ∧
    ((s.order h.slot).state ≠ .placed → (s.order h.slot).state ≠ .delivered →
      ((settled a (s.tabOrders a) amount s).examineTab a).order h.slot = { s.order h.slot with paid := true }) := by
  have slots : ((s.tabOrders a).map Prod.fst).Nodup := by
    rw [State.tabOrders, List.map_map]
    exact nodup
  have charged := mem_tabOrders_filter (p := OrderState.charged) hh
  obtain ⟨-, orders, free⟩ := examineTab_tab a (settled a (s.tabOrders a) amount s)
  have kept : (s.order h.slot).state ≠ .delivered →
      ((settled a (s.tabOrders a) amount s).examineTab a).order h.slot =
        (paidAll (s.tabOrders a) s).order h.slot := fun waits => by
    have slot := settled_kept (a := a) (s := s) (amount := amount) slots (mt (mem_deliveredSlots hh).mp waits)
    exact (congrArg (fun v => v[h.slot].content) orders).trans (congrArg Slot.content slot)
  refine ⟨fun placed => (kept (by rw [placed]; nofun)).trans ?_, fun delivered => ?_, fun owing waits => (kept waits).trans ?_⟩
  · have uncharged : h.slot ∉ ((s.tabOrders a).filter fun o => o.2.state.charged).map Prod.fst := by
      rw [charged, placed]
      nofun
    exact congrArg Slot.content (paidAll_uncharged uncharged)
  · refine not_orderLive_of_mem ?_
    rw [free]
    exact settled_delivered slots ((mem_deliveredSlots hh).mpr delivered)
  · exact paidAll_charged (charged.mpr ((charged_iff _).mpr owing)) (clean.2 h hh).1

/-- Settles O47: the checks by their order, the totals by the frames of the order table, and the tab by its orders. -/
theorem settleTab : Obligations.Settle := by
  refine fun p handle amount s ht => ⟨fun status hf => ?refused, fun u hf hr => ?damaged, fun x orders u hf hr =>
    ⟨fun other => ?mismatch, fun same => ?settles⟩⟩
  case refused => exact next_command_of_block ht ((settle_checked handle amount s).trans (checked_refused _ hf))
  all_goals
    have done := (settle_checked handle amount s).trans (checked_passed _ hf)
    rw [hr] at done
  case damaged => exact next_command_of_block ht done
  case mismatch => exact next_command_of_block ht (done.trans (if_pos other))
  case settles =>
    have answered := next_command_of_block ht (done.trans (if_neg (not_not_intro same)))
    rw [count_paid, List.countP_eq_length_filter] at answered
    have read := readTab_readFrame s (AdmHandle.ofWord handle).slot
    rw [hr] at read
    have frame := orderFrame_trans (readFrame_orderFrame read) (orderFrame_trans
      (settled_frame (AdmHandle.ofWord handle).slot orders amount.toNat u) (examineTab_orderFrame (AdmHandle.ofWord handle).slot _))
    obtain ⟨takings, clock, writeOffs⟩ := settled_totals (AdmHandle.ofWord handle).slot orders amount.toNat u
    have night := (examineTab_kept (AdmHandle.ofWord handle).slot (settled (AdmHandle.ofWord handle).slot orders amount.toNat u)).1
    have before : u.night = s.night := readFrame_night read
    rw [before] at takings clock writeOffs
    rw [← night] at takings clock writeOffs
    refine ⟨_, answered, takings, clock, writeOffs, fun clean => ?_, fun clean nodup k hk => ?_, orderFrame_gate frame,
      orderFrame_lot frame, orderFrame_shows frame, orderFrame_posts frame, orderFrame_doms frame⟩
    all_goals
      rw [readTab_clean clean] at hr
      simp only [Prod.mk.injEq, Option.some.injEq] at hr
      obtain ⟨⟨rfl, rfl⟩, rfl⟩ := hr
    · exact settledTab_record clean
    · exact settledTab_orders clean nodup hk

end Sys2Proof.TabOrders
end

section
/-!
SUPPORT. The inputs of a domain and what it does at a qualified change of READY or STOP_ACK (R169, R173 to R175).
-/

namespace Sys2Proof.EquipmentDomains

open Sys2Proof Sys2Proof.Machine

variable {d : Fin 8} {i : DomainInput} {s : State}

/-! ## A change of an input -/

theorem modInput_state (i : DomainInput) (f : Input → Input) (x : Domain) : (x.modInput i f).state = x.state := by
  cases i <;> rfl

theorem modInput_input (i : DomainInput) (f : Input → Input) (x : Domain) : (x.modInput i f).input i = f (x.input i) := by
  cases i <;> rfl

/-- A part with a qualified input. -/
def qualified (d : Fin 8) (i : DomainInput) (s : State) : State := s.modDomain d (Domain.modInput i Input.qualify)

theorem qualified_domain (d : Fin 8) (i : DomainInput) (s : State) :
    (qualified d i s).doms.domains[d] = s.doms.domains[d].modInput i Input.qualify :=
  replaced_same (modDomain_replaced d _ s)

theorem qualified_state (d : Fin 8) (i : DomainInput) (s : State) :
    (qualified d i s).doms.domains[d].state = s.doms.domains[d].state :=
  (congrArg Domain.state (qualified_domain d i s)).trans (modInput_state i _ _)

/-- The level a qualified input takes is that of its pin. -/
theorem qualified_level (d : Fin 8) (i : DomainInput) (s : State) :
    ((qualified d i s).doms.domains[d].input i).level = (s.doms.domains[d].input i).raw :=
  congrArg Input.level ((congrArg (Domain.input · i) (qualified_domain d i s)).trans (modInput_input i _ _))

theorem exec_domainInputChange (d : Fin 8) (i : DomainInput) (high : Bool) (s : State) :
    exec (.domainInputChange d i high) s = .next (s.modDomain d (Domain.modInput i fun x =>
      if s.sys.phase = .running then
        if x.raw = high then x
        else { x with raw := high, timer := if high = x.level then none else some 20 }
      else { x with raw := high })) := by
  have changed : (if s.sys.phase = .running then Input.change high Config.domainLevelTime else Input.setRaw high) =
      fun x => if s.sys.phase = .running then Input.change high Config.domainLevelTime x else Input.setRaw high x := by
    funext x
    split <;> rfl
  exact congrArg (fun f => Host.Outcome.next (s.modDomain d (Domain.modInput i f))) changed

theorem exec_domainLevelChange (running : s.sys.phase = .running) (timer : (s.doms.domains[d].input i).timer ≠ none) :
    exec (.domainLevelChange d i) s = .next ((qualified d i s).domainLevel d i) :=
  congrArg Host.Outcome.next ((whileRunning_running _ _ running).trans (if_pos (Shows.isSome_of_ne_none timer)))

/-! ## What the domain's state makes of a qualified change -/

theorem domainLevel_stopping (state : s.doms.domains[d].state = .stopping) : s.domainLevel d i =
    if i = .stopAck ∧ s.doms.domains[d].stopAck.level then s.domainResting d else s := by
  rw [State.domainLevel, state]

theorem domainLevel_resting (state : s.doms.domains[d].state = .resting) : s.domainLevel d i = s := by
  rw [State.domainLevel, state]

theorem domainLevel_examines (state : s.doms.domains[d].state = .waking ∨ s.doms.domains[d].state = .faulted) :
    s.domainLevel d i = s.examineDomain d := by
  rw [State.domainLevel]
  obtain state | state := state <;> rw [state]

theorem domainLevel_active (state : s.doms.domains[d].state = .active) : s.domainLevel d i =
    if i = .ready ∧ s.doms.domains[d].ready.level = false then s.domainFaulted d else s := by
  rw [State.domainLevel, state]

theorem examineDomain_active (ready : s.doms.domains[d].ready.level = true)
    (ack : s.doms.domains[d].stopAck.level = false) :
    s.examineDomain d = (s.domainActive d).raiseBooth .domainDone :=
  if_pos (fit_eq_true.mpr ⟨ready, ack⟩)

theorem examineDomain_stays (h : s.doms.domains[d].ready.level = false ∨ s.doms.domains[d].stopAck.level = true) :
    s.examineDomain d = s := by
  refine if_neg fun fit => ?_
  obtain ⟨ready, ack⟩ := fit_eq_true.mp fit
  obtain low | high := h
  · exact Bool.false_ne_true (low.symm.trans ready)
  · exact Bool.false_ne_true (ack.symm.trans high)

theorem domainResting_done
    (member : ∃ e : Fin 8, (s.modDomain d (Domain.enter .resting none)).doms.domains[e].status = true)
    (rest : ∀ e : Fin 8, (s.modDomain d (Domain.enter .resting none)).doms.domains[e].status = true →
      (s.modDomain d (Domain.enter .resting none)).doms.domains[e].state = .resting) :
    s.domainResting d = (s.modDomain d (Domain.enter .resting none)).raiseBooth .domainDone :=
  if_pos ((rested_iff _).mpr ⟨member, rest⟩)

theorem domainResting_waits
    (h : ¬ ((∃ e : Fin 8, (s.modDomain d (Domain.enter .resting none)).doms.domains[e].status = true) ∧
      ∀ e : Fin 8, (s.modDomain d (Domain.enter .resting none)).doms.domains[e].status = true →
        (s.modDomain d (Domain.enter .resting none)).doms.domains[e].state = .resting)) :
    s.domainResting d = s.modDomain d (Domain.enter .resting none) :=
  if_neg fun rested => h ((rested_iff _).mp rested)

/-- Settles O52: the inputs by their definitions, and the event of an input by the domain's state. -/
theorem domainInputs : Obligations.DomainInputs := by
  refine fun d s => ⟨fun i high => exec_domainInputChange d i high s, fun i running timer => ?_⟩
  have event := exec_domainLevelChange running timer
  have state := qualified_state d i s
  have level := qualified_level d i s
  refine ⟨fun h => ⟨fun hi raw => ?rests, fun h' => ?stopping⟩, fun h => ?resting,
    fun h => ⟨fun ready ack => ?wakes, fun h' => ?waits⟩, fun h => ⟨fun hi raw => ?faults, fun h' => ?active⟩⟩
  case rests =>
    subst hi
    rw [domainLevel_stopping (state.trans h), if_pos ⟨rfl, level.trans raw⟩] at event
    exact ⟨fun member rest => event.trans (congrArg _ (domainResting_done member rest)),
      fun h' => event.trans (congrArg _ (domainResting_waits h'))⟩
  case stopping =>
    rw [domainLevel_stopping (state.trans h)] at event
    refine event.trans (congrArg _ (if_neg fun rests => ?_))
    obtain ⟨hi, high⟩ := rests
    subst hi
    obtain hi | low := h'
    · cases hi
    · exact Bool.false_ne_true (low.symm.trans (level.symm.trans high))
  case resting => exact event.trans (congrArg _ (domainLevel_resting (state.trans h)))
  case wakes =>
    rw [domainLevel_examines (by rwa [state])] at event
    exact event.trans (congrArg _ (examineDomain_active ready ack))
  case waits =>
    rw [domainLevel_examines (by rwa [state])] at event
    exact event.trans (congrArg _ (examineDomain_stays h'))
  case faults =>
    subst hi
    rw [domainLevel_active (state.trans h), if_pos ⟨rfl, level.trans raw⟩] at event
    exact event
  case active =>
    rw [domainLevel_active (state.trans h)] at event
    refine event.trans (congrArg _ (if_neg fun faults => ?_))
    obtain ⟨hi, low⟩ := faults
    subst hi
    obtain hi | high := h'
    · cases hi
    · exact Bool.false_ne_true ((low.symm.trans level).trans high)

end Sys2Proof.EquipmentDomains
end

section
/-!
SUPPORT. A screen whose domain is lost (R82, R89, R121): its show abandoned or held, its channels given up, and what its
rows are left with.
-/

namespace Sys2Proof.Losses

open Sys2Proof Sys2Proof.Machine Sys2Proof.Shows Sys2Proof.Channels Sys2Proof.Staging Sys2Proof.NightUnit

variable {n m : Fin 6} {s t : State}

/-! ## The show controller takes no channel and no sound record (R71 to R77, R81) -/

theorem addHold_chans (n : Fin 6) (r : HoldReason) (s : State) : (s.addHold n r).chans = s.chans := by
  unfold State.addHold
  split
  · exact setShow_chans n .held (s.modScreen n _)
  · rfl

theorem removeHold_chans (n : Fin 6) (r : HoldReason) (s : State) : (s.removeHold n r).chans = s.chans := by
  unfold State.removeHold
  split
  · dsimp only
    split
    · exact setShow_chans n _ (s.modScreen n _)
    · rfl
  · rfl

theorem enterSegment_chans (n : Fin 6) (k : Nat) (s : State) : (s.enterSegment n k).chans = s.chans := by
  unfold State.enterSegment
  dsimp only
  split
  · exact setShow_chans n _ (s.modScreen n _)
  · rfl

theorem beginShow_chans (n : Fin 6) (s : State) : (s.beginShow n).chans = s.chans := by
  have entered : ((s.modScreen n fun c => { c with startTimer := none, start := some s.night.clock }).enterSegment n
      1).chans = s.chans := enterSegment_chans n 1 (s.modScreen n _)
  unfold State.beginShow
  dsimp only
  split
  · rw [addHold_chans, entered]
  · exact entered

theorem examineStart_chans (n : Fin 6) (s : State) : (s.examineStart n).chans = s.chans := by
  have entered : ((s.modScreen n fun c => { c with
      current := some 1, startTimer := seconds s.shows.startTimeout }).setShow n .starting).chans = s.chans :=
    setShow_chans n _ (s.modScreen n _)
  unfold State.examineStart
  split
  · dsimp only
    split
    · rw [beginShow_chans, entered]
    · exact entered
  · rfl

theorem abandonStart_chans (n : Fin 6) (s : State) : (s.abandonStart n).chans = s.chans := by
  unfold State.abandonStart
  split
  · rw [examineStart_chans]
    exact setShow_chans n _ (s.modScreen n _)
  · rfl

theorem domainLost_chans (n : Fin 6) (s : State) : (s.domainLost n).chans = s.chans := by
  rw [State.domainLost, addHold_chans, abandonStart_chans]

theorem soundTaken_chans (n : Fin 6) (s : State) : (s.soundTaken n).chans = s.chans := by
  unfold State.soundTaken
  split
  · split
    · exact examineStart_chans n s
    · exact removeHold_chans n _ s
    · rfl
  · exact examineStart_chans n s
  · exact domainLost_chans n s
  · exact domainLost_chans n s

theorem showSound_chans (n : Fin 6) (s : State) : (s.showSound n).chans = s.chans :=
  each_keeps (fun t => t.chans = s.chans) rfl (fun _ _ ht => by exact ht) _

/-! ## The sounds after a change (R87, R98) -/

theorem enter_sound (x : Sound) (time : Nat) (r : SoundRecord) : (r.enter x time).sound = x := by
  unfold SoundRecord.enter SoundRecord.qualify
  dsimp only
  split
  · split
    · split <;> rfl
    · split <;> rfl
  · rfl

theorem setSound_sounds (n : Fin 6) (x : Sound) (s : State) : (s.setSound n x).chans.sounds =
    upd s.chans.sounds n (SoundRecord.enter x s.chans.faultTime) := by
  rw [State.setSound, showSound_chans, soundTaken_chans]
  rfl

theorem setSound_sound (n : Fin 6) (x : Sound) (s : State) : (s.setSound n x).chans.sounds[n].sound = x :=
  (congrArg SoundRecord.sound ((congrArg (·[n]) (setSound_sounds n x s)).trans (upd_get_same _ _ _))).trans
    (enter_sound x _ _)

theorem setSound_other (x : Sound) (s : State) (h : n ≠ m) :
    (s.setSound n x).chans.sounds[m] = s.chans.sounds[m] :=
  (congrArg (·[m]) (setSound_sounds n x s)).trans (upd_get_other _ _ _ _ h)

/-- A freed channel is no matter of a screen that is not FAILED. -/
theorem offer_spares (c : Fin 12) (h : s.chans.sounds[m].sound ≠ .failed) :
    (s.offer c).shows.screens[m] = s.shows.screens[m] ∧ (s.offer c).chans.sounds[m] = s.chans.sounds[m] := by
  unfold State.offer
  split
  · cases first : (List.finRange 6).find? fun k => decide (s.chans.sounds[k].sound = .failed) with
    | none => exact ⟨rfl, rfl⟩
    | some k =>
      have failed : s.chans.sounds[k].sound = .failed := by simpa using List.find?_some first
      have distinct : m ≠ k := fun same => h (same ▸ failed)
      exact ⟨(only_trans (only_setChannel k c (.held k .live) s) (only_setSound k (.live c) _)).other m distinct,
        setSound_other (.live c) (s.setChannel c (.held k .live)) distinct.symm⟩
  · exact ⟨rfl, rfl⟩

/-! ## A show without sound (R81, R82) -/

/-- A show that the loss of its sound changes no more: not STARTING, and if under way HELD for SOUND. -/
def Silent (c : Screen) : Prop :=
  c.state ≠ .starting ∧ (c.state.underWay = true → c.state = .held ∧ c.reasons.sound = true)

theorem domainLost_silent (h : Silent s.shows.screens[n]) :
    (s.domainLost n).shows.screens[n] = s.shows.screens[n] := by
  obtain ⟨starting, under⟩ := h
  rw [State.domainLost, abandonStart_idle starting]
  by_cases way : s.shows.screens[n].state.underWay = true
  · obtain ⟨held, reason⟩ := under way
    rw [addHold_underWay way, setShow_screen, modScreen_screen, shownAs, if_pos held]
    cases record : s.shows.screens[n] with
    | mk =>
      rw [record] at reason
      simp only [HoldReasons.set] at reason ⊢
      rw [← reason]
  · rw [addHold_idle way]

theorem setSound_off_silent (h : Silent s.shows.screens[n]) :
    (s.setSound n .off).shows.screens[n] = s.shows.screens[n] := by
  have off : (s.modSound n (SoundRecord.enter .off s.chans.faultTime)).chans.sounds[n].sound = .off := by
    rw [modSound_sound, enter_sound]
  rw [State.setSound, showSound_shows, soundTaken_none (.inr off)]
  exact domainLost_silent (s := s.modSound n (SoundRecord.enter .off s.chans.faultTime)) h

/-- A sound given up: the screen's show does not change, and its sound is OFF. -/
def Muted (n : Fin 6) (s t : State) : Prop :=
  t.shows.screens[n] = s.shows.screens[n] ∧ t.chans.sounds[n].sound = .off

theorem muted_offer (c : Fin 12) (h : Muted n s t) : Muted n s (t.offer c) := by
  obtain ⟨screen, off⟩ := h
  obtain ⟨screen', sound⟩ := offer_spares (s := t) (m := n) c (by rw [off]; decide)
  exact ⟨screen'.trans screen, (congrArg SoundRecord.sound sound).trans off⟩

theorem giveUp_muted (h : Silent s.shows.screens[n]) : Muted n s (s.giveUp n) := by
  have muted (u : State) (shows : u.shows = s.shows) : Muted n s (u.setSound n .off) :=
    ⟨(setSound_off_silent (by rw [shows]; exact h)).trans (by rw [shows]), setSound_sound n .off u⟩
  unfold State.giveUp
  cases sound : s.chans.sounds[n].sound with
  | live c => exact muted_offer c (muted (s.setChannel c .free) rfl)
  | announce c next cause =>
    have freed := muted (((s.setChannel c .free).setChannel next .free).modSound n fun r =>
      { r with announceTimer := none }) rfl
    dsimp only
    split
    · exact muted_offer next (muted_offer c freed)
    · exact muted_offer c (muted_offer next freed)
  | failed => exact muted s rfl
  | off => exact ⟨rfl, sound⟩

/-! ## A wanting brought up to date (R88, R89) -/

theorem acquire_wanting (n : Fin 6) (s : State) :
    (s.acquire n).chans.sounds[n].wanting = s.chans.sounds[n].wanting := by
  unfold State.acquire
  split
  · exact Retiring.takeChannel_wanting n n _ s
  · exact (only_trans (only_setSound n .failed s) (only_raiseBooth n .nochan _)).wanting n

theorem updateWanting_wanting (n : Fin 6) (s : State) : (s.updateWanting n).chans.sounds[n].wanting = s.wants n := by
  unfold State.updateWanting
  split
  next same => exact same.symm
  next =>
    split
    next wants => rw [acquire_wanting, modSound_sound, wants]
    next wants => rw [Retiring.giveUp_wanting, modSound_sound, eq_false_of_ne_true wants]

theorem wants_inactive (h : s.active (screenDomain n) = false) : s.wants n = false := by
  rw [State.wants, h, Bool.and_false]

theorem wants_active (lit : s.shows.screens[n].state ≠ .dark) (h : s.active (screenDomain n) = true) :
    s.wants n = true := by
  rw [State.wants, h, Bool.and_true]
  exact bne_iff_ne.mpr lit

/-- A silent show whose domain is not ACTIVE: its screen stays as it was, and its sound is OFF if it wanted a channel. -/
theorem updateWanting_silent (inactive : s.active (screenDomain n) = false) (h : Silent s.shows.screens[n]) :
    (s.updateWanting n).shows.screens[n] = s.shows.screens[n] ∧
      (s.chans.sounds[n].wanting = true → (s.updateWanting n).chans.sounds[n].sound = .off) := by
  unfold State.updateWanting
  rw [wants_inactive inactive]
  split
  next same => exact ⟨rfl, fun wanting => absurd (same.trans wanting) Bool.false_ne_true⟩
  next =>
    rw [if_neg Bool.false_ne_true]
    obtain ⟨screen, off⟩ := giveUp_muted (s := s.modSound n fun r => { r with wanting := false }) h
    exact ⟨screen, fun _ => off⟩

/-! ## The domain of a screen lost (R82) -/

theorem abandonStart_inactive (inactive : s.active (screenDomain n) = false)
    (starting : s.shows.screens[n].state = .starting) : s.abandonStart n =
      (s.modScreen n fun c => { c with startTimer := none, current := none }).setShow n .preshow := by
  refine (abandonStart_starting starting).trans (if_neg fun starts => ?_)
  obtain ⟨-, -, active, -⟩ := startCondition_iff.mp starts
  have doms := showFrame_doms (setShow_showFrame
    (s.modScreen n fun c => { c with startTimer := none, current := none }) n .preshow)
  rw [doms] at active
  exact Bool.false_ne_true (inactive.symm.trans (decide_eq_true active))

theorem domainLost_starting (inactive : s.active (screenDomain n) = false)
    (starting : s.shows.screens[n].state = .starting) : (s.domainLost n).shows.screens[n].state = .preshow := by
  have preshow : (s.abandonStart n).shows.screens[n].state = .preshow := by
    rw [abandonStart_inactive inactive starting, setShow_screen, shownAs_state]
  rw [State.domainLost, addHold_idle (by rw [preshow]; decide), preshow]

theorem domainLost_underWay (h : s.shows.screens[n].state.underWay = true) :
    (s.domainLost n).shows.screens[n].state = .held ∧ (s.domainLost n).shows.screens[n].reasons.sound = true := by
  have idle : s.abandonStart n = s := abandonStart_idle fun starting => by
    rw [starting] at h
    cases h
  rw [State.domainLost, idle, addHold_underWay h, setShow_screen, modScreen_screen]
  exact ⟨shownAs_state _ _, by rw [shownAs_reasons]; rfl⟩

theorem domainLost_leaves (inactive : s.active (screenDomain n) = false) :
    Silent (s.domainLost n).shows.screens[n] := by
  by_cases starting : s.shows.screens[n].state = .starting
  · rw [Silent, domainLost_starting inactive starting]
    exact ⟨by decide, fun way => by cases way⟩
  · by_cases way : s.shows.screens[n].state.underWay = true
    · obtain ⟨held, reason⟩ := domainLost_underWay way
      exact ⟨by rw [held]; decide, fun _ => ⟨held, reason⟩⟩
    · rw [State.domainLost, abandonStart_idle starting, addHold_idle way]
      exact ⟨starting, fun under => absurd under way⟩

/-! ## The rows of a screen (R101, R121, R122) -/

theorem rowsOf_congr (h : t.lot = s.lot) (n : Fin 6) : t.rowsOf n = s.rowsOf n := by
  unfold State.rowsOf
  rw [h]

/-- What each entry of a list brings about for itself, and none undoes, holds for all of them. -/
theorem each_reaches {α : Type} {f : α → State → State} {P : α → State → Prop} (reach : ∀ a s, P a (f a s))
    (keep : ∀ a b s, P a s → P a (f b s)) (l : List α) (s : State) : ∀ a ∈ l, P a (s.each l f) := by
  induction l generalizing s with
  | nil => exact fun _ h => absurd h List.not_mem_nil
  | cons b rest ih =>
    intro a h
    obtain rfl | h := List.mem_cons.mp h
    · exact each_keeps (P a) (reach a s) (fun c t ht => keep a c t ht) rest
    · exact ih (f b s) a h

theorem queueRows_queued (n : Fin 6) (s : State) : ∀ r ∈ s.rowsOf n, (s.queueRows n).disp.queued[r] = true := by
  refine each_reaches (P := fun r t => t.disp.queued[r] = true) (fun r t => upd_get_same _ _ _) (fun r q t queued => ?_) _ s
  show (upd t.disp.queued q fun _ => true)[r] = true
  rw [upd_get]
  split
  · rfl
  · exact queued

/-- A row with no sequence, no tone and a QUIET qualifier. -/
def Still (x : Row) : Prop := x.sequence = .none ∧ x.tone = .none ∧ x.qualifier = .quiet

theorem still_silence (x : Row) : Still x.silence := ⟨rfl, rfl, rfl⟩

theorem rowsLost_still (n : Fin 6) (s : State) : ∀ r ∈ s.rowsOf n, Still (s.rowsLost n).posts.rows[r] := by
  refine each_reaches (P := fun r t => Still t.posts.rows[r]) (fun r t => ?_) (fun r q t still => ?_) _ s
  · rw [PostRows.modRow_row]
    exact still_silence _
  · show Still (upd t.posts.rows q Row.silence)[r]
    rw [upd_get]
    split
    · exact still_silence _
    · exact still

theorem rowsLost_beside (n : Fin 6) (s : State) : s.rowsLost n = { s with posts := (s.rowsLost n).posts } :=
  each_keeps (fun t => t = { s with posts := t.posts }) rfl
    (fun r t ht => by
      show ({ t with posts := (t.modRow r Row.silence).posts } : State) = _
      rw [ht]) (s.rowsOf n)

theorem rowsLost_shows (n : Fin 6) (s : State) : (s.rowsLost n).shows = s.shows :=
  (congrArg State.shows (rowsLost_beside n s) : _)

theorem rowsLost_chans (n : Fin 6) (s : State) : (s.rowsLost n).chans = s.chans :=
  (congrArg State.chans (rowsLost_beside n s) : _)

theorem takePresent_beside (r : Fin 48) (s : State) : s.takePresent r = { s with posts := (s.takePresent r).posts } := by
  unfold State.takePresent
  split <;> rfl

theorem rowsGained_beside (n : Fin 6) (s : State) : s.rowsGained n = { s with posts := (s.rowsGained n).posts } :=
  each_keeps (fun t => t = { s with posts := t.posts }) rfl
    (fun r t ht => by
      rw [takePresent_beside r t, ht]) (s.rowsOf n)

theorem rowsGained_lot (n : Fin 6) (s : State) : (s.rowsGained n).lot = s.lot :=
  (congrArg State.lot (rowsGained_beside n s) : _)

theorem rowsGained_chans (n : Fin 6) (s : State) : (s.rowsGained n).chans = s.chans :=
  (congrArg State.chans (rowsGained_beside n s) : _)

theorem queueRows_beside (n : Fin 6) (s : State) : s.queueRows n = { s with disp := (s.queueRows n).disp } :=
  each_keeps (fun t => t = { s with disp := t.disp }) rfl
    (fun r t ht => by
      show ({ t with disp := (t.modDisp fun d => { d with queued := upd d.queued r fun _ => true }).disp } : State) = _
      rw [ht]) (s.rowsOf n)

theorem queueRows_chans (n : Fin 6) (s : State) : (s.queueRows n).chans = s.chans :=
  (congrArg State.chans (queueRows_beside n s) : _)

end Sys2Proof.Losses
end

section
/-!
SUPPORT. A domain that enters ACTIVE or FAULTED (R174, R175, R179) and the timers of its handshakes (R173, R174).
-/

namespace Sys2Proof.EquipmentDomains

open Sys2Proof Sys2Proof.Machine Sys2Proof.NightUnit Sys2Proof.Shows Sys2Proof.Staging Sys2Proof.Losses

variable {d : Fin 8} {n : Fin 6} {s t : State}

/-! ## The dependents of a domain (R128, R168, R179) -/

theorem eq_screenDomain (h : d.val = n.val) : d = screenDomain n := Fin.ext h

theorem screenDomain_screen (n : Fin 6) : domainScreen (screenDomain n) = some n := dif_pos n.isLt

theorem reportGained_screen (n : Fin 6) (s : State) : s.reportGained (screenDomain n) =
    (((s.examineStart n).updateWanting n).rowsGained n).queueRows n := by
  rw [State.reportGained, screenDomain_screen]

theorem reportLost_screen (n : Fin 6) (s : State) : s.reportLost (screenDomain n) =
    ((s.domainLost n).updateWanting n).rowsLost n := by
  rw [State.reportLost, screenDomain_screen]

theorem reportGained_kitchen (h : d = kitchen) (s : State) : s.reportGained d = s.recomputeWindows := by
  subst h
  rfl

theorem reportLost_kitchen (h : d = kitchen) (s : State) : s.reportLost d = s.recomputeWindows := by
  subst h
  rfl

theorem reportGained_gates (h : d = gates) (s : State) : s.reportGained d = s := by
  subst h
  rfl

theorem reportLost_gates (h : d = gates) (s : State) : s.reportLost d = s := by
  subst h
  rfl

theorem modDomain_active (d : Fin 8) (st : DomainState) (x : Timer) (s : State) :
    (s.modDomain d (Domain.enter st x)).active d = decide (st = .active) := by
  rw [State.active, replaced_same (modDomain_replaced d _ s)]
  rfl

/-- A domain gained: every word of the screen's rows is sent, and a show that is not DARK wants a channel. -/
theorem reportGained_rows (n : Fin 6) (s : State) (r : Fin 48) (h : r ∈ s.rowsOf n) :
    (s.reportGained (screenDomain n)).disp.queued[r] = true := by
  have frame := showFrame_trans (examineStart_showFrame n s) (updateWanting_showFrame n _)
  have rows := rowsOf_congr ((rowsGained_lot n _).trans (showFrame_lot frame)) n
  rw [reportGained_screen]
  exact queueRows_queued n _ r (by rwa [rows])

theorem reportGained_wanting (lit : s.shows.screens[n].state ≠ .dark) (active : s.active (screenDomain n) = true) :
    (s.reportGained (screenDomain n)).chans.sounds[n].wanting = true := by
  have doms := showFrame_doms (examineStart_showFrame n s)
  have wanting : ((s.examineStart n).updateWanting n).chans.sounds[n].wanting = true :=
    (updateWanting_wanting n _).trans (wants_active ((onward_examineStart n s).notDark n lit)
      (by rwa [State.active, doms]))
  rw [reportGained_screen, queueRows_chans, rowsGained_chans]
  exact wanting

/-- What the loss of its domain does to a screen: its show abandoned or held, its channel given up, its rows still. -/
structure DomainGone (n : Fin 6) (s t : State) : Prop where
  starting : s.shows.screens[n].state = .starting → t.shows.screens[n].state = .preshow
  underWay : s.shows.screens[n].state.underWay = true →
    t.shows.screens[n].state = .held ∧ t.shows.screens[n].reasons.sound = true
  wanting : s.chans.sounds[n].wanting = true →
    t.chans.sounds[n].wanting = false ∧ t.chans.sounds[n].sound = .off
  rows : ∀ r ∈ s.rowsOf n, Still t.posts.rows[r]

theorem reportLost_gone (inactive : s.active (screenDomain n) = false) :
    DomainGone n s (s.reportLost (screenDomain n)) := by
  have frame := domainLost_showFrame s n
  have inactive' : (s.domainLost n).active (screenDomain n) = false := by rwa [State.active, showFrame_doms frame]
  obtain ⟨screen, off⟩ := updateWanting_silent inactive' (domainLost_leaves inactive)
  have lot := showFrame_lot (showFrame_trans frame (updateWanting_showFrame n _))
  have still := rowsLost_still n ((s.domainLost n).updateWanting n)
  rw [domainLost_chans] at off
  rw [rowsOf_congr lot] at still
  have unwanted := (updateWanting_wanting n (s.domainLost n)).trans (wants_inactive inactive')
  rw [reportLost_screen]
  refine ⟨fun starting => ?_, fun way => ?_, fun wanting => ?_, still⟩
  · rw [rowsLost_shows, screen]
    exact domainLost_starting inactive starting
  · rw [rowsLost_shows, screen]
    exact domainLost_underWay way
  · rw [rowsLost_chans]
    exact ⟨unwanted, off wanting⟩

/-! ## A domain enters ACTIVE (R179) -/

theorem domainActive_windows (h : d = kitchen) (s : State) (n : Fin 6) :
    (s.domainActive d).ords.windows[n] = (s.domainActive d).windowCondition n := by
  have frame := recomputeWindows_windowFrame (s.modDomain d (Domain.enter .active none))
  rw [State.domainActive, reportGained_kitchen h, recomputeWindows_windows, windowFrame_windowCondition frame]

theorem domainActive_gates (h : d = gates) (s : State) : s.domainActive d = { s with doms := (s.domainActive d).doms } := by
  rw [State.domainActive, reportGained_gates h]
  rfl

theorem domainActive_rows (n : Fin 6) (s : State) (r : Fin 48) (h : r ∈ s.rowsOf n) :
    (s.domainActive (screenDomain n)).disp.queued[r] = true := by
  have rows : (s.modDomain (screenDomain n) (Domain.enter .active none)).rowsOf n = s.rowsOf n := rowsOf_congr rfl n
  rw [State.domainActive]
  exact reportGained_rows n _ r (by rwa [rows])

theorem domainActive_wanting (lit : s.shows.screens[n].state ≠ .dark) :
    (s.domainActive (screenDomain n)).chans.sounds[n].wanting = true := by
  have active := modDomain_active (screenDomain n) .active none s
  have lit' : (s.modDomain (screenDomain n) (Domain.enter .active none)).shows.screens[n].state ≠ .dark := lit
  rw [State.domainActive]
  exact reportGained_wanting lit' active

/-! ## A domain becomes FAULTED (R174, R175) -/

/-- A domain FAULTED and its timeout raised, before the report. -/
def faulted (d : Fin 8) (s : State) : State := (s.modDomain d (Domain.enter .faulted none)).raiseBooth .domainTimeout

theorem faulted_active (d : Fin 8) (s : State) : (faulted d s).active d = false := modDomain_active d .faulted none s

theorem domainFaulted_reported (h : s.doms.domains[d].state = .active) :
    s.domainFaulted d = (faulted d s).reportLost d := if_pos (decide_eq_true h)

theorem domainFaulted_quiet (h : s.doms.domains[d].state ≠ .active) : s.domainFaulted d = faulted d s :=
  if_neg fun active => h (of_decide_eq_true active)

theorem domainFaulted_replaced (d : Fin 8) (s : State) :
    Replaced d (s.doms.domains[d].enter .faulted none) s (s.domainFaulted d) := by
  by_cases h : s.doms.domains[d].state = .active
  · rw [domainFaulted_reported h]
    exact reportLost_doms d _
  · rw [domainFaulted_quiet h]
    rfl

theorem onward_domainFaulted (d : Fin 8) (s : State) : Onward (faulted d s) (s.domainFaulted d) := by
  by_cases h : s.doms.domains[d].state = .active
  · rw [domainFaulted_reported h]
    exact onward_reportLost d _
  · rw [domainFaulted_quiet h]
    exact onward_refl _

/-- A kind raised and not dropped since stands. -/
theorem attention_onward {k : BoothKind} (h : Onward (s.raiseBooth k) t) :
    t.booth.attention &&& kindSet k.bit ≠ 0 := by
  have raised : (s.raiseBooth k).booth.attention.getLsbD k.bit = true := by
    cases k <;> simp [State.raiseBooth, State.modPort, Port.raise, Port.withLine, kindSet, BoothKind.bit]
  have stands := h.attention _ raised
  intro empty
  have bit := congrArg (·.getLsbD k.bit) empty
  rw [BitVec.getLsbD_and, stands] at bit
  cases k <;> simp [kindSet, BoothKind.bit] at bit

theorem domainFaulted_beside (h : s.doms.domains[d].state ≠ .active ∨ d = gates) :
    s.domainFaulted d = { s with doms := (s.domainFaulted d).doms, booth := (s.domainFaulted d).booth } := by
  have quiet : s.domainFaulted d = faulted d s := by
    by_cases active : s.doms.domains[d].state = .active
    · obtain other | gates := h
      · exact absurd active other
      · exact (domainFaulted_reported active).trans (reportLost_gates gates _)
    · exact domainFaulted_quiet active
  rw [quiet]
  rfl

theorem domainFaulted_windows (h : s.doms.domains[d].state = .active) (hd : d = kitchen) (n : Fin 6) :
    (s.domainFaulted d).ords.windows[n] = false := by
  have inactive : (faulted d s).active kitchen = false := by
    rw [← hd]
    exact faulted_active d s
  rw [domainFaulted_reported h, reportLost_kitchen hd, recomputeWindows_windows, State.windowCondition, inactive,
    Bool.and_false, Bool.false_and]

theorem domainFaulted_gone (h : s.doms.domains[screenDomain n].state = .active) :
    DomainGone n s (s.domainFaulted (screenDomain n)) := by
  rw [domainFaulted_reported h]
  obtain ⟨starting, way, wanting, rows⟩ := reportLost_gone (faulted_active (screenDomain n) s)
  exact ⟨starting, way, wanting, rows⟩

/-! ## The handshake timers (R173, R174) -/

theorem exec_wakeTimerExpiry (running : s.sys.phase = .running) (timer : s.doms.domains[d].timer ≠ none)
    (state : s.doms.domains[d].state = .waking) : exec (.wakeTimerExpiry d) s = .next (s.domainFaulted d) :=
  congrArg Host.Outcome.next ((whileRunning_running _ _ running).trans
    (if_pos ⟨state, Shows.isSome_of_ne_none timer⟩))

/-- The record of a domain whose stop was not acknowledged, before it returns. -/
def unacknowledged (d : Fin 8) (s : State) : State :=
  (s.modDomain d fun x => { x with status := false }).raiseBooth .domainTimeout

theorem unacknowledged_domain (d : Fin 8) (s : State) :
    (unacknowledged d s).doms.domains[d] = { s.doms.domains[d] with status := false } :=
  replaced_same (modDomain_replaced d (fun x => { x with status := false }) s)

theorem exec_acknowledgeTimerExpiry (running : s.sys.phase = .running) (timer : s.doms.domains[d].timer ≠ none)
    (state : s.doms.domains[d].state = .stopping) :
    exec (.acknowledgeTimerExpiry d) s = .next ((unacknowledged d s).endRest d) := by
  have ended : (unacknowledged d s).endRest d = (unacknowledged d s).domainReturn d :=
    endRest_stopping (by rw [unacknowledged_domain]; exact state)
  rw [ended]
  exact congrArg Host.Outcome.next ((whileRunning_running _ _ running).trans
    (if_pos ⟨state, Shows.isSome_of_ne_none timer⟩))

/-- The record with which a domain leaves STOPPING for want of an acknowledgement. -/
theorem unacknowledged_replaced (d : Fin 8) (s : State) :
    Replaced d (endedRecord s.doms.wakeTime { s.doms.domains[d] with status := false }) s
      ((unacknowledged d s).endRest d) := by
  have ended := endRest_replaced d (unacknowledged d s)
  rw [unacknowledged_domain] at ended
  exact replaced_trans (modDomain_replaced d (fun x => { x with status := false }) s) ended

theorem acknowledge_expires (running : s.sys.phase = .running) (timer : s.doms.domains[d].timer ≠ none)
    (state : s.doms.domains[d].state = .stopping) : ∃ t : State, exec (.acknowledgeTimerExpiry d) s = .next t ∧
      t.doms.domains[d].status = false ∧ t.doms.domains[d].stopReq = false ∧
      t.doms.domains[d].plan = s.doms.domains[d].plan ∧ t.booth.attention &&& kindSet 12 ≠ 0 ∧
      (s.doms.domains[d].ready.level = true →
        t.doms.domains[d].state = .active ∧ t.doms.domains[d].timer = none) ∧
      (s.doms.domains[d].ready.level = false →
        t.doms.domains[d].state = .waking ∧ t.doms.domains[d].timer = some (s.doms.wakeTime * 1000)) ∧
      ∀ e : Fin 8, e ≠ d → t.doms.domains[e] = s.doms.domains[e] := by
  have replaced := unacknowledged_replaced d s
  have record := replaced_same replaced
  let x : Domain := { s.doms.domains[d] with status := false }
  obtain ⟨plan, status, -, -⟩ := endedRecord_keeps s.doms.wakeTime x
  refine ⟨_, exec_acknowledgeTimerExpiry running timer state, ?_, ?_, ?_,
    attention_onward (k := .domainTimeout) (onward_endRest d _), fun ready => ?_, fun ready => ?_,
    fun e he => replaced_other replaced he⟩ <;> rw [record]
  · exact status
  · exact endedRecord_stopReq (x := x) _ (.inl state)
  · exact plan
  · rw [endedRecord_active (x := x) _ (.inl ⟨state, ready⟩)]
    exact ⟨rfl, rfl⟩
  · have unfit : x.fit = false := eq_false_of_ne_true fun fit =>
      Bool.false_ne_true (ready.symm.trans (fit_eq_true.mp fit).1)
    rw [endedRecord_waking (x := x) _ (.inl state) unfit fun _ => ready]
    exact ⟨rfl, rfl⟩

/-- Settles O53: the records as replaced, the dependents by the domain's report, and the timers by the state. -/
theorem domainChanges : Obligations.DomainChanges := by
  refine fun d s => ⟨?active, ?faulted, fun running timer => ⟨exec_wakeTimerExpiry running timer,
    acknowledge_expires running timer⟩⟩
  case active =>
    rintro t rfl
    have replaced := domainActive_replaced d s
    refine ⟨replaced_same replaced, fun e he => replaced_other replaced he, fun kitchen => domainActive_windows kitchen s,
      fun gates => domainActive_gates gates s, fun n hd => ?_⟩
    obtain rfl := eq_screenDomain hd
    exact ⟨domainActive_rows n s, fun lit _ => domainActive_wanting lit⟩
  case faulted =>
    rintro t rfl
    have replaced := domainFaulted_replaced d s
    refine ⟨replaced_same replaced, fun e he => replaced_other replaced he,
      attention_onward (k := .domainTimeout) (onward_domainFaulted d s), domainFaulted_beside, domainFaulted_windows,
      fun n active hd => ?_⟩
    obtain rfl := eq_screenDomain hd
    obtain ⟨starting, way, wanting, rows⟩ := domainFaulted_gone active
    exact ⟨starting, fun way' => way ((underWay_iff _).mpr way'), wanting, rows⟩

end Sys2Proof.EquipmentDomains
end

section
/-!
SUPPORT. The records at FORCE_CLOSE (R163 steps 1 to 3): the orders and admissions retired, and the lot emptied.
-/

namespace Sys2Proof.Tearing

open Sys2Proof Sys2Proof.Machine Sys2Proof.Orders Sys2Proof.Retiring Sys2Proof.Lanes Sys2Proof.TabOrders

variable {s t u : State}

/-! ## Slots retired (R5) -/

theorem mem_liveOrders {k : Fin 256} : k ∈ s.liveOrders ↔ s.orderLive k = true := by
  simp [State.liveOrders]

theorem mem_liveAdms {a : Fin 1024} : a ∈ s.liveAdms ↔ s.admLive a = true := by
  simp [State.liveAdms]

theorem nodup_liveOrders (s : State) : s.liveOrders.Nodup := (List.nodup_finRange 256).filter _

theorem nodup_liveAdms (s : State) : s.liveAdms.Nodup := (List.nodup_finRange 1024).filter _

/-- No order lives once the live ones have been freed. -/
theorem orderLive_freed (free : t.mem.orderFree = s.mem.orderFree ++ s.liveOrders) (k : Fin 256) :
    t.orderLive k = false := by
  refine not_orderLive_of_mem ?_
  rw [free, List.mem_append]
  by_cases live : s.orderLive k = true
  · exact .inr (mem_liveOrders.mpr live)
  · exact .inl (by simpa [State.orderLive] using live)

/-- No admission lives once the live ones have been freed. -/
theorem admLive_freed (free : t.mem.admFree = s.mem.admFree ++ s.liveAdms) (a : Fin 1024) : t.admLive a = false := by
  refine not_admLive_of_mem ?_
  rw [free, List.mem_append]
  by_cases live : s.admLive a = true
  · exact .inr (mem_liveAdms.mpr live)
  · exact .inl (by simpa [State.admLive] using live)

/-- A generation raised for a slot of a list. -/
def raisedGen {w n : Nat} (c : List (Fin n)) (gen : Vector (BitVec w) n) (k : Fin n) : BitVec w :=
  if k ∈ c then gen[k] + 1 else gen[k]

theorem raisedGen_cons {w n : Nat} {k : Fin n} {rest : List (Fin n)} (fresh : k ∉ rest) (gen : Vector (BitVec w) n)
    (j : Fin n) : raisedGen rest (upd gen k (· + 1)) j = raisedGen (k :: rest) gen j := by
  unfold raisedGen
  rw [upd_get]
  by_cases same : k = j
  · subst same
    simp [fresh]
  · simp [same, Ne.symm same]

/-! ## The orders torn down (R163 step 1) -/

/-- From `s` to `t` the orders of `c` were read and their slots retired in turn. -/
structure OrdersTorn (c : List (Fin 256)) (s t : State) : Prop where
  frame : s.readFrame t
  admGen : t.mem.admGen = s.mem.admGen
  admFree : t.mem.admFree = s.mem.admFree
  orderGen : ∀ k : Fin 256, t.mem.orderGen[k] = raisedGen c s.mem.orderGen k
  orderFree : t.mem.orderFree = s.mem.orderFree ++ c

/-- An order read and its slot retired. -/
def tornOrder (k : Fin 256) (s : State) : State := (s.readOrder k).2.retireOrderSlot k

theorem readOrder_slotsKept (k : Fin 256) (s : State) : (s.readOrder k).2.mem.admGen = s.mem.admGen ∧
    (s.readOrder k).2.mem.admFree = s.mem.admFree ∧ (s.readOrder k).2.mem.orderGen = s.mem.orderGen ∧
    (s.readOrder k).2.mem.orderFree = s.mem.orderFree := by
  unfold State.readOrder
  dsimp only
  split
  · exact ⟨rfl, rfl, rfl, rfl⟩
  · split <;> exact ⟨rfl, rfl, rfl, rfl⟩

theorem retireOrderSlot_adms (k : Fin 256) (s : State) : (s.retireOrderSlot k).mem.admGen = s.mem.admGen ∧
    (s.retireOrderSlot k).mem.admFree = s.mem.admFree := by
  unfold State.retireOrderSlot State.unmarkOrder
  split <;> exact ⟨rfl, rfl⟩

theorem tornOrder_frame (k : Fin 256) (s : State) : s.readFrame (tornOrder k s) :=
  readFrame_trans (readOrder_readFrame s k) (retireOrderSlot_readFrame _ k)

theorem tornOrder_other {j k : Fin 256} (h : j ≠ k) (s : State) : (tornOrder k s).mem.orders[j] = s.mem.orders[j] :=
  (retireOrderSlot_other h _).trans (readOrder_other h.symm s)

theorem tearOrders_cons (k : Fin 256) (rest : List (Fin 256)) (s : State) : s.tearOrders (k :: rest) =
    ((((s.readOrder k).1).map Order.unpaid).getD 0 + ((tornOrder k s).tearOrders rest).1,
      ((tornOrder k s).tearOrders rest).2) := rfl

theorem tearOrders_torn {c : List (Fin 256)} (nodup : c.Nodup) (s : State) :
    (s.tearOrders c).1 = (c.map (writtenOff s)).sum ∧ OrdersTorn c s (s.tearOrders c).2 := by
  induction c generalizing s with
  | nil => exact ⟨rfl, readFrame_refl s, rfl, rfl, fun _ => rfl, (List.append_nil _).symm⟩
  | cons k rest ih =>
    obtain ⟨fresh, nodup'⟩ := List.nodup_cons.mp nodup
    obtain ⟨sum, later⟩ := ih nodup' (tornOrder k s)
    obtain ⟨admGen, admFree, orderGen, orderFree⟩ := readOrder_slotsKept k s
    obtain ⟨admGen', admFree'⟩ := retireOrderSlot_adms k (s.readOrder k).2
    have gen : (tornOrder k s).mem.orderGen = upd s.mem.orderGen k (· + 1) :=
      (retireOrderSlot_gen k _).trans (congrArg (upd · k (· + 1)) orderGen)
    have free : (tornOrder k s).mem.orderFree = s.mem.orderFree ++ [k] :=
      (retireOrderSlot_free k _).trans (congrArg (· ++ [k]) orderFree)
    have same : ∀ j ∈ rest, writtenOff (tornOrder k s) j = writtenOff s j := fun j hj => by
      have slot := tornOrder_other (fun h => fresh (h ▸ hj) : j ≠ k) s
      unfold writtenOff State.order
      rw [slot]
    rw [tearOrders_cons]
    refine ⟨?_, readFrame_trans (tornOrder_frame k s) later.frame, later.admGen.trans (admGen'.trans admGen),
      later.admFree.trans (admFree'.trans admFree), fun j => ?_, ?_⟩
    · rw [readOrder_unpaid, sum, List.map_congr_left same]
      rfl
    · rw [later.orderGen, gen, raisedGen_cons fresh]
    · rw [later.orderFree, free, List.append_assoc]
      rfl

/-! ## The admissions torn down (R163 step 3) -/

theorem retireAdmSlot_orders (a : Fin 1024) (s : State) : (s.retireAdmSlot a).mem.orderGen = s.mem.orderGen ∧
    (s.retireAdmSlot a).mem.orderFree = s.mem.orderFree := by
  unfold State.retireAdmSlot State.unmarkAdm
  split <;> exact ⟨rfl, rfl⟩

/-- From `s` to `t` the admissions of `c` were retired. -/
structure AdmsTorn (c : List (Fin 1024)) (s t : State) : Prop where
  frame : t = { s with mem := t.mem }
  orderGen : t.mem.orderGen = s.mem.orderGen
  orderFree : t.mem.orderFree = s.mem.orderFree
  admGen : ∀ a : Fin 1024, t.mem.admGen[a] = raisedGen c s.mem.admGen a
  admFree : t.mem.admFree = s.mem.admFree ++ c

theorem each_retireAdmSlot {c : List (Fin 1024)} (nodup : c.Nodup) (s : State) :
    AdmsTorn c s (s.each c State.retireAdmSlot) := by
  induction c generalizing s with
  | nil => exact ⟨rfl, rfl, rfl, fun _ => rfl, (List.append_nil _).symm⟩
  | cons a rest ih =>
    obtain ⟨fresh, nodup'⟩ := List.nodup_cons.mp nodup
    obtain ⟨frame, orderGen, orderFree, admGen, admFree⟩ := ih nodup' (s.retireAdmSlot a)
    obtain ⟨orderGen', orderFree'⟩ := retireAdmSlot_orders a s
    rw [each_cons]
    refine ⟨?_, orderGen.trans orderGen', orderFree.trans orderFree', fun b => ?_, ?_⟩
    · rw [frame, retireAdmSlot_eq]
    · rw [admGen, retireAdmSlot_gen, raisedGen_cons fresh]
    · rw [admFree, retireAdmSlot_free, List.append_assoc]
      rfl

/-! ## The lot emptied (R39) -/

/-- From `s` to `t` stalls were emptied and their close fields written. -/
structure LotTorn (s t : State) : Prop extends SlotsKept s t where
  frame : s.lotFrame t
  fields : t.lot.fields = s.lot.fields
  queues : t.lot.queues = s.lot.queues

theorem lotTorn_refl (s : State) : LotTorn s s := ⟨slotsKept_refl s, lotFrame_refl s, rfl, rfl⟩

theorem lotTorn_trans (h : LotTorn s t) (k : LotTorn t u) : LotTorn s u :=
  ⟨slotsKept_trans h.toSlotsKept k.toSlotsKept, lotFrame_trans h.frame k.frame, k.fields.trans h.fields,
    k.queues.trans h.queues⟩

theorem lotTorn_readStall (i : Fin 1024) (s : State) : LotTorn s (s.readStall i).2 := by
  obtain ⟨fields, -, queues⟩ := Lot.readStall_lotKeeps i s
  exact ⟨(spared_readStall 0 i s).toSlotsKept, readStall_lotFrame s i, fields, queues⟩

theorem lotTorn_writeStall (i : Fin 1024) (f : Stall → Stall) (s : State) : LotTorn s (s.writeStall i f) := by
  have kept := Lot.recount_keeps i ((f (s.stall i)).state s.lot.occupants[i]) s.lot
  obtain ⟨fields, -, queues⟩ := kept
  exact ⟨(spared_writeStall 0 i f s).toSlotsKept, writeStall_lotFrame s i f, fields, queues⟩

/-- A stall without its occupant, before its read. -/
def emptied (i : Fin 1024) (s : State) : State :=
  s.modLot fun l => { l with occupants := upd l.occupants i fun _ => none }

theorem lotTorn_emptied (i : Fin 1024) (s : State) : LotTorn s (emptied i s) :=
  ⟨⟨rfl, rfl, rfl, rfl, rfl⟩, rfl, rfl, rfl⟩

theorem lotTorn_tearStall (i : Fin 1024) (s : State) :
    LotTorn s (s.tearStall i) ∧ (s.tearStall i).lot.occupants = upd s.lot.occupants i fun _ => none := by
  by_cases held : s.lot.occupants[i].isNone = true
  · rw [State.tearStall, if_pos held]
    exact ⟨lotTorn_refl s, (upd_self _ (Option.isNone_iff_eq_none.mp held).symm).symm⟩
  · have read : LotTorn s ((emptied i s).readStall i).2 :=
      lotTorn_trans (lotTorn_emptied i s) (lotTorn_readStall i (emptied i s))
    obtain ⟨-, occupants, -⟩ := Lot.readStall_lotKeeps i (emptied i s)
    have written (f : Stall → Stall) : LotTorn s (((emptied i s).readStall i).2.writeStall i f) ∧
        (((emptied i s).readStall i).2.writeStall i f).lot.occupants = upd s.lot.occupants i fun _ => none :=
      ⟨lotTorn_trans read (lotTorn_writeStall i f _), (Lot.writeStall_occupants i _ f).trans occupants⟩
    rw [State.tearStall, if_neg held]
    dsimp only
    split
    · exact written _
    · split
      · exact ⟨read, occupants⟩
      · exact written _

theorem tearLot_torn (s : State) : LotTorn { s with lot := { s.lot with queues := Vector.replicate 6 [] } } s.tearLot :=
  NightUnit.each_keeps (LotTorn { s with lot := { s.lot with queues := Vector.replicate 6 [] } }) (lotTorn_refl _)
    (fun i t ht => lotTorn_trans ht (lotTorn_tearStall i t).1) s.lot.stallsInUse

theorem tearStall_occupant (i j : Fin 1024) (s : State) :
    (s.tearStall i).lot.occupants[j] = if i = j then none else s.lot.occupants[j] :=
  (congrArg (·[j]) (lotTorn_tearStall i s).2).trans (upd_get _ _ _ _)

/-- A stall without an occupant. -/
def Vacant (i : Fin 1024) (s : State) : Prop := s.lot.occupants[i] = none

theorem vacant_tearStall (i : Fin 1024) (s : State) : Vacant i (s.tearStall i) :=
  (tearStall_occupant i i s).trans (if_pos rfl)

theorem vacant_tearStall_of_vacant {i : Fin 1024} (j : Fin 1024) {s : State} (h : Vacant i s) :
    Vacant i (s.tearStall j) := by
  have occupant := tearStall_occupant j i s
  by_cases same : j = i
  · exact occupant.trans (if_pos same)
  · exact (occupant.trans (if_neg same)).trans h

theorem tearLot_vacant (s : State) (i : Fin 1024) (used : i ∈ s.lot.stallsInUse) : Vacant i s.tearLot :=
  Losses.each_reaches vacant_tearStall (fun _ j _ => vacant_tearStall_of_vacant j) s.lot.stallsInUse
    (s.modLot fun l => { l with queues := Vector.replicate 6 [] }) i used

end Sys2Proof.Tearing
end

section
/-!
SUPPORT. The lanes, screens, channels and sounds at FORCE_CLOSE (R163 steps 4 and 5).
-/

namespace Sys2Proof.Tearing

open Sys2Proof Sys2Proof.Machine Sys2Proof.Shows Sys2Proof.Staging Sys2Proof.NightUnit

variable {s t u : State}

/-! ## What is done once for each entry of a list -/

/-- Entries changed one by one, each by a step of its own: every entry of the list has been changed once. -/
theorem each_once {α β : Type} [DecidableEq α] {f : α → State → State} {get : State → α → β} {g : β → β}
    (h : ∀ a b s, get (f a s) b = if a = b then g (get s b) else get s b) {l : List α} (nodup : l.Nodup) (s : State)
    (b : α) : get (s.each l f) b = if b ∈ l then g (get s b) else get s b := by
  induction l generalizing s with
  | nil => rfl
  | cons a rest ih =>
    obtain ⟨fresh, nodup'⟩ := List.nodup_cons.mp nodup
    rw [TabOrders.each_cons, ih nodup', h]
    by_cases same : a = b
    · subst same
      simp [fresh]
    · simp [same, Ne.symm same]

/-! ## What the teardown of the site leaves -/

/-- `t` differs from `s` at most in the booth port, the displays, the lanes, the shows, the channels and sounds and the
order windows. -/
def TearFrame (s t : State) : Prop :=
  t = { s with
    booth := t.booth, disp := t.disp, gate := { s.gate with lanes := t.gate.lanes }, shows := t.shows, chans := t.chans
    ords := { s.ords with windows := t.ords.windows } }

theorem tearFrame_refl (s : State) : TearFrame s s := rfl

theorem tearFrame_trans (h : TearFrame s t) (k : TearFrame t u) : TearFrame s u := by
  unfold TearFrame at *
  rw [k, h]

theorem tearFrame_each {α : Type} {f : α → State → State} (h : ∀ (a : α) (s : State), TearFrame s (f a s)) (l : List α)
    (s : State) : TearFrame s (s.each l f) :=
  each_keeps (TearFrame s) (tearFrame_refl s) (fun a t ht => tearFrame_trans ht (h a t)) l

theorem tearFrame_of_showFrame (h : s.showFrame t) (night : t.night = s.night) (store : t.store = s.store) :
    TearFrame s t := by
  unfold State.showFrame at h
  unfold TearFrame
  rw [night, store] at h
  rw [h]

/-! ## The lanes (R64, R164) -/

theorem tearLane_eq (n : Fin 4) (s : State) : s.tearLane n = s.modLane n Lane.tearDown ∨
    s.tearLane n = (s.modLane n Lane.tearDown).raiseBooth .lanePresent := by
  unfold State.tearLane State.announcePresent
  dsimp only
  split
  · exact .inl rfl
  · split
    · exact .inr rfl
    · exact .inl rfl

theorem tearFrame_tearLane (n : Fin 4) (s : State) : TearFrame s (s.tearLane n) := by
  obtain torn | torn := tearLane_eq n s <;> rw [torn] <;> rfl

theorem modLane_lanes (n m : Fin 4) (f : Lane → Lane) (s : State) : (s.modLane n f).gate.lanes[m] =
    if n = m then f s.gate.lanes[m] else s.gate.lanes[m] := by
  by_cases same : n = m
  · subst same
    rw [if_pos rfl]
    exact upd_get_same _ _ _
  · rw [if_neg same]
    exact upd_get_other _ _ _ _ same

theorem tearLane_lanes (n m : Fin 4) (s : State) : (s.tearLane n).gate.lanes[m] =
    if n = m then s.gate.lanes[m].tearDown else s.gate.lanes[m] := by
  obtain torn | torn := tearLane_eq n s <;> rw [torn] <;> exact modLane_lanes n m _ s

theorem each_tearLane_lanes (n : Fin 4) (s : State) :
    (s.each (List.finRange 4) State.tearLane).gate.lanes[n] = s.gate.lanes[n].tearDown :=
  (each_once (get := fun t m => t.gate.lanes[m]) (fun n m s => tearLane_lanes n m s) (List.nodup_finRange 4) s n).trans
    (if_pos (List.mem_finRange n))

theorem each_tearLane_chans (s : State) : (s.each (List.finRange 4) State.tearLane).chans = s.chans :=
  each_keeps (fun t => t.chans = s.chans) rfl
    (fun n t ht => by obtain torn | torn := tearLane_eq n t <;> rw [torn] <;> exact ht) _

/-! ## The screens (R84) -/

theorem setShow_tearFrame (n : Fin 6) (st : ShowState) (s : State) : TearFrame s (s.setShow n st) := by
  obtain ⟨night, store, -⟩ := Retiring.setShow_kept n st s
  exact tearFrame_of_showFrame (setShow_showFrame s n st) night store

theorem tearFrame_tearScreen (n : Fin 6) (s : State) : TearFrame s (s.tearScreen n) :=
  tearFrame_trans (by exact rfl) (setShow_tearFrame n .dark _)

theorem tearScreen_chans (n : Fin 6) (s : State) : (s.tearScreen n).chans = s.chans :=
  Channels.setShow_chans n .dark (s.modScreen n _)

/-- A DARK screen. -/
def Dark (n : Fin 6) (s : State) : Prop := s.shows.screens[n].state = .dark

theorem tearScreen_dark (n : Fin 6) (s : State) : Dark n (s.tearScreen n) := by
  unfold Dark
  rw [State.tearScreen, setShow_screen, shownAs_state]

theorem tearScreen_keeps (n m : Fin 6) (s : State) (h : Dark n s) : Dark n (s.tearScreen m) := by
  by_cases same : m = n
  · subst same
    exact tearScreen_dark m s
  · rw [Dark, State.tearScreen, setShow_other _ _ same, modScreen_other _ _ same]
    exact h

theorem each_tearScreen_dark (s : State) (n : Fin 6) : Dark n (s.each (List.finRange 6) State.tearScreen) :=
  Losses.each_reaches tearScreen_dark tearScreen_keeps (List.finRange 6) s n (List.mem_finRange n)

theorem each_tearScreen_chans (s : State) : (s.each (List.finRange 6) State.tearScreen).chans = s.chans :=
  each_keeps (fun t => t.chans = s.chans) rfl (fun n t ht => (tearScreen_chans n t).trans ht) _

/-! ## The sounds (R89, R104) -/

/-- A sound that wants no channel, before it is OFF. -/
def unwanted (n : Fin 6) (s : State) : State := s.modSound n fun r => { r with wanting := false, announceTimer := none }

theorem tearSound_eq (n : Fin 6) (s : State) : s.tearSound n = (unwanted n s).setSound n .off := rfl

theorem tearFrame_tearSound (n : Fin 6) (s : State) : TearFrame s (s.tearSound n) := by
  obtain ⟨night, store, -⟩ := Retiring.stageFrame_kept (only_setSound n .off (unwanted n s)).frame
  exact tearFrame_of_showFrame (tearSound_showFrame n s) night store

theorem tearSound_channels (n : Fin 6) (s : State) : (s.tearSound n).chans.channels = s.chans.channels := by
  rw [tearSound_eq, State.setSound, Losses.showSound_chans, Losses.soundTaken_chans]
  rfl

theorem tearSound_dark (m n : Fin 6) (s : State) (h : Dark n s) : Dark n (s.tearSound m) := by
  have screen := (staged_setSound m .off (unwanted m s)).dark n h
  rw [Dark, tearSound_eq, screen]
  exact h

/-- A sound that is OFF and wants no channel. -/
def Silenced (n : Fin 6) (s : State) : Prop := s.chans.sounds[n].sound = .off ∧ s.chans.sounds[n].wanting = false

theorem tearSound_silenced (n : Fin 6) (s : State) : Silenced n (s.tearSound n) := by
  have wanting := (only_setSound n .off (unwanted n s)).wanting n
  have record : (unwanted n s).chans.sounds[n] = _ := modSound_sound n _ s
  refine ⟨Losses.setSound_sound n .off (unwanted n s), ?_⟩
  rw [tearSound_eq, wanting, record]

theorem tearSound_keeps (n m : Fin 6) (s : State) (h : Silenced n s) : Silenced n (s.tearSound m) := by
  by_cases same : m = n
  · subst same
    exact tearSound_silenced m s
  · have sound : (s.tearSound m).chans.sounds[n] = s.chans.sounds[n] :=
      (Losses.setSound_other .off (unwanted m s) same).trans (modSound_other _ s same)
    rw [Silenced, sound]
    exact h

theorem each_tearSound_silenced (s : State) (n : Fin 6) : Silenced n (s.each (List.finRange 6) State.tearSound) :=
  Losses.each_reaches tearSound_silenced tearSound_keeps (List.finRange 6) s n (List.mem_finRange n)

theorem each_tearSound_channels (s : State) :
    (s.each (List.finRange 6) State.tearSound).chans.channels = s.chans.channels :=
  each_keeps (fun t => t.chans.channels = s.chans.channels) rfl (fun n t ht => (tearSound_channels n t).trans ht) _

theorem each_tearSound_dark (n : Fin 6) (h : Dark n s) : Dark n (s.each (List.finRange 6) State.tearSound) :=
  each_keeps (Dark n) h (fun m t ht => tearSound_dark m n t ht) _

/-! ## The site -/

/-- The site after FORCE_CLOSE: the lanes, screens, sounds and channels as they are left. -/
structure SiteTorn (s t : State) : Prop where
  frame : TearFrame s t
  lanes : ∀ n : Fin 4, t.gate.lanes[n] = s.gate.lanes[n].tearDown
  dark : ∀ n : Fin 6, Dark n t
  silenced : ∀ n : Fin 6, Silenced n t
  channels : ∀ c : Fin 12, t.chans.channels[c] = s.chans.channels[c].letGo

/-- The HELD channels let go. -/
def channelsFreed (s : State) : State := s.modChans fun m => { m with channels := m.channels.map Channel.letGo }

/-- The site with its lanes and screens torn down. -/
def screensTorn (s : State) : State :=
  (s.each (List.finRange 4) State.tearLane).each (List.finRange 6) State.tearScreen

theorem tearSite_eq (s : State) :
    s.tearSite = (channelsFreed (screensTorn s)).each (List.finRange 6) State.tearSound := rfl

theorem channelsFreed_channel (c : Fin 12) (s : State) :
    (channelsFreed s).chans.channels[c] = s.chans.channels[c].letGo := Vector.getElem_map _ _

theorem tearFrame_channelsFreed (s : State) : TearFrame s (channelsFreed s) := rfl

theorem screensTorn_frame (s : State) : TearFrame s (screensTorn s) :=
  tearFrame_trans (tearFrame_each tearFrame_tearLane _ s) (tearFrame_each tearFrame_tearScreen _ _)

theorem screensTorn_lane (n : Fin 4) (s : State) : (screensTorn s).gate.lanes[n] = s.gate.lanes[n].tearDown := by
  rw [screensTorn, showFrame_gate (each_showFrame tearScreen_showFrame _ _), each_tearLane_lanes]

theorem screensTorn_chans (s : State) : (screensTorn s).chans = s.chans :=
  (each_tearScreen_chans (s.each (List.finRange 4) State.tearLane)).trans (each_tearLane_chans s)

/-- The sounds torn down, after the HELD channels were let go. -/
theorem each_tearSound_torn (s : State) (dark : ∀ n : Fin 6, Dark n s) :
    let t := (channelsFreed s).each (List.finRange 6) State.tearSound
    TearFrame s t ∧ t.gate = s.gate ∧ (∀ n : Fin 6, Dark n t) ∧ (∀ n : Fin 6, Silenced n t) ∧
      ∀ c : Fin 12, t.chans.channels[c] = s.chans.channels[c].letGo := by
  refine ⟨tearFrame_trans (tearFrame_channelsFreed s) (tearFrame_each tearFrame_tearSound _ _),
    showFrame_gate (each_showFrame tearSound_showFrame _ (channelsFreed s)), fun n => ?_, each_tearSound_silenced _,
    fun c => ?_⟩
  · exact each_tearSound_dark (s := channelsFreed s) n (dark n)
  · exact (congrArg (·[c]) (each_tearSound_channels (channelsFreed s))).trans (channelsFreed_channel c s)

theorem tearSite_torn (s : State) : SiteTorn s s.tearSite := by
  obtain ⟨frame, gate, dark, silenced, channels⟩ :=
    each_tearSound_torn (screensTorn s) (each_tearScreen_dark (s.each (List.finRange 4) State.tearLane))
  rw [← tearSite_eq] at frame gate dark silenced channels
  refine ⟨tearFrame_trans (screensTorn_frame s) frame, fun n => ?_, dark, silenced, fun c => ?_⟩
  · rw [gate, screensTorn_lane]
  · rw [channels, screensTorn_chans]

end Sys2Proof.Tearing
end

section
/-!
SUPPORT. FORCE_CLOSE (R163): the records torn down, then the site, and the night closed.
-/

namespace Sys2Proof.Tearing

open Sys2Proof Sys2Proof.Machine Sys2Proof.Orders Sys2Proof.Retiring Sys2Proof.Lanes Sys2Proof.TabOrders
open Sys2Proof.NightUnit

variable {s t u : State}

/-! ## The records (R163 steps 1 to 3) -/

/-- The amount written off. -/
def writtenSum (s : State) : Nat := (s.liveOrders.map (writtenOff s)).sum

/-- The admissions not bound to an ENTRY lane. -/
def enteredCount (s : State) : Nat := (s.liveAdms.filter fun a => (s.boundLane a .entry).isNone).length

/-- The runners stood down, and the amount written off. -/
def stoodDown (n : Nat) (s : State) : State :=
  (s.modOrds fun o => { o with kitchen := [], runners := o.runners.map Runner.makeReady }).writeOff n

/-- The live counts at 0, and the forced count raised. -/
def zeroed (entered : Nat) (s : State) : State :=
  (s.modGate fun g => { g with live := Vector.replicate 6 0 }).modNight fun x =>
    { x with forced := x.forced + entered }

/-- The state with its orders torn down and its runners stood down. -/
def ordersDown (s : State) : State := stoodDown (s.tearOrders s.liveOrders).1 (s.tearOrders s.liveOrders).2

theorem tearRecords_eq (s : State) : s.tearRecords = ((s.tearOrders s.liveOrders).1,
    (ordersDown s).liveAdms.countP fun a => ((ordersDown s).boundLane a .entry).isNone,
    zeroed ((ordersDown s).liveAdms.countP fun a => ((ordersDown s).boundLane a .entry).isNone)
      ((ordersDown s).tearLot.each (ordersDown s).liveAdms State.retireAdmSlot)) := rfl

/-- `t` differs from `s` at most in the record memory, the monitor, the ports, the lot, the gate, the orders and the
night. -/
def RecordFrame (s t : State) : Prop :=
  t = { s with
    mem := t.mem, mon := t.mon, booth := t.booth, counter := t.counter, lot := t.lot, gate := t.gate, ords := t.ords
    night := t.night }

theorem recordFrame_trans (h : RecordFrame s t) (k : RecordFrame t u) : RecordFrame s u := by
  unfold RecordFrame at *
  rw [k, h]

theorem recordFrame_of_lotFrame (h : s.lotFrame t) : RecordFrame s t := by
  unfold State.lotFrame at h
  unfold RecordFrame
  rw [h]

/-- The orders torn down: what is left of the records, the orders and the night. -/
structure OrdersDown (s t : State) : Prop where
  frame : RecordFrame s t
  lot : t.lot = s.lot
  gate : t.gate = s.gate
  ords : t.ords = { s.ords with kitchen := [], runners := s.ords.runners.map Runner.makeReady }
  night : t.night = { s.night with writeOffs := min (s.night.writeOffs + writtenSum s) 4294967295 }
  admGen : t.mem.admGen = s.mem.admGen
  admFree : t.mem.admFree = s.mem.admFree
  orderGen : ∀ k : Fin 256, t.mem.orderGen[k] = raisedGen s.liveOrders s.mem.orderGen k
  orderFree : t.mem.orderFree = s.mem.orderFree ++ s.liveOrders

theorem stoodDown_recordFrame (n : Nat) (s : State) : RecordFrame s (stoodDown n s) := rfl

theorem ordersDown_down (s : State) : OrdersDown s (ordersDown s) := by
  obtain ⟨sum, torn⟩ := tearOrders_torn (nodup_liveOrders s) s
  have read := torn.frame
  rw [ordersDown, sum]
  exact {
    frame := recordFrame_trans (recordFrame_of_lotFrame (readFrame_lotFrame read)) (stoodDown_recordFrame _ _)
    lot := (readFrame_lot read : _)
    gate := (readFrame_gate read : _)
    ords := by
      show ({ (s.tearOrders s.liveOrders).2.ords with
        kitchen := [], runners := (s.tearOrders s.liveOrders).2.ords.runners.map Runner.makeReady } : OrderTable) = _
      rw [readFrame_ords read]
    night := by
      show ({ (s.tearOrders s.liveOrders).2.night with
        writeOffs := addTotal (s.tearOrders s.liveOrders).2.night.writeOffs _ } : Night) = _
      rw [readFrame_night read]
      rfl
    admGen := torn.admGen
    admFree := torn.admFree
    orderGen := torn.orderGen
    orderFree := torn.orderFree }

theorem liveAdms_congr (h : t.mem.admFree = s.mem.admFree) : t.liveAdms = s.liveAdms := by
  unfold State.liveAdms State.admLive
  rw [h]

theorem boundLane_of_gate (h : t.gate = s.gate) (a : Fin 1024) (role : LaneRole) :
    t.boundLane a role = s.boundLane a role := by
  unfold State.boundLane
  rw [h]

theorem ordersDown_entered (s : State) :
    ((ordersDown s).liveAdms.countP fun a => ((ordersDown s).boundLane a .entry).isNone) = enteredCount s := by
  have down := ordersDown_down s
  simp only [liveAdms_congr down.admFree, boundLane_of_gate down.gate, List.countP_eq_length_filter, enteredCount]

/-- The records torn down. -/
def recordsTorn (s : State) : State :=
  zeroed (enteredCount s) ((ordersDown s).tearLot.each s.liveAdms State.retireAdmSlot)

theorem tearRecords_torn (s : State) : s.tearRecords = (writtenSum s, enteredCount s, recordsTorn s) := by
  rw [tearRecords_eq, ordersDown_entered, liveAdms_congr (ordersDown_down s).admFree,
    (tearOrders_torn (nodup_liveOrders s) s).1]
  rfl

/-- What the records, the lot, the gate, the orders and the night are left with. -/
structure RecordsTorn (s t : State) : Prop where
  frame : RecordFrame s t
  fields : t.lot.fields = s.lot.fields
  queues : t.lot.queues = Vector.replicate 6 []
  vacant : ∀ i ∈ s.lot.stallsInUse, Vacant i t
  gate : t.gate = { s.gate with live := Vector.replicate 6 0 }
  ords : t.ords = { s.ords with kitchen := [], runners := s.ords.runners.map Runner.makeReady }
  night : t.night = { s.night with
    forced := s.night.forced + enteredCount s
    writeOffs := min (s.night.writeOffs + writtenSum s) 4294967295 }
  admGen : ∀ a : Fin 1024, t.mem.admGen[a] = raisedGen s.liveAdms s.mem.admGen a
  admFree : t.mem.admFree = s.mem.admFree ++ s.liveAdms
  orderGen : ∀ k : Fin 256, t.mem.orderGen[k] = raisedGen s.liveOrders s.mem.orderGen k
  orderFree : t.mem.orderFree = s.mem.orderFree ++ s.liveOrders

theorem vacant_of_lot {i : Fin 1024} (h : t.lot = s.lot) (vacant : Vacant i s) : Vacant i t := by
  unfold Vacant
  rw [h]
  exact vacant

theorem mem_stallsInUse_of_lot {i : Fin 1024} (h : t.lot = s.lot) (used : i ∈ s.lot.stallsInUse) :
    i ∈ t.lot.stallsInUse := by
  rw [h]
  exact used

/-- The lot emptied and the admissions retired, from a state whose orders are torn down. -/
theorem recordsTorn_of_down {v w x : State} (down : OrdersDown s v)
    (lot : LotTorn { v with lot := { v.lot with queues := Vector.replicate 6 [] } } w)
    (vacant : ∀ i ∈ v.lot.stallsInUse, Vacant i w) (adms : AdmsTorn s.liveAdms w x) :
    RecordsTorn s (zeroed (enteredCount s) x) := by
  have frame : v.lotFrame w := lotFrame_trans (by exact rfl) lot.frame
  have lotX : x.lot = w.lot := by rw [adms.frame]
  have gate : x.gate = s.gate := by rw [adms.frame]; exact ((lotFrame_gate frame).trans down.gate : w.gate = s.gate)
  have ords : x.ords = v.ords := by rw [adms.frame]; exact (lotFrame_ords frame : w.ords = v.ords)
  have night : x.night = v.night := by rw [adms.frame]; exact (lotFrame_night frame : w.night = v.night)
  exact {
    frame := by
      refine recordFrame_trans down.frame (recordFrame_trans (recordFrame_of_lotFrame frame) ?_)
      unfold RecordFrame zeroed
      rw [adms.frame]
      rfl
    fields := by
      show x.lot.fields = _
      rw [lotX, lot.fields]
      exact (congrArg LotMap.fields down.lot : v.lot.fields = s.lot.fields)
    queues := by
      show x.lot.queues = _
      rw [lotX, lot.queues]
    vacant := fun i used => vacant_of_lot (s := w) lotX (vacant i (mem_stallsInUse_of_lot down.lot used))
    gate := by
      show ({ x.gate with live := Vector.replicate 6 0 } : Gate) = _
      rw [gate]
    ords := ords.trans down.ords
    night := by
      show ({ x.night with forced := x.night.forced + enteredCount s } : Night) = _
      rw [night, down.night]
    admGen := fun a => (adms.admGen a).trans
      (congrArg (raisedGen s.liveAdms · a) ((lot.admGen.trans down.admGen : w.mem.admGen = s.mem.admGen)))
    admFree := by
      show x.mem.admFree = _
      rw [adms.admFree, lot.admFree]
      exact congrArg (· ++ s.liveAdms) down.admFree
    orderGen := fun k =>
      (congrArg (·[k]) ((adms.orderGen.trans lot.orderGen : x.mem.orderGen = v.mem.orderGen))).trans (down.orderGen k)
    orderFree := by
      show x.mem.orderFree = _
      rw [adms.orderFree, lot.orderFree]
      exact down.orderFree }

theorem recordsTorn_torn (s : State) : RecordsTorn s (recordsTorn s) :=
  recordsTorn_of_down (ordersDown_down s) (tearLot_torn _) (tearLot_vacant _) (each_retireAdmSlot (nodup_liveAdms s) _)

/-! ## The command -/

theorem forceClose_closed (h : s.night.state = .closed) : forceClose s = s.refuse .badState := if_pos h

/-- The night closed by force. -/
def forcedShut (s : State) : State := (recordsTorn s).tearSite.closeNight

theorem forceClose_done (h : s.night.state ≠ .closed) : forceClose s = (forcedShut s).ok
    (bytes2 (256 - s.mem.orderFree.length) ++ bytes2 (1024 - s.mem.admFree.length) ++ bytes4 (writtenSum s) ++
      bytes2 (enteredCount s)) := by
  rw [forceClose, if_neg h, tearRecords_torn]
  rfl

theorem exec_forceClose (ht : s.takes .booth 0x5A) (h : s.night.state ≠ .closed) : exec (.forceClose .booth) s =
    .next ((forcedShut s).answer .booth 0x5A .ok
      (bytes2 (256 - s.mem.orderFree.length) ++ bytes2 (1024 - s.mem.admFree.length) ++ bytes4 (writtenSum s) ++
        bytes2 (enteredCount s))) := by
  have answered := next_command_of_block ht (forceClose_done h)
  dsimp only [ok_state, ok_status, ok_data] at answered
  exact answered

theorem raisedGen_live {w n : Nat} {c : List (Fin n)} {k : Fin n} {live : Bool} (h : k ∈ c ↔ live = true)
    (gen : Vector (BitVec w) n) : raisedGen c gen k = if live then gen[k] + 1 else gen[k] :=
  if_congr h rfl rfl

theorem letGo_held {x : Channel} {n : Fin 6} {as : HeldAs} (h : x.state = .held n as) :
    x.letGo = { x with state := .free } := by
  rw [Channel.letGo, h]

theorem letGo_kept {x : Channel} (h : ∀ n as, x.state ≠ .held n as) : x.letGo = x := by
  unfold Channel.letGo
  split
  next n as held => exact absurd held (h n as)
  all_goals rfl

/-- A lane torn down: IDLE, or PRESENT by its loop A when the lane has a role. -/
theorem tearDown_eq (l : Lane) : l.tearDown = { l with
    state := if l.role ≠ .unused ∧ l.loopA.level = true then .present else .idle
    bound := none, cause := none, faultedFrom := none, raise := false, barrierTimer := none
    stuckTimer := none, voidTimer := none, returnTimer := none } := by
  have state : (if l.role = .unused then LaneState.idle else l.restState) =
      if l.role ≠ .unused ∧ l.loopA.level = true then .present else .idle := by
    by_cases role : l.role = .unused
    · simp [role]
    · simp [role, Lane.restState]
  rw [Lane.tearDown, state]

/-- The effects of FORCE_CLOSE that the frames give, on what the night closes over. -/
theorem forcedShut_kept (torn : RecordsTorn s t) (site : SiteTorn t u) :
    u.closeNight.mem = t.mem ∧ u.closeNight.lot = t.lot ∧
      u.closeNight.gate = { t.gate with lanes := u.gate.lanes } ∧
      u.closeNight.ords = { t.ords with windows := u.closeNight.ords.windows } ∧ u.night = t.night ∧
      u.store = s.store ∧ u.closeNight.shows = u.shows ∧ u.closeNight.chans = u.chans ∧ t.chans = s.chans ∧
      u.closeNight.posts = s.posts ∧ u.closeNight.doms = s.doms ∧ u.closeNight.sys = s.sys ∧
      u.closeNight.pending = s.pending := by
  have records := torn.frame
  have frame := site.frame
  have night := closeNight_nightFrame u
  unfold RecordFrame at records
  unfold TearFrame at frame
  unfold NightFrame at night
  refine ⟨?_, ?_, ?_, ?_, ?_, ?_, ?_, ?_, ?_, ?_, ?_, ?_, ?_⟩
  · rw [night, frame]
  · rw [night, frame]
  · rw [night, frame]
  · rw [night, frame]
  · rw [frame]
  · rw [frame, records]
  · rw [night]
  · rw [night]
  · rw [records]
  · rw [night, frame, records]
  · rw [night, frame, records]
  · rw [night, frame, records]
  · rw [night, frame, records]

/-- Settles O50: the records, then the site, then the night. -/
theorem forceClose : Obligations.ForceClose := by
  refine fun s ht => ⟨fun closed => next_command_of_block ht (forceClose_closed closed), fun opened =>
    ⟨forcedShut s, exec_forceClose ht opened, ?_⟩⟩
  have torn := recordsTorn_torn s
  have site := tearSite_torn (recordsTorn s)
  obtain ⟨mem, lot, gate, ords, night, store, shows, chans, chans', posts, doms, sys, pending⟩ :=
    forcedShut_kept torn site
  refine ⟨?night, ?store, ?closed, fun a => ⟨?admLive, ?admGen⟩, fun k => ⟨?orderLive, ?orderGen⟩, ?kitchen, ?runners,
    ?fields, ?vacant, fun n => ⟨?queue, ?live, ?admitted, ?windows, ?dark, ?off, ?wanting⟩, ?channels,
    ?lanes, posts, doms, sys, pending⟩
  case night =>
    rw [forcedShut, closeNight_night, night, torn.night]
    rfl
  case store => rw [forcedShut, closeNight_store, store]
  case closed =>
    rw [forcedShut, closeNight_booth]
    exact attention_raise_kindSet_ne_zero (by decide) _
  case admLive =>
    refine admLive_freed (s := s) ?_ a
    rw [forcedShut, mem, torn.admFree]
  case admGen =>
    rw [forcedShut, mem, torn.admGen]
    exact raisedGen_live mem_liveAdms _
  case orderLive =>
    refine orderLive_freed (s := s) ?_ k
    rw [forcedShut, mem, torn.orderFree]
  case orderGen =>
    rw [forcedShut, mem, torn.orderGen]
    exact raisedGen_live mem_liveOrders _
  case kitchen => rw [forcedShut, ords, torn.ords]
  case runners =>
    intro r
    rw [forcedShut, ords, torn.ords]
    exact Vector.getElem_map _ _
  case fields => rw [forcedShut, lot, torn.fields]
  case vacant =>
    intro i used
    exact vacant_of_lot (s := recordsTorn s) lot (torn.vacant i used)
  case queue =>
    rw [forcedShut, lot, torn.queues]
    exact Vector.getElem_replicate _
  case live =>
    rw [forcedShut, gate, torn.gate]
    exact Vector.getElem_replicate _
  case admitted => rw [forcedShut, gate, torn.gate]
  case windows => rw [forcedShut, closeNight_windows]
  case dark =>
    rw [forcedShut, shows]
    exact site.dark n
  case off =>
    rw [forcedShut, chans]
    exact (site.silenced n).1
  case wanting =>
    rw [forcedShut, chans]
    exact (site.silenced n).2
  case channels =>
    intro c
    have channel : (forcedShut s).chans.channels[c] = s.chans.channels[c].letGo := by
      rw [forcedShut, chans, site.channels, chans']
    cases state : s.chans.channels[c].state with
    | held n as => exact channel.trans (letGo_held state)
    | free => exact channel.trans (letGo_kept fun n as held => nomatch state.symm.trans held)
    | quarantined k => exact channel.trans (letGo_kept fun n as held => nomatch state.symm.trans held)
  case lanes =>
    intro n
    rw [forcedShut, gate, site.lanes, tearDown_eq, torn.gate]

end Sys2Proof.Tearing
end

section
/-!
SUPPORT. The screens at OPEN_NIGHT (R84, R160): a screen that leaves DARK (R81, R178), and what the default shows of the
other screens leave of it.
-/

namespace Sys2Proof.Opening

open Sys2Proof Sys2Proof.Machine Sys2Proof.NightUnit Sys2Proof.Shows Sys2Proof.Staging Sys2Proof.EquipmentDomains

variable {n m : Fin 6} {s t u : State}

/-! ## Rows and domains (R122, R173 to R179) -/

theorem takeFinding_positions (p : Posts) (x : Finding) (y : Row) : (y.takeFinding p x).positions = y.positions := by
  unfold Row.takeFinding
  split
  case h_4 | h_7 | h_8 => split <;> rfl
  all_goals rfl

theorem staged_of_shows (n : Fin 6) (frame : StageFrame s t) (shows : t.shows.screens = s.shows.screens)
    (chans : t.chans = s.chans)
    (positions : ∀ r : Fin 48, t.posts.rows[r].positions = s.posts.rows[r].positions) : Staged n s t :=
  staged_of_only (only_of_shows n frame shows (fun _ => by rw [chans]) (fun _ => by rw [chans]) positions)
    fun _ => by rw [shows]

theorem staged_each {α : Type} {f : α → State → State} (h : ∀ (a : α) (s : State), Staged n s (f a s)) (l : List α)
    (s : State) : Staged n s (s.each l f) :=
  each_keeps (Staged n s) (staged_refl n s) (fun a t ht => staged_trans ht (h a t)) l

theorem staged_takePresent (n : Fin 6) (r : Fin 48) (s : State) : Staged n s (s.takePresent r) := by
  unfold State.takePresent
  split
  · refine staged_of_shows n rfl rfl rfl fun q => ?_
    show (upd s.posts.rows r fun x => x.takeFinding s.posts x.finding)[q].positions = _
    rw [upd_get]
    split
    next same =>
      subst same
      exact takeFinding_positions _ _ _
    next => rfl
  · exact staged_refl n s

theorem staged_modDomain (n : Fin 6) (d : Fin 8) (f : Domain → Domain) (s : State) : Staged n s (s.modDomain d f) :=
  staged_of_shows n rfl rfl rfl fun _ => rfl

theorem staged_queued (n : Fin 6) (r : Fin 48) (s : State) :
    Staged n s (s.modDisp fun d => { d with queued := upd d.queued r fun _ => true }) :=
  staged_of_shows n rfl rfl rfl fun _ => rfl

theorem staged_reportGained (n : Fin 6) (s : State) : Staged n s (s.reportGained (screenDomain n)) := by
  rw [reportGained_screen]
  exact staged_trans (staged_trans (staged_trans (staged_examineStart n s) (staged_updateWanting n _))
    (staged_each (staged_takePresent n) _ _)) (staged_each (staged_queued n) _ _)

theorem staged_domainActive (n : Fin 6) (s : State) : Staged n s (s.domainActive (screenDomain n)) :=
  staged_trans (staged_modDomain n _ _ s) (staged_reportGained n _)

theorem staged_examineDomain (n : Fin 6) (s : State) : Staged n s (s.examineDomain (screenDomain n)) := by
  unfold State.examineDomain
  split
  · exact staged_trans (staged_domainActive n s) (staged_raiseBooth n _ _)
  · exact staged_refl n s

theorem staged_domainWaking (n : Fin 6) (s : State) : Staged n s (s.domainWaking (screenDomain n)) :=
  staged_trans (staged_modDomain n _ _ s) (staged_examineDomain n _)

theorem staged_endRest (n : Fin 6) (s : State) : Staged n s (s.endRest (screenDomain n)) := by
  unfold State.endRest State.domainReturn
  split
  · split
    · exact staged_domainActive n s
    · exact staged_domainWaking n s
  · exact staged_domainWaking n s
  all_goals exact staged_refl n s

theorem staged_withdrawRest (n : Fin 6) (s : State) : Staged n s (s.withdrawRest n) := by
  unfold State.withdrawRest
  dsimp only
  split
  case h_1 | h_2 => exact staged_trans (staged_modDomain n _ _ s) (staged_endRest n _)
  all_goals exact staged_refl n s

/-! ## A screen opened (R84, R160) -/

/-- `t` differs from `s` at most in the monitor, the booth port, the displays, the screens, the channels and sounds, the
rows, the order windows and the domains. -/
def OpeningFrame (s t : State) : Prop :=
  t = { s with
    mon := t.mon, booth := t.booth, disp := t.disp
    shows := { s.shows with screens := t.shows.screens }
    chans := { s.chans with channels := t.chans.channels, sounds := t.chans.sounds }
    posts := { s.posts with rows := t.posts.rows }
    ords := { s.ords with windows := t.ords.windows }
    doms := { s.doms with domains := t.doms.domains } }

theorem openingFrame_trans (h : OpeningFrame s t) (k : OpeningFrame t u) : OpeningFrame s u := by
  unfold OpeningFrame at *
  rw [k, h]

theorem openingFrame_of_stageFrame (h : StageFrame s t) : OpeningFrame s t := by
  unfold StageFrame at h
  unfold OpeningFrame
  rw [h]

theorem openingFrame_modScreen (n : Fin 6) (f : Screen → Screen) (s : State) : OpeningFrame s (s.modScreen n f) := rfl

theorem openingFrame_readUnits (l : List (Fin 384)) (s : State) : OpeningFrame s (s.readUnits l) := by
  unfold OpeningFrame
  rw [State.readUnits_frame]

/-- The permitted flags of the channels and the lengths of the rows stand from `s` to `t`. -/
structure SitesKept (s t : State) : Prop where
  frame : OpeningFrame s t
  permitted : ∀ c : Fin 12, t.chans.channels[c].permitted = s.chans.channels[c].permitted
  positions : ∀ r : Fin 48, t.posts.rows[r].positions = s.posts.rows[r].positions

theorem sitesKept_refl (s : State) : SitesKept s s := ⟨rfl, fun _ => rfl, fun _ => rfl⟩

theorem sitesKept_trans (h : SitesKept s t) (k : SitesKept t u) : SitesKept s u :=
  ⟨openingFrame_trans h.frame k.frame, fun c => (k.permitted c).trans (h.permitted c),
    fun r => (k.positions r).trans (h.positions r)⟩

theorem sitesKept_of_stage (h : Stage s t) : SitesKept s t :=
  ⟨openingFrame_of_stageFrame h.frame, h.permitted, h.positions⟩

theorem readUnits_kept (l : List (Fin 384)) (s : State) : SitesKept s (s.readUnits l) ∧
    (s.readUnits l).shows = s.shows := by
  refine ⟨⟨openingFrame_readUnits l s, fun c => ?_, fun r => ?_⟩, ?_⟩ <;> rw [State.readUnits_frame]

theorem readShow_kept (n : Fin 6) (s : State) : SitesKept s (s.readShow n) ∧ (s.readShow n).shows = s.shows := by
  obtain ⟨header, shows⟩ := readUnits_kept [unitIndex 5 (headerUnit n)] s
  unfold State.readShow
  dsimp only
  split
  · obtain ⟨segments, shows'⟩ := readUnits_kept (segmentUnits n _) (s.readUnits [unitIndex 5 (headerUnit n)])
    exact ⟨sitesKept_trans header segments, shows'.trans shows⟩
  · exact ⟨header, shows⟩

theorem openingFrame_store (h : OpeningFrame s t) : t.store = s.store := by rw [h]
theorem openingFrame_lot (h : OpeningFrame s t) : t.lot = s.lot := by rw [h]

/-- A screen with no field, or no usable default show. -/
def Unlisted (s : State) (n : Fin 6) : Prop := s.lot.fields[n] = none ∨ s.store.defaultShow n = none

/-- From `s` to `t` screen `n` was opened: every other show keeps its list and stands if it stood, and stays as it was
if it had nothing to start or resume. -/
structure Opens (n : Fin 6) (s t : State) : Prop extends SitesKept s t where
  list : ∀ m, m ≠ n → t.shows.screens[m].list = s.shows.screens[m].list
  stood : ∀ m, m ≠ n → stands s.shows.screens[m].state → stands t.shows.screens[m].state
  quiet : ∀ m, m ≠ n → Quiet s.shows.screens[m] → t.shows.screens[m] = s.shows.screens[m]
  unlisted : Unlisted s n → t.shows.screens[n] = s.shows.screens[n]
  listed : ∀ l start, s.lot.fields[n] ≠ none → s.store.defaultShow n = some (l, start) →
    t.shows.screens[n].list = l ∧ stands t.shows.screens[n].state

/-- A default show loaded on a screen that leaves DARK. -/
def showLoaded (n : Fin 6) (l : List Segment) (start : Option Nat) (s : State) : State :=
  ((s.storeShow n l start).leaveDark n).examineStart n

theorem openScreen_noField (h : s.lot.fields[n] = none) : s.openScreen n = s := by
  rw [State.openScreen, h]
  rfl

theorem openScreen_field (h : s.lot.fields[n] ≠ none) : s.openScreen n =
    match (s.readShow n).store.defaultShow n with
    | some (l, start) => showLoaded n l start (s.readShow n)
    | none => s.readShow n := by
  have field : ¬ s.lot.fields[n].isNone = true := fun none => h (Option.isNone_iff_eq_none.mp none)
  rw [State.openScreen, if_neg field]
  rfl

/-- The screens after a default show was loaded on screen `n`. -/
theorem showLoaded_screens (n : Fin 6) (l : List Segment) (start : Option Nat) (s : State) :
    let t := showLoaded n l start s
    SitesKept s t ∧ (t.shows.screens[n].list = l ∧ stands t.shows.screens[n].state) ∧
      ∀ m, m ≠ n → t.shows.screens[m].list = s.shows.screens[m].list ∧
        (stands s.shows.screens[m].state → stands t.shows.screens[m].state) ∧
        (Quiet s.shows.screens[m] → t.shows.screens[m] = s.shows.screens[m]) := by
  let u := s.storeShow n l start
  have shown : Only n u (u.setShow n .preshow) := only_setShow n u stands_preshow
  have later : Staged n (u.setShow n .preshow) (showLoaded n l start s) :=
    staged_trans (staged_trans (staged_withdrawRest n _) (staged_updateWanting n _)) (staged_examineStart n _)
  have stored : u.shows.screens[n].list = l := by
    show ((s.modScreen n _).shows.screens[n]).list = l
    rw [modScreen_screen]
  have other (m : Fin 6) (hm : m ≠ n) : (u.setShow n .preshow).shows.screens[m] = s.shows.screens[m] :=
    (shown.other m hm).trans (modScreen_other _ s hm.symm)
  refine ⟨sitesKept_trans ⟨openingFrame_modScreen n _ s, fun _ => rfl, fun _ => rfl⟩
    (sitesKept_of_stage (stage_trans shown.toStage later.toStage)),
    ⟨(later.list n).trans ((shown.list n).trans stored), later.stands n ?_⟩, fun m hm => ?_⟩
  · rw [setShow_screen, shownAs_state]
    exact stands_preshow
  · rw [← other m hm]
    exact ⟨later.list m, later.stands m, later.quiet m hm⟩

theorem opens_openScreen (n : Fin 6) (s : State) : Opens n s (s.openScreen n) := by
  obtain ⟨read, shows⟩ := readShow_kept n s
  have store := openingFrame_store read.frame
  by_cases field : s.lot.fields[n] = none
  · rw [openScreen_noField field]
    exact ⟨sitesKept_refl s, fun _ _ => rfl, fun _ _ h => h, fun _ _ _ => rfl, fun _ => rfl,
      fun _ _ listed => absurd field listed⟩
  · rw [openScreen_field field, store]
    cases show' : s.store.defaultShow n with
    | none =>
      show Opens n s (s.readShow n)
      exact ⟨read, fun _ _ => by rw [shows], fun _ _ h => by rwa [shows], fun _ _ _ => by rw [shows],
        fun _ => by rw [shows], fun _ _ _ given => nomatch show'.symm.trans given⟩
    | some given =>
      obtain ⟨l, start⟩ := given
      show Opens n s (showLoaded n l start (s.readShow n))
      obtain ⟨kept, loaded, others⟩ := showLoaded_screens n l start (s.readShow n)
      rw [shows] at others
      refine ⟨sitesKept_trans read kept, fun m hm => (others m hm).1, fun m hm => (others m hm).2.1,
        fun m hm => (others m hm).2.2, fun unlisted => ?_, fun l' start' _ given => ?_⟩
      · obtain none | none := unlisted
        · exact absurd none field
        · exact nomatch show'.symm.trans none
      · cases show'.symm.trans given
        exact loaded

/-! ## The screens opened in turn -/

/-- From `s` to `t` the screens of `c` were opened in turn, each with nothing to start or resume before. -/
structure AllOpened (c : List (Fin 6)) (s t : State) : Prop extends SitesKept s t where
  list : ∀ m, m ∉ c → t.shows.screens[m].list = s.shows.screens[m].list
  stood : ∀ m, m ∉ c → stands s.shows.screens[m].state → stands t.shows.screens[m].state
  quiet : ∀ m, m ∉ c → Quiet s.shows.screens[m] → t.shows.screens[m] = s.shows.screens[m]
  unlisted : ∀ m ∈ c, Unlisted s m → t.shows.screens[m] = s.shows.screens[m]
  listed : ∀ m ∈ c, ∀ l start, s.lot.fields[m] ≠ none → s.store.defaultShow m = some (l, start) →
    t.shows.screens[m].list = l ∧ stands t.shows.screens[m].state

theorem each_openScreen {c : List (Fin 6)} (nodup : c.Nodup) (s : State) (quiet : ∀ m ∈ c, Quiet s.shows.screens[m]) :
    AllOpened c s (s.each c State.openScreen) := by
  induction c generalizing s with
  | nil => exact ⟨sitesKept_refl s, fun _ _ => rfl, fun _ _ h => h, fun _ _ _ => rfl, nofun, nofun⟩
  | cons n rest ih =>
    obtain ⟨fresh, nodup'⟩ := List.nodup_cons.mp nodup
    have first := opens_openScreen n s
    have apart (m : Fin 6) (hm : m ∈ rest) : m ≠ n := fun same => fresh (same ▸ hm)
    have same (m : Fin 6) (hm : m ∈ rest) : (s.openScreen n).shows.screens[m] = s.shows.screens[m] :=
      first.quiet m (apart m hm) (quiet m (List.mem_cons_of_mem n hm))
    have later := ih nodup' (s.openScreen n) fun m hm => by
      rw [same m hm]
      exact quiet m (List.mem_cons_of_mem n hm)
    have store := openingFrame_store first.frame
    have lot := openingFrame_lot first.frame
    rw [TabOrders.each_cons]
    have absent {m : Fin 6} (hm : m ∉ n :: rest) : m ≠ n ∧ m ∉ rest := not_or.mp (mt List.mem_cons.mpr hm)
    refine ⟨sitesKept_trans first.toSitesKept later.toSitesKept,
      fun m hm => (later.list m (absent hm).2).trans (first.list m (absent hm).1),
      fun m hm st => later.stood m (absent hm).2 (first.stood m (absent hm).1 st), fun m hm q => ?_,
      fun m hm none => ?_, fun m hm l start field given => ?_⟩
    · have kept := first.quiet m (absent hm).1 q
      exact (later.quiet m (absent hm).2 (by rwa [kept])).trans kept
    · obtain rfl | hm := List.mem_cons.mp hm
      · have kept := first.unlisted none
        exact (later.quiet m fresh (by rw [kept]; exact quiet m List.mem_cons_self)).trans kept
      · exact (later.unlisted m hm (by rwa [Unlisted, lot, store])).trans (same m hm)
    · obtain rfl | hm := List.mem_cons.mp hm
      · obtain ⟨list, st⟩ := first.listed l start field given
        exact ⟨(later.list m fresh).trans list, later.stood m fresh st⟩
      · exact later.listed m hm l start (by rwa [lot]) (by rwa [store])

end Sys2Proof.Opening
end

section
/-!
SUPPORT. The blocks that OPEN_NIGHT sets before the default shows (R160 steps 1 to 4): the lot, the settings, the rows,
the runners and the screens.
-/

namespace Sys2Proof.Opening

open Sys2Proof Sys2Proof.Machine Sys2Proof.NightUnit Sys2Proof.Shows Sys2Proof.Staging Sys2Proof.Invariants

variable {n : Fin 6} {s t u : State}

/-! ## The lot (R23) -/

/-- `t` differs from `s` at most in the monitor, the booth port, the lot and the stalls. -/
def LotBuilt (s t : State) : Prop :=
  t = { s with
    mon := t.mon, booth := t.booth, lot := t.lot
    mem := { s.mem with stalls := t.mem.stalls, stallMarks := t.mem.stallMarks } }

theorem buildLot_frame (s : State) : LotBuilt s s.buildLot := by
  have frame := State.readUnits_frame s.store.layoutUnits s
  unfold LotBuilt State.buildLot
  dsimp only
  generalize s.readUnits s.store.layoutUnits = u at *
  rw [frame]
  rfl

/-- The state in which the lot is built: the units of the layout read. -/
def layoutRead (s : State) : State := s.readUnits s.store.layoutUnits

theorem layoutRead_store (s : State) : (layoutRead s).store = s.store := by
  rw [layoutRead, State.readUnits_frame]

theorem buildLot_field (n : Fin 6) (s : State) : s.buildLot.lot.fields[n] = (s.store.fields[n.val]?).join := by
  have field : s.buildLot.lot.fields[n] = ((layoutRead s).store.fields[n.val]?).join := Vector.getElem_ofFn _
  rw [field, layoutRead_store]

theorem buildLot_queue (n : Fin 6) (s : State) : s.buildLot.lot.queues[n] = [] := Vector.getElem_replicate _

theorem buildLot_occupant (i : Fin 1024) (s : State) : s.buildLot.lot.occupants[i] = none := Vector.getElem_replicate _

theorem place_closed {l : LotMap} {i : Fin 1024} {x : Stall} (h : l.place i = some x) : x.closed = false := by
  obtain ⟨n, -, found⟩ := List.exists_of_findSome?_eq_some h
  split at found
  · split at found
    · cases found
      rfl
    · cases found
  · cases found

theorem placed_closed (l : LotMap) (i : Fin 1024) : ((l.place i).getD Stall.unusedPattern).closed = false := by
  cases h : l.place i with
  | none => rfl
  | some x => exact place_closed h

theorem buildLot_stall (i : Fin 1024) (s : State) : s.buildLot.mem.stalls[i] =
    ((layoutRead s).mem.stalls[i].write ((s.buildLot.lot.place i).getD Stall.unusedPattern)).unmark :=
  Vector.getElem_ofFn _

theorem content_written {α : Type} (x : α) (slot : Slot α) : (slot.write x).unmark.content = x := rfl

theorem marked_written {α : Type} (x : α) (slot : Slot α) : (slot.write x).unmark.marked = false := rfl

theorem buildLot_free (i : Fin 1024) (s : State) : s.buildLot.stallState i = .free := by
  rw [State.stallState, State.stall, buildLot_stall, content_written, buildLot_occupant]
  exact if_neg (ne_true_of_eq_false (placed_closed _ i))

theorem buildLot_unmarked (i : Fin 1024) (s : State) : s.buildLot.mem.stalls[i].marked = false := by
  rw [buildLot_stall, marked_written]

/-! ## The settings (R160 step 3) -/

/-- The units of the settings read. -/
def settingsRead (s : State) : State := s.readUnits settingUnits

/-- The settings set by their numbers. -/
def settingsSet (r : Store) (s : State) : State :=
  { s with
    gate := { s.gate with
      presenceTime := r.siteNumber 0, barrierTime := r.siteNumber 1, voidTime := r.siteNumber 2
      stuckTime := r.siteNumber 3 }
    shows := { s.shows with startTimeout := r.siteNumber 4, graceTime := r.siteNumber 5 }
    chans := { s.chans with
      faultTime := r.siteNumber 6, announceTime := r.siteNumber 7, quarantineTime := r.siteNumber 8
      channels := s.chans.channels.mapFinIdx fun i x h => { x with permitted := r.permitted ⟨i, h⟩ } }
    posts := { s.posts with
      onTime := r.siteNumber 9, dropoutTime := r.siteNumber 10, maximumHold := r.siteNumber 11
      offTime := r.siteNumber 12, cycleTime := r.siteNumber 13, interKeyTime := r.siteNumber 14 }
    ords := { s.ords with
      orderLimit := r.siteNumber 15, tabLimit := r.siteNumber 16, tripTime := r.siteNumber 17
      prices := Vector.ofFn r.price }
    mem := { s.mem with patrolPeriod := r.siteNumber 18, patrolTimer := some (r.siteNumber 18) }
    doms := { s.doms with acknowledgeTime := r.siteNumber 19, wakeTime := r.siteNumber 20 } }

theorem loadSettings_eq (s : State) : s.loadSettings = settingsSet s.store (settingsRead s) := by
  have store : (settingsRead s).store = s.store := by rw [settingsRead, State.readUnits_frame]
  unfold settingsRead at store ⊢
  unfold State.loadSettings
  dsimp only
  generalize s.readUnits settingUnits = u at *
  rw [← store]
  simp only [State.modDoms, State.modMem, State.modOrds, State.modPosts, State.modChans, State.modShows, State.modGate,
    settingsSet]

/-! ## The rows (R123) -/

/-- A row at OPEN_NIGHT: its positions from the field records, and the present finding taken. -/
def openRow (r : Fin 48) (s : State) : State :=
  (s.modRow r fun x => { x.silence with positions := s.lot.positions r, lastRefusal := none }).takePresent r

theorem openRows_eq (s : State) : s.openRows = s.each (List.finRange 48) openRow := rfl

/-- `t` differs from `s` in the rows alone. -/
def RowsAlone (s t : State) : Prop := t = { s with posts := { s.posts with rows := t.posts.rows } }

theorem rowsAlone_trans (h : RowsAlone s t) (k : RowsAlone t u) : RowsAlone s u := by
  unfold RowsAlone at *
  rw [k, h]

theorem rowsAlone_refl (s : State) : RowsAlone s s := rfl

theorem rowsAlone_modRow (r : Fin 48) (f : Row → Row) (s : State) : RowsAlone s (s.modRow r f) := rfl

theorem rowsAlone_takePresent (r : Fin 48) (s : State) : RowsAlone s (s.takePresent r) := by
  unfold State.takePresent
  split
  · exact rowsAlone_modRow r _ s
  · exact rowsAlone_refl s

theorem rowsAlone_openRow (r : Fin 48) (s : State) : RowsAlone s (openRow r s) :=
  rowsAlone_trans (rowsAlone_modRow r _ s) (rowsAlone_takePresent r _)

theorem openRows_alone (s : State) : RowsAlone s s.openRows := by
  rw [openRows_eq]
  exact each_keeps (RowsAlone s) (rowsAlone_refl s) (fun r t ht => rowsAlone_trans ht (rowsAlone_openRow r t)) _

theorem rowsAlone_lot (h : RowsAlone s t) : t.lot = s.lot := by rw [h]

theorem openRow_positions (r q : Fin 48) (s : State) : (openRow r s).posts.rows[q].positions =
    if r = q then s.lot.positions q else s.posts.rows[q].positions := by
  rw [openRow, (staged_takePresent 0 r _).positions q]
  by_cases same : r = q
  · subst same
    rw [PostRows.modRow_row, if_pos rfl]
  · rw [if_neg same]
    exact congrArg Row.positions (upd_get_other _ _ _ _ same)

/-- A row with the positions that the field records give it. -/
def Measured (q : Fin 48) (s : State) : Prop := s.posts.rows[q].positions = s.lot.positions q

theorem measured_openRow (r : Fin 48) (s : State) : Measured r (openRow r s) := by
  rw [Measured, openRow_positions, if_pos rfl, rowsAlone_lot (rowsAlone_openRow r s)]

theorem measured_openRow_of_measured (q r : Fin 48) (s : State) (h : Measured q s) : Measured q (openRow r s) := by
  rw [Measured, openRow_positions, rowsAlone_lot (rowsAlone_openRow r s)]
  split
  · rfl
  · exact h

theorem openRows_measured (q : Fin 48) (s : State) : Measured q s.openRows := by
  rw [openRows_eq]
  exact Losses.each_reaches measured_openRow measured_openRow_of_measured _ s q (List.mem_finRange q)

end Sys2Proof.Opening
end

section
/-!
SUPPORT. What OPEN_NIGHT has set before the default shows, as a whole, and the steps after them (R64, R160 steps 5 to 9).
-/

namespace Sys2Proof.Opening

open Sys2Proof Sys2Proof.Machine Sys2Proof.NightUnit Sys2Proof.Shows Sys2Proof.Staging Sys2Proof.Invariants
open Sys2Proof.Tearing

variable {n : Fin 6} {s t u : State}

/-! ## The settings in force -/

/-- The settings of SITE that the blocks hold, in the order of their places. -/
def settingsOf (t : State) : List Nat :=
  [t.gate.presenceTime, t.gate.barrierTime, t.gate.voidTime, t.gate.stuckTime, t.shows.startTimeout, t.shows.graceTime,
    t.chans.faultTime, t.chans.announceTime, t.chans.quarantineTime, t.posts.onTime, t.posts.dropoutTime,
    t.posts.maximumHold, t.posts.offTime, t.posts.cycleTime, t.posts.interKeyTime, t.ords.orderLimit, t.ords.tabLimit,
    t.ords.tripTime, t.mem.patrolPeriod, t.doms.acknowledgeTime, t.doms.wakeTime]

theorem settingsOf_settingsSet (r : Store) (s : State) :
    settingsOf (settingsSet r s) = (List.range 21).map r.siteNumber := rfl

theorem siteNumbers_eq (r : Store) : (List.range 21).map r.siteNumber = sitePlaces.map r.siteValue := rfl

/-! ## The blocks before the default shows (R160 steps 1 to 4) -/

/-- The state of OPEN_NIGHT with its totals at 0 and its lot built. -/
def lotReady (s : State) : State := (s.modNight Night.opening).buildLot

/-- The state of OPEN_NIGHT with its settings loaded. -/
def settled (s : State) : State := settingsSet s.store (settingsRead (lotReady s))

/-- The rows, the runners and the screens set. -/
def rowsReady (s : State) : State :=
  (s.openRows.modOrds fun o => { o with runners := o.runners.map Runner.makeReady }).modShows fun c =>
    { c with screens := c.screens.map Screen.opening }

theorem lotReady_built (s : State) : LotBuilt (s.modNight Night.opening) (lotReady s) := buildLot_frame _

theorem lotReady_store (s : State) : (lotReady s).store = s.store := by
  rw [lotReady_built s]
  rfl

theorem loaded_eq (s : State) : loaded s = rowsReady (settled s) := by
  have set : (lotReady s).loadSettings = settled s := by rw [loadSettings_eq, lotReady_store, settled]
  rw [← set]
  rfl

theorem rowsReady_eq (s : State) : rowsReady s = { s with
    posts := { s.posts with rows := s.openRows.posts.rows }
    ords := { s.ords with runners := s.ords.runners.map Runner.makeReady }
    shows := { s.shows with screens := s.shows.screens.map Screen.opening } } := by
  have alone := openRows_alone s
  unfold RowsAlone at alone
  unfold rowsReady
  generalize s.openRows = u at *
  rw [alone]
  rfl

/-- What the settings leave and set, from the state in which the lot is built. -/
structure Settled (s t : State) : Prop where
  settings : settingsOf t = sitePlaces.map s.store.siteValue
  prices : t.ords.prices = Vector.ofFn s.store.price
  permitted : ∀ c : Fin 12, t.chans.channels[c].permitted = s.store.permitted c
  lot : t.lot = (lotReady s).lot
  stalls : t.mem.stalls = (lotReady s).mem.stalls
  admissions : t.mem.admissions = s.mem.admissions
  orders : t.mem.orders = s.mem.orders
  lanes : t.gate.lanes = s.gate.lanes
  screens : t.shows.screens = s.shows.screens
  runners : t.ords.runners = s.ords.runners
  night : t.night = s.night.opening
  store : t.store = s.store
  sys : t.sys = s.sys

theorem settled_settled (s : State) : Settled s (settled s) := by
  have built := lotReady_built s
  have read := State.readUnits_frame settingUnits (lotReady s)
  unfold LotBuilt at built
  unfold settled settingsRead
  generalize (lotReady s).readUnits settingUnits = u at *
  exact {
    settings := (settingsOf_settingsSet s.store u).trans (siteNumbers_eq s.store)
    prices := rfl
    permitted := fun c => congrArg Channel.permitted (Vector.getElem_mapFinIdx _)
    lot := by
      show u.lot = _
      rw [read]
    stalls := by
      show u.mem.stalls = _
      rw [read]
    admissions := by
      show u.mem.admissions = _
      rw [read, built]
      rfl
    orders := by
      show u.mem.orders = _
      rw [read, built]
      rfl
    lanes := by
      show u.gate.lanes = _
      rw [read, built]
      rfl
    screens := by
      show u.shows.screens = _
      rw [read, built]
      rfl
    runners := by
      show u.ords.runners = _
      rw [read, built]
      rfl
    night := by
      show u.night = _
      rw [read, built]
      rfl
    store := by
      show u.store = _
      rw [read, built]
      rfl
    sys := by
      show u.sys = _
      rw [read, built]
      rfl }

/-! ## The lanes and the end (R64, R160 steps 6 to 9) -/

/-- A lane as OPEN_NIGHT sets it, before it is torn down. -/
def roleSet (role : LaneRole) (l : Lane) : Lane := { l with role := role, passes := 0, tailgates := 0, voids := 0 }

/-- `t` differs from `s` in the lanes and the booth port alone. -/
def LanesAlone (s t : State) : Prop := t = { s with booth := t.booth, gate := { s.gate with lanes := t.gate.lanes } }

theorem lanesAlone_refl (s : State) : LanesAlone s s := rfl

theorem lanesAlone_trans (h : LanesAlone s t) (k : LanesAlone t u) : LanesAlone s u := by
  unfold LanesAlone at *
  rw [k, h]

theorem openLane_eq (n : Fin 4) (s : State) :
    s.openLane n = s.modLane n (fun l => (roleSet (s.store.role n) l).tearDown) ∨
    s.openLane n = (s.modLane n fun l => (roleSet (s.store.role n) l).tearDown).raiseBooth .lanePresent := by
  unfold State.openLane State.announcePresent
  split
  · exact .inr rfl
  · exact .inl rfl

theorem lanesAlone_openLane (n : Fin 4) (s : State) : LanesAlone s (s.openLane n) := by
  obtain opened | opened := openLane_eq n s <;> rw [opened] <;> rfl

theorem lanesAlone_store (h : LanesAlone s t) : t.store = s.store := by rw [h]

theorem openLane_lanes (n m : Fin 4) (s : State) : (s.openLane n).gate.lanes[m] =
    if n = m then (roleSet (s.store.role m) s.gate.lanes[m]).tearDown else s.gate.lanes[m] := by
  have changed := modLane_lanes n m (fun l => (roleSet (s.store.role n) l).tearDown) s
  have roles : (if n = m then (roleSet (s.store.role n) s.gate.lanes[m]).tearDown else s.gate.lanes[m]) =
      if n = m then (roleSet (s.store.role m) s.gate.lanes[m]).tearDown else s.gate.lanes[m] := by
    split
    next same => rw [same]
    next => rfl
  rw [← roles]
  obtain opened | opened := openLane_eq n s <;> rw [opened] <;> exact changed

/-- Distinct lanes opened in turn. -/
theorem each_openLane {c : List (Fin 4)} (nodup : c.Nodup) (s : State) : LanesAlone s (s.each c State.openLane) ∧
    ∀ m : Fin 4, (s.each c State.openLane).gate.lanes[m] =
      if m ∈ c then (roleSet (s.store.role m) s.gate.lanes[m]).tearDown else s.gate.lanes[m] := by
  induction c generalizing s with
  | nil => exact ⟨lanesAlone_refl s, fun _ => rfl⟩
  | cons n rest ih =>
    obtain ⟨fresh, nodup'⟩ := List.nodup_cons.mp nodup
    have first := lanesAlone_openLane n s
    obtain ⟨alone, lanes⟩ := ih nodup' (s.openLane n)
    rw [TabOrders.each_cons]
    refine ⟨lanesAlone_trans first alone, fun m => ?_⟩
    rw [lanes m, lanesAlone_store first, openLane_lanes]
    by_cases same : n = m
    · subst same
      simp [fresh]
    · simp [same, Ne.symm same]

/-- `t` differs from `s` at most in the monitor, the booth port and the gate's lanes and counts. -/
def LanesOpened (s t : State) : Prop := t = { s with
  mon := t.mon, booth := t.booth
  gate := { s.gate with lanes := t.gate.lanes, live := Vector.replicate 6 0, admitted := Vector.replicate 6 0 } }

theorem openLanes_opened (s : State) : LanesOpened s s.openLanes ∧
    ∀ m : Fin 4, s.openLanes.gate.lanes[m] = (roleSet (s.store.role m) s.gate.lanes[m]).tearDown := by
  have read := State.readUnits_frame [unitIndex 2 0] s
  unfold State.openLanes
  generalize s.readUnits [unitIndex 2 0] = u at *
  obtain ⟨alone, lanes⟩ := each_openLane (List.nodup_finRange 4) u
  generalize u.each (List.finRange 4) State.openLane = v at *
  refine ⟨?_, fun m => ?_⟩
  · unfold LanesAlone at alone
    unfold LanesOpened
    rw [alone, read]
    rfl
  · refine (lanes m).trans ?_
    rw [if_pos (List.mem_finRange m), read]

/-- `t` differs from `s` at most in the store's lock, the night, the displays and the windows. -/
structure NightOpened (s t : State) : Prop where
  frame : t = { s with store := { s.store with locked := true }, disp := t.disp
                       night := { s.night with state := .opened, secondTimer := some 1000 }
                       ords := { s.ords with windows := t.ords.windows } }
  windows : ∀ n : Fin 6, t.ords.windows[n] = t.windowCondition n

/-- The store locked and the night OPEN, before the windows follow. -/
def nightSet (s : State) : State :=
  (s.modStore fun r => { r with locked := true }).modNight fun n => { n with state := .opened, secondTimer := seconds 1 }

theorem nightOpens_eq (s : State) : s.nightOpens = (nightSet s).recomputeWindows.showAllWords := rfl

theorem windowFrame_showAllWords (s : State) : WindowFrame s s.showAllWords :=
  each_keeps (WindowFrame s) (windowFrame_refl s) (fun _ _ ht => windowFrame_trans ht (by exact rfl)) _

theorem showAllWords_ords (s : State) : s.showAllWords.ords = s.ords :=
  each_keeps (fun t => t.ords = s.ords) rfl (fun _ _ ht => by exact ht) _

theorem nightOpens_opened (s : State) : NightOpened s s.nightOpens := by
  have recomputed := recomputeWindows_windowFrame (nightSet s)
  have frame := windowFrame_trans recomputed (windowFrame_showAllWords (nightSet s).recomputeWindows)
  rw [nightOpens_eq]
  refine ⟨frame, fun n => ?_⟩
  rw [EquipmentDomains.windowFrame_windowCondition frame, showAllWords_ords,
    EquipmentDomains.recomputeWindows_windows]

end Sys2Proof.Opening
end

section
/-!
SUPPORT. OPEN_NIGHT (R159, R160): its checks in order, and the state in which a passed one leaves the part.
-/

namespace Sys2Proof.Opening

open Sys2Proof Sys2Proof.Machine Sys2Proof.Orders Sys2Proof.NightUnit Sys2Proof.Shows Sys2Proof.Staging
open Sys2Proof.Invariants Sys2Proof.Tearing

variable {s t u v : State} {r : Store} {a : Fin 6} {x : Fin 64}

/-! ## The checks of the store (R159 steps 3 to 6) -/

/-- The units that OPEN_NIGHT reads for its checks: those of areas 1 to 4. -/
def nightUnits : List (Fin 384) := ((List.finRange 384).drop 64).take 256

theorem nightUnits_length : nightUnits.length = 256 := by simp [nightUnits]

theorem nightUnits_getElem (j : Nat) (h : j < nightUnits.length) : nightUnits[j].val = 64 + j := by
  simp [nightUnits]

theorem mem_nightUnits {i : Fin 384} (h : i ∈ nightUnits) : 64 ≤ i.val ∧ i.val < 320 := by
  obtain ⟨j, hj, rfl⟩ := List.mem_iff_getElem.mp h
  rw [nightUnits_getElem]
  rw [nightUnits_length] at hj
  omega

theorem badUnit_eq (r : Store) : r.badUnit =
    (nightUnits.find? fun i => decide (r.units[i].status = .uncorrectable)).map fun i => (areaOf i, unitOf i) := rfl

theorem badUnit_none (h : ∀ i : Fin 384, 64 ≤ i.val → i.val < 320 → r.units[i].status ≠ .uncorrectable) :
    r.badUnit = none := by
  have none : nightUnits.find? (fun i => decide (r.units[i].status = .uncorrectable)) = none := by
    rw [List.find?_eq_none]
    intro i hi
    obtain ⟨low, high⟩ := mem_nightUnits hi
    simpa using h i low high
  rw [badUnit_eq, none]
  rfl

theorem badUnit_first {i : Fin 384} (low : 64 ≤ i.val) (high : i.val < 320)
    (bad : r.units[i].status = .uncorrectable)
    (first : ∀ j : Fin 384, 64 ≤ j.val → j < i → r.units[j].status ≠ .uncorrectable) :
    r.badUnit = some (areaOf i, unitOf i) := by
  have found : nightUnits.find? (fun i => decide (r.units[i].status = .uncorrectable)) = some i := by
    rw [List.find?_eq_some_iff_getElem]
    have place : i.val - 64 < nightUnits.length := by rw [nightUnits_length]; omega
    refine ⟨decide_eq_true bad, i.val - 64, place, Fin.ext ?_, fun j hj => ?_⟩
    · rw [nightUnits_getElem]
      omega
    · have value := nightUnits_getElem j (hj.trans place)
      have good := first nightUnits[j] (by omega) (Fin.lt_def.mpr (by omega))
      simpa using good
  rw [badUnit_eq, found]
  rfl

theorem nightFault_bad {p : Fin 6 × Fin 64} (h : r.badUnit = some p) : r.nightFault = some p := by
  rw [Store.nightFault, h]
  rfl

theorem nightFault_site (bad : r.badUnit = none) (h : r.siteFault = some x) : r.nightFault = some (2, x) := by
  rw [Store.nightFault, bad, h]
  rfl

theorem nightFault_price (bad : r.badUnit = none) (site : r.siteFault = none) (h : r.priceFault = some x) :
    r.nightFault = some (3, x) := by
  rw [Store.nightFault, bad, site, h]
  rfl

theorem nightFault_layout (bad : r.badUnit = none) (site : r.siteFault = none) (price : r.priceFault = none)
    (h : r.layoutFault = some x) : r.nightFault = some (1, x) := by
  rw [Store.nightFault, bad, site, price, h]
  rfl

/-! ## The command -/

/-- The units of areas 1 to 4 read. -/
def unitsRead (s : State) : State := s.readUnits nightUnits

theorem unitsRead_eq (s : State) : unitsRead s = { s with mon := (unitsRead s).mon, booth := (unitsRead s).booth } :=
  State.readUnits_frame nightUnits s

theorem unitsRead_store (s : State) : (unitsRead s).store = s.store := by rw [unitsRead_eq]

theorem openNight_badState (h : s.night.state ≠ .closed) : openNight s = s.refuse .badState := if_pos h

theorem openNight_busy (h : s.night.state = .closed) (op : s.store.op ≠ none) : openNight s = s.refuse .busy := by
  have busy : s.store.busy = true := Option.isSome_iff_ne_none.mpr op
  rw [openNight, if_neg (not_not.mpr h), if_pos busy]

theorem openNight_reads (h : s.night.state = .closed) (op : s.store.op = none) {reply : Reply}
    (fault : ∀ a x, s.store.nightFault = some (a, x) →
      reply = { state := unitsRead s, status := .storeFault, data := [byte1 a.val, byte1 x.val] })
    (good : s.store.nightFault = none → reply = (unitsRead s).openSteps.ok
      (byte1 s.store.fieldCount :: bytes2 s.store.stallTotal)) : openNight s = reply := by
  have idle : ¬ s.store.busy = true := fun busy => Option.isSome_iff_ne_none.mp busy op
  have store := unitsRead_store s
  unfold unitsRead nightUnits at *
  rw [openNight, if_neg (not_not.mpr h), if_neg idle]
  generalize s.readUnits (((List.finRange 384).drop 64).take 256) = u at *
  dsimp only
  rw [store]
  cases found : s.store.nightFault with
  | none => exact (good found).symm
  | some p => exact (fault p.1 p.2 found).symm

theorem openNight_fault (h : s.night.state = .closed) (op : s.store.op = none)
    (fault : s.store.nightFault = some (a, x)) : openNight s =
      { state := unitsRead s, status := .storeFault, data := [byte1 a.val, byte1 x.val] } :=
  openNight_reads h op (fun b y found => by cases fault.symm.trans found; rfl)
    fun good => nomatch fault.symm.trans good

theorem openNight_opens (h : s.night.state = .closed) (op : s.store.op = none) (good : s.store.nightFault = none) :
    openNight s = (unitsRead s).openSteps.ok (byte1 s.store.fieldCount :: bytes2 s.store.stallTotal) :=
  openNight_reads h op (fun _ _ found => nomatch good.symm.trans found) fun _ => rfl

theorem exec_openNight_fault (ht : s.takes .booth 0x58) (h : s.night.state = .closed) (op : s.store.op = none)
    (fault : s.store.nightFault = some (a, x)) : exec (.openNight .booth) s =
      .next ((unitsRead s).answer .booth 0x58 .storeFault [byte1 a.val, byte1 x.val]) := by
  have answered := next_command_of_block ht (openNight_fault h op fault)
  dsimp only at answered
  exact answered

theorem exec_openNight_opens (ht : s.takes .booth 0x58) (h : s.night.state = .closed) (op : s.store.op = none)
    (good : s.store.nightFault = none) : exec (.openNight .booth) s =
      .next ((unitsRead s).openSteps.answer .booth 0x58 .ok ([byte1 s.store.fieldCount] ++ bytes2 s.store.stallTotal)) := by
  have answered := next_command_of_block ht (openNight_opens h op good)
  dsimp only [ok_state, ok_status, ok_data] at answered
  exact answered

/-! ## The blocks after the default shows -/

theorem settingsOf_openingFrame (h : OpeningFrame s t) : settingsOf t = settingsOf s := by
  rw [h]
  rfl

/-- From the default shows to the end of OPEN_NIGHT. -/
def Closing (s t : State) : Prop := t = { s with
  mon := t.mon, booth := t.booth, disp := t.disp, store := { s.store with locked := true }
  night := { s.night with state := .opened, secondTimer := some 1000 }
  ords := { s.ords with windows := t.ords.windows }
  gate := { s.gate with lanes := t.gate.lanes, live := Vector.replicate 6 0, admitted := Vector.replicate 6 0 } }

theorem closing_of_lanes (lanes : LanesOpened s t) (night : NightOpened t u) : Closing s u := by
  have frame := night.frame
  unfold LanesOpened at lanes
  unfold Closing
  rw [frame, lanes]

theorem settingsOf_closing (h : Closing s t) : settingsOf t = settingsOf s := by
  rw [h]
  rfl

/-- A screen at OPEN_NIGHT before its default show has nothing to start or resume. -/
theorem quiet_opening (c : Screen) : Quiet c.opening := ⟨rfl, rfl⟩

/-- What OPEN_NIGHT leaves, from the state whose units were read. -/
structure NightDone (s t : State) : Prop where
  settings : settingsOf t = sitePlaces.map s.store.siteValue
  prices : t.ords.prices = Vector.ofFn s.store.price
  permitted : ∀ c : Fin 12, t.chans.channels[c].permitted = s.store.permitted c
  lot : t.lot = (lotReady s).lot
  stalls : t.mem.stalls = (lotReady s).mem.stalls
  admissions : t.mem.admissions = s.mem.admissions
  orders : t.mem.orders = s.mem.orders
  positions : ∀ q : Fin 48, Measured q t
  runners : t.ords.runners = s.ords.runners.map Runner.makeReady
  unlisted : ∀ n : Fin 6, t.lot.fields[n] = none ∨ s.store.defaultShow n = none →
    t.shows.screens[n] = s.shows.screens[n].opening
  listed : ∀ n : Fin 6, ∀ l start, t.lot.fields[n] ≠ none → s.store.defaultShow n = some (l, start) →
    t.shows.screens[n].list = l ∧ stands t.shows.screens[n].state
  lanes : ∀ m : Fin 4, t.gate.lanes[m] = (roleSet (s.store.role m) s.gate.lanes[m]).tearDown
  counts : ∀ n : Fin 6, t.gate.live[n] = 0 ∧ t.gate.admitted[n] = 0
  windows : ∀ n : Fin 6, t.ords.windows[n] = t.windowCondition n
  night : t.night = { s.night.opening with state := .opened, secondTimer := some 1000 }
  store : t.store = { s.store with locked := true }
  sys : t.sys = s.sys

theorem measured_congr {q : Fin 48} (rows : t.posts.rows = s.posts.rows) (lot : t.lot = s.lot) (h : Measured q s) :
    Measured q t := by
  unfold Measured at *
  rw [rows, lot, h]

theorem measured_rowsReady (q : Fin 48) (s : State) : Measured q (rowsReady s) := by
  have ready := rowsReady_eq s
  have alone := rowsAlone_lot (openRows_alone s)
  have measured := openRows_measured q s
  generalize s.openRows = u at *
  refine measured_congr (s := u) ?_ ?_ measured
  · rw [ready]
  · rw [ready, alone]

/-- The three stages of OPEN_NIGHT put together: the blocks set in `t`, the screens opened in `u`, the night in `v`. -/
theorem nightDone_of_stages (set : Settled s t) (shown : AllOpened (List.finRange 6) (rowsReady t) u)
    (opened : ∀ m : Fin 4, v.gate.lanes[m] = (roleSet (u.store.role m) u.gate.lanes[m]).tearDown)
    (closing : Closing u v) (windows : ∀ n : Fin 6, v.ords.windows[n] = v.windowCondition n) : NightDone s v := by
  have ready := rowsReady_eq t
  have frame := shown.frame
  have store : u.store = s.store := by rw [frame, ready]; exact set.store
  have lot : u.lot = t.lot := by rw [frame, ready]
  have screen (n : Fin 6) : (rowsReady t).shows.screens[n] = s.shows.screens[n].opening := by
    have mapped : (rowsReady t).shows.screens = t.shows.screens.map Screen.opening := by rw [ready]
    rw [mapped, set.screens]
    exact Vector.getElem_map _ _
  have fields : v.lot = t.lot := by rw [closing]; exact lot
  have shows : v.shows = u.shows := by rw [closing]
  have readyLot : (rowsReady t).lot = t.lot := by rw [ready]
  have readyStore : (rowsReady t).store = s.store := by rw [ready]; exact set.store
  exact {
    settings := by
      rw [settingsOf_closing closing, settingsOf_openingFrame frame, ready]
      exact set.settings
    prices := by
      rw [closing, frame, ready]
      exact set.prices
    permitted := fun c => by
      have chans : v.chans = u.chans := by rw [closing]
      rw [chans, shown.permitted, ready]
      exact set.permitted c
    lot := fields.trans set.lot
    stalls := by
      rw [closing, frame, ready]
      exact set.stalls
    admissions := by
      rw [closing, frame, ready]
      exact set.admissions
    orders := by
      rw [closing, frame, ready]
      exact set.orders
    positions := fun q => by
      have posts : v.posts = u.posts := by rw [closing]
      have measured := measured_rowsReady q t
      rw [Measured, readyLot] at measured
      rw [Measured, posts, fields, shown.positions, measured]
    runners := by
      rw [closing, frame, ready, ← set.runners]
    unlisted := fun n none => by
      rw [shows, shown.unlisted n (List.mem_finRange n), screen]
      rwa [Unlisted, readyLot, readyStore, ← fields]
    listed := fun n l start field given => by
      rw [shows]
      exact shown.listed n (List.mem_finRange n) l start (by rwa [readyLot, ← fields]) (by rwa [readyStore])
    lanes := fun m => by
      have lanes : u.gate.lanes = s.gate.lanes := by rw [frame, ready]; exact set.lanes
      rw [opened, store, lanes]
    counts := fun n => by
      rw [closing]
      exact ⟨Vector.getElem_replicate _, Vector.getElem_replicate _⟩
    windows := windows
    night := by
      rw [closing, frame, ready, set.night]
    store := by
      rw [closing, store]
    sys := by
      rw [closing, frame, ready]
      exact set.sys }

theorem openSteps_done (s : State) : NightDone s s.openSteps := by
  have quiet : ∀ m ∈ List.finRange 6, Quiet (rowsReady (settled s)).shows.screens[m] := fun m _ => by
    have screen : (rowsReady (settled s)).shows.screens[m] = (settled s).shows.screens[m].opening := by
      rw [rowsReady_eq]
      exact Vector.getElem_map _ _
    rw [screen]
    exact quiet_opening _
  have shows := each_openScreen (List.nodup_finRange 6) (rowsReady (settled s)) quiet
  rw [← loaded_eq] at shows
  have shown' : AllOpened (List.finRange 6) (rowsReady (settled s)) (shown s) := by
    rw [← loaded_eq]
    exact shows
  obtain ⟨alone, lanes⟩ := openLanes_opened (shown s)
  have opened := nightOpens_opened (shown s).openLanes
  rw [openSteps_eq]
  refine nightDone_of_stages (settled_settled s) shown' (fun m => ?_) (closing_of_lanes alone opened) opened.windows
  have gate : (shown s).openLanes.nightOpens.gate = (shown s).openLanes.gate := by rw [opened.frame]
  rw [gate, lanes]

end Sys2Proof.Opening
end

section
/-!
SUPPORT. What OPEN_NIGHT leaves, in the terms of the record memory, the lot and the settings of SITE (R160, R186).
-/

namespace Sys2Proof.Opening

open Sys2Proof Sys2Proof.Machine Sys2Proof.Orders Sys2Proof.Staging Sys2Proof.Invariants Sys2Proof.Tearing

variable {s t : State}

theorem siteValue_content {r : Store} {p : SitePlace} {b : Vector Byte 16} (h : r.content 2 p.unit = some b) :
    r.siteValue p = numberAt b p.off p.width := by
  rw [Store.siteValue, h]

theorem siteValue_default {r : Store} {p : SitePlace} (h : r.content 2 p.unit = none) :
    r.siteValue p = p.setting.default := by
  rw [Store.siteValue, h]

/-- A lane at OPEN_NIGHT: its role set, its counts at 0, and IDLE, or PRESENT by its loop A when it has a role. -/
theorem openedLane_eq (role : LaneRole) (l : Lane) : (roleSet role l).tearDown = { l with
    role := role, passes := 0, tailgates := 0, voids := 0
    state := if role ≠ .unused ∧ l.loopA.level = true then .present else .idle
    bound := none, cause := none, faultedFrom := none, raise := false, barrierTimer := none
    stuckTimer := none, voidTimer := none, returnTimer := none } :=
  tearDown_eq (roleSet role l)

theorem stallState_congr {i : Fin 1024} (lot : t.lot = s.lot) (stalls : t.mem.stalls = s.mem.stalls) :
    t.stallState i = s.stallState i := by
  unfold State.stallState State.stall
  rw [lot, stalls]

theorem marked_congr {i : Fin 1024} (stalls : t.mem.stalls = s.mem.stalls) :
    t.mem.stalls[i].marked = s.mem.stalls[i].marked := by
  rw [stalls]

/-- A stall after OPEN_NIGHT: without an occupant, FREE and unmarked. -/
theorem stall_free (done : NightDone s t) (i : Fin 1024) :
    Vacant i t ∧ t.stallState i = .free ∧ t.mem.stalls[i].marked = false :=
  ⟨vacant_of_lot done.lot (buildLot_occupant i _),
    (stallState_congr done.lot done.stalls).trans (buildLot_free i _),
    (marked_congr done.stalls).trans (buildLot_unmarked i _)⟩

theorem field_loaded (done : NightDone s t) (n : Fin 6) : t.lot.fields[n] = (s.store.fields[n.val]?).join := by
  rw [done.lot]
  exact buildLot_field n _

theorem queue_empty (done : NightDone s t) (n : Fin 6) : t.lot.queues[n] = [] := by
  rw [done.lot]
  exact buildLot_queue n _

theorem runner_ready (done : NightDone s t) (r : Fin 12) : t.ords.runners[r] = s.ords.runners[r].makeReady := by
  rw [done.runners]
  exact Vector.getElem_map _ _

theorem price_loaded (done : NightDone s t) (item : Fin 100) : t.ords.prices[item] = s.store.price item := by
  rw [done.prices]
  exact Vector.getElem_ofFn _

/-- A passed OPEN_NIGHT, whose checks have read their units. -/
theorem openedNight_done (s : State) : ∃ u : State, u = { s with mon := u.mon, booth := u.booth } ∧
    NightDone u (unitsRead s).openSteps := ⟨unitsRead s, unitsRead_eq s, openSteps_done _⟩

/-- Settles O48: the refusals by the checks in their order, and the blocks by what each step leaves. -/
theorem openNight : Obligations.OpenNight := by
  refine ⟨fun s ht => ⟨fun h => next_command_of_block ht (openNight_badState h),
    fun h op => next_command_of_block ht (openNight_busy h op), fun h op => ⟨fun a x fault => ?fault,
      fun i low high bad first => ?bad, fun readable => ⟨fun x site => ?site, fun x site price => ?price,
        fun x site price layout => ?layout⟩⟩⟩, fun s ht h op good => ?opens⟩
  case fault => exact ⟨unitsRead s, exec_openNight_fault ht h op fault, unitsRead_eq s⟩
  case bad => exact ⟨unitsRead s, exec_openNight_fault ht h op (nightFault_bad (badUnit_first low high bad first))⟩
  case site =>
    exact ⟨unitsRead s, exec_openNight_fault ht h op (nightFault_site (badUnit_none readable) site)⟩
  case price =>
    exact ⟨unitsRead s, exec_openNight_fault ht h op (nightFault_price (badUnit_none readable) site price)⟩
  case layout =>
    exact ⟨unitsRead s, exec_openNight_fault ht h op (nightFault_layout (badUnit_none readable) site price layout)⟩
  case opens =>
    refine ⟨(unitsRead s).openSteps, exec_openNight_opens ht h op good, ?_⟩
    obtain ⟨u, read, done⟩ := openedNight_done s
    generalize (unitsRead s).openSteps = t at *
    intro v
    have store : u.store = s.store := by rw [read]
    have value (p : SitePlace) : u.store.siteValue p = v p.setting p.unit p.off p.width := by
      rw [store]
      dsimp only [v]
      cases content : s.store.content 2 p.unit with
      | none => exact siteValue_default content
      | some b => exact siteValue_content content
    have settings := done.settings
    simp only [settingsOf, sitePlaces, List.map_cons, List.map_nil, List.cons.injEq, value, and_true] at settings
    obtain ⟨presence, barrier, void, stuck, start, grace, fault, announce, quarantine, on, dropout, hold, off, cycle,
      interKey, limit, tab, trip, patrol, acknowledge, wake⟩ := settings
    refine ⟨?night, ?store, presence, barrier, void, stuck, start, grace, fault, announce, quarantine, on, dropout, hold,
      off, cycle, interKey, limit, tab, trip, patrol, acknowledge, wake, fun item => ?prices, fun c => ?permitted,
      fun n => ⟨?fields, queue_empty done n, (done.counts n).1, (done.counts n).2, done.windows n⟩, stall_free done,
      done.positions, fun r => ?runners, fun n => ⟨fun none => ?unlisted, fun l start field given => ?listed⟩,
      fun n => ?lanes, ?admissions, ?orders, ?sys⟩
    case night => rw [done.night]; rfl
    case store => rw [done.store, store]
    case prices => rw [price_loaded done, store]
    case permitted => rw [done.permitted, store]
    case fields => rw [field_loaded done, store]
    case runners =>
      rw [runner_ready done, read]
      rfl
    case unlisted =>
      rw [done.unlisted n (by rwa [store]), read]
      exact ⟨rfl, rfl⟩
    case listed =>
      obtain ⟨list, standing⟩ := done.listed n l start field (by rwa [store])
      exact ⟨list, standing.1, standing.2⟩
    case lanes => rw [done.lanes, openedLane_eq, store, read]
    case admissions => rw [done.admissions, read]
    case orders => rw [done.orders, read]
    case sys => rw [done.sys, read]

end Sys2Proof.Opening
end
